-- ==== Sys2Proof/Word.lean ====
section
/-! DEFINITION. The plain types of the JC-16: bytes, serial numbers, indices and due instants. -/

namespace Sys2Proof

/-- One byte of a bus frame, a blade window or the start-up record. -/
abbrev Byte := BitVec 8

/-- A serial number that advances modulo 256: claim numbers, epochs, STANDING sequences, bid tags
(00_scope.md, Serial numbers). -/
abbrev Serial := BitVec 8

/-- A station address, 0 to 15 (R182). -/
abbrev Addr := Fin 16

/-- A slot index, 0 to 3. -/
abbrev SlotIx := Fin 4

/-- A port index of a slot, 0 to 3. -/
abbrev PortIx := Fin 4

/-- A cooling zone, 0 to 3. -/
abbrev ZoneIx := Fin 4

/-- An uplink module, 0 to 3. -/
abbrev ModuleIx := Fin 4

/-- A trunk lane number, 0 to 7. -/
abbrev LaneIx := Fin 8

/-- A supply channel or a fan channel, 0 to 1. -/
abbrev ChanIx := Fin 2

/-- A timer: the instant (ms) at which it expires while it runs, `none` while it is stopped. -/
abbrev Due := Option Nat

/-- `v` with its entry `i` replaced by `f` of it. -/
def updAt {α : Type} {n : Nat} (v : Vector α n) (i : Fin n) (f : α → α) : Vector α n :=
  v.set i (f v[i])

theorem updAt_self {α : Type} {n : Nat} (v : Vector α n) (i : Fin n) (f : α → α) :
    (updAt v i f)[i] = f v[i] := by
  simp [updAt]

/-- The same law in simp's own spelling of an index. -/
@[simp] theorem updAt_self_val {α : Type} {n : Nat} (v : Vector α n) (i : Fin n) (f : α → α) :
    (updAt v i f)[i.val] = f v[i.val] := by
  simp [updAt]

theorem updAt_ne {α : Type} {n : Nat} (v : Vector α n) (i j : Fin n) (f : α → α) (h : i ≠ j) :
    (updAt v i f)[j] = v[j] := by
  have hv : i.val ≠ j.val := fun e => h (Fin.ext e)
  simp [updAt, hv]

theorem updAt_get {α : Type} {n : Nat} (v : Vector α n) (i j : Fin n) (f : α → α) :
    (updAt v i f)[j] = if i = j then f v[i] else v[j] := by
  by_cases h : i = j
  · subst h; simp only [updAt_self, if_true]
  · simp only [h, if_false, updAt_ne v i j f h]

end Sys2Proof
end

