-- ==== Sys2Proof/Config.lean ====
section
/-! DEFINITION. The fixed figures of the part: periods, capacities and limits that no setting changes, and the one value
the manual leaves open. -/

namespace Sys2Proof.Config

/-- Presence debounce, ms (R40). -/
def presenceDebounce : Nat := 50
/-- Ejector debounce, ms (R40). -/
def ejectorDebounce : Nat := 20
/-- Time without the in-limit comparator that resets the overcurrent timer, ms (R40, R48). -/
def gateFreePeriod : Nat := 1000
/-- Stuck check after a switch-off, ms (R40, R59). -/
def stuckCheckPeriod : Nat := 50
/-- Off time of SLOT CYCLE, ms (R40, R56). -/
def cyclePeriod : Nat := 5000
/-- Continuous RUNNING that clears the retry count, ms (R40, R51). -/
def retryClearPeriod : Nat := 60000
/-- Longest total hold of a sideband transaction, ms (R69). -/
def holdLimit : Nat := 25
/-- From a cap WRITE's end, or a confirmation read's end, to the next confirmation read, ms (R80). -/
def confirmGap : Nat := 20
/-- From a cap WRITE's end to the end of its confirmation, ms (R80). -/
def confirmLimit : Nat := 200
/-- Tries of a READ and of a cap WRITE, and failures that make a blade UNRESPONSIVE (R73, R78, R80). -/
def sidebandTries : Nat := 3
/-- Compliance hold after a change of the cap, ms (R83). -/
def compliancePeriod : Nat := 1000
/-- Supply presence debounce, ms (R99). -/
def supplyPresencePeriod : Nat := 5
/-- Supply power-good loss and recovery, ms (R99). -/
def supplyGoodPeriod : Nat := 2
/-- Supply warning debounce, ms (R99). -/
def supplyWarningPeriod : Nat := 10
/-- Samples in a supply channel's output block (R100). -/
def outputBlockLength : Nat := 16
/-- Lane fault debounce, ms (R157). -/
def laneFaultPeriod : Nat := 10
/-- Discard timer of a bid latch, ms (R161). -/
def latchPeriod : Nat := 1000
/-- Bid latches of an owner (R156). -/
def maxLatches : Nat := 4
/-- Ages, in Tst, at which a peer becomes STALE and SILENT (R26), and a pending claim is cleared (R33). -/
def staleAge : Nat := 3
def silentAge : Nat := 10
def pendingClaimAge : Nat := 4
/-- Unplaced timer of a port lane record, in Tst (R166). -/
def unplacedPeriods : Nat := 10
/-- How long a foreign frame counts toward CONFIG_MISMATCH, in Tst (R179). -/
def foreignPeriods : Nat := 10
/-- Length of the census, in Tst (R187). -/
def censusPeriods : Nat := 5
/-- Capacities of the three transmit FIFOs (R5). -/
def urgentCapacity : Nat := 3
def controlCapacity : Nat := 6
def routineCapacity : Nat := 4
/-- CRC drops of one window that raise BUS_FAULTS (R23). -/
def crcDropLimit : Nat := 8
/-- Where the bus counters saturate (R22). -/
def counterMax : Nat := 65535
/-- Largest watts of a claim, and of a slot's worst-case (R14, R40). -/
def maxWatts : Nat := 16000
/-- Largest voltage or current code (R90). -/
def maxCode : Nat := 4095
/-- Free: the watts of an entry handed for a slot that holds no allowance, before they are brought into the range of a
claim (R45 and R141 name the allowance and give no figure without one) (DESIGN CHOICE, notes/assumptions/23). -/
opaque unstatedWatts : Nat → Nat
/-- Span of the 32-bit energy and sample count (R96). -/
def span32 : Nat := 4294967296

end Sys2Proof.Config
end

