-- ==== Sys2Proof/Syntax.lean ====
section
/-! DEFINITION. The commands of the block: the contents of bus messages, the readings of its lines, and one
constructor of `Instr` per row of spec/opcode_table.json. A field that the wire carries in exactly the width of its
range has the type of that range; a field that the wire can carry out of range is a `Nat` (R190). -/

namespace Sys2Proof

/-! ### Named values of the messages (codes are positions in these lists, chapter 12) -/

/-- Message class, the first part of the arbitration key (R1). -/
inductive MsgClass where
  | urgent | control | routine
  deriving DecidableEq, Repr

/-- Which feed a supply channel draws from (R98). -/
inductive Feed where
  | a | b
  deriving DecidableEq, Repr

/-- State of a supply channel (R98, R101). -/
inductive SupplyState where
  | absent | ok | degraded | failed
  deriving DecidableEq, Repr

/-- Health of a fan channel (R144). -/
inductive FanHealth where
  | ok | failed
  deriving DecidableEq, Repr

/-- Kind of a claim (R14). -/
inductive ClaimKind where
  | admission | raise | restore
  deriving DecidableEq, Repr

/-- Reason of a CLAIM DROP (R15). -/
inductive DropReason where
  | refused | withdrawn | badReceipt
  deriving DecidableEq, Repr

/-- Reason of a LANE REFUSE (R160). -/
inductive RefuseReason where
  | latchesFull | tooWide
  deriving DecidableEq, Repr

/-- Reason of a LANE WITHDRAW (R157, R163). -/
inductive WithdrawReason where
  | fenced | reclaimed
  deriving DecidableEq, Repr

/-- Status of an ANSWER (R19). -/
inductive AnswerStatus where
  | ok | notYet | noSuch | refused
  deriving DecidableEq, Repr

/-- Topic of an ASK or of an ANSWER; `order` and `unknown` stand in an ANSWER only (R18, chapter 12). -/
inductive Topic where
  | inventory | slot | meter | supply | station | counters | roll | order | unknown
  deriving DecidableEq, Repr

/-- Condition source of an ORDER (R175). -/
inductive CondSource where
  | none | deficit | coolingDegraded | redundancyLost
  deriving DecidableEq, Repr

/-- The twelve order actions, in the order of their codes (R177). -/
inductive Action where
  | slotOn | slotOff | slotCycle | setCeiling | clearCeiling | clearLatch | reidentify | clearPeaks
  | setPriority | forgetStation | clearAttention | restart
  deriving DecidableEq, Repr

/-! ### Contents of the messages -/

/-- One fan channel of a role set. -/
structure FanRole where
  channel : ChanIx
  zone : ZoneIx
  deriving DecidableEq, Repr

/-- One supply channel of a role set. -/
structure SupplyRole where
  channel : ChanIx
  feed : Feed
  deriving DecidableEq, Repr

/-- The trunk module of a role set. -/
structure TrunkRole where
  module : ModuleIx
  lanes : Nat
  deriving DecidableEq, Repr

/-- The resources a station announces (R12). -/
structure RoleSet where
  slotCount : Nat
  fans : List FanRole
  supplies : List SupplyRole
  trunk : Option TrunkRole
  operator : Bool
  deriving DecidableEq, Repr

/-- ROLL CALL (R12). -/
structure RollCall where
  epoch : Serial
  roles : RoleSet
  digest : Nat
  deriving DecidableEq, Repr

/-- One entry of STANDING's zone demands. -/
structure ZoneDemand where
  zone : Nat
  demand : Nat
  deriving DecidableEq, Repr

/-- One entry of STANDING's fan health list. -/
structure FanEntry where
  zone : ZoneIx
  health : FanHealth
  deriving DecidableEq, Repr

/-- A supply record: one entry of STANDING's supplies (R24, R104). -/
structure SupplyRecord where
  feed : Feed
  state : SupplyState
  rated : Nat
  output : Nat
  deriving DecidableEq, Repr

/-- STANDING's trunk summary (R164). -/
structure TrunkSummary where
  module : ModuleIx
  lanes : Nat
  free : Nat
  deriving DecidableEq, Repr

/-- STANDING (R13). -/
structure Standing where
  epoch : Serial
  sequence : Serial
  committed : Nat
  ceiling : Nat
  folded : Serial
  deficit : Bool
  redundancyLost : Bool
  coolingDegraded : Bool
  zones : List ZoneDemand
  fans : List FanEntry
  supplies : List SupplyRecord
  trunk : Option TrunkSummary
  deriving DecidableEq, Repr

/-- CLAIM (R14). Slot and kind are 4-bit codes on the wire. -/
structure ClaimMsg where
  number : Serial
  watts : Nat
  slot : Nat
  kind : Nat
  deriving DecidableEq, Repr

/-- CLAIM DROP (R15). The reason is a byte on the wire. -/
structure ClaimDropMsg where
  number : Serial
  reason : Nat
  deriving DecidableEq, Repr

/-- SUPPLY ALARM (R16). -/
structure AlarmMsg where
  channel : ChanIx
  state : SupplyState
  rated : Nat
  deriving DecidableEq, Repr

/-- LANE BID (R159). -/
structure BidMsg where
  module : ModuleIx
  slot : SlotIx
  port : PortIx
  lanes : Nat
  tag : Serial
  deriving DecidableEq, Repr

/-- LANE OFFER (R168). -/
structure OfferMsg where
  module : Nat
  tag : Serial
  first : Nat
  lanes : Nat
  deriving DecidableEq, Repr

/-- LANE DEFER (R168). -/
structure DeferMsg where
  module : Nat
  tag : Serial
  deriving DecidableEq, Repr

/-- LANE REFUSE (R168). -/
structure RefuseMsg where
  module : Nat
  tag : Serial
  reason : Nat
  deriving DecidableEq, Repr

/-- LANE RETURN (R162). -/
structure ReturnMsg where
  module : Nat
  first : Nat
  lanes : Nat
  deriving DecidableEq, Repr

/-- LANE WITHDRAW (R170). -/
structure WithdrawMsg where
  module : Nat
  first : Nat
  lanes : Nat
  reason : Nat
  deriving DecidableEq, Repr

/-- ASK (R18): the three bytes as they stand on the wire. -/
structure AskMsg where
  topic : Nat
  selector : Nat
  chunk : Nat
  deriving DecidableEq, Repr

/-- ANSWER (R19): the topic is a 4-bit code on the wire. -/
structure AnswerMsg where
  topic : Nat
  status : AnswerStatus
  data : List Byte
  deriving DecidableEq, Repr

/-- One entry of an ORDER's action list, its code a byte (R176). -/
structure OrderAction where
  code : Nat
  target : Nat
  value : Nat
  deriving DecidableEq, Repr

/-- ORDER (R20): condition, pattern bits 0 to 3, action list. -/
structure OrderMsg where
  cond : CondSource
  pattern : BitVec 4
  actions : List OrderAction
  deriving DecidableEq, Repr

/-- Source and destination of a destined frame. -/
structure Route where
  src : Addr
  dst : Addr
  deriving DecidableEq, Repr

/-- An arbitration key of a message that another sender begins at a bus idle (R1). -/
structure ArbKey where
  cls : MsgClass
  src : Addr
  deriving DecidableEq, Repr

/-! ### Readings of the lines -/

/-- One millisecond's readings (R90): the station input voltage and each slot's main voltage in mV, each slot's main
current in mA, and each supply channel's output current in mA at its sense input. -/
structure Sample where
  station : Int
  volts : Vector Int 4
  amps : Vector Int 4
  outputs : Vector Int 2
  deriving DecidableEq, Repr

/-- The three conditioned inputs of a supply channel (R99). -/
inductive SupplyInput where
  | presence | powerGood | warning
  deriving DecidableEq, Repr

/-- How a sideband READ of `n` bytes ended, holding too long apart (R69). -/
inductive ReadResult (n : Nat) where
  | complete (bytes : Vector Byte n)
  | notAcknowledged
  deriving DecidableEq, Repr

/-- What stands on the station's lines at the end of a reset: the up to three reads of the start-up record (`none`: the
memory did not answer, or stopped before the record's end), the input levels, the inlet reading (`none`: invalid) and
the first sample (R183, R186, R187). -/
structure ResetInputs where
  reads : Vector (Option (Vector Byte 96)) 3
  presence : Vector Bool 4
  ejectorOpen : Vector Bool 4
  inLimit : Vector Bool 4
  supplyPresent : Vector Bool 2
  supplyGood : Vector Bool 2
  supplyWarning : Vector Bool 2
  laneFault : Vector Bool 8
  inlet : Option Int
  sample : Sample
  deriving DecidableEq, Repr

/-! ### Operands shared by the ASK rows and by the ORDER rows -/

/-- The operands of an ASK of one row's topic. `unknownTopic` says that the frame's topic byte is none of the seven, a
case the table lists within every ASK row (R18). -/
structure AskOperands where
  unknownTopic : Bool
  selector : Nat
  chunk : Nat
  deriving DecidableEq, Repr

/-- An ORDER's route, condition and pattern. -/
structure OrderHead where
  route : Route
  cond : CondSource
  pattern : BitVec 4
  deriving DecidableEq, Repr

/-- What stands at the row's own place in the ORDER's action list: the row's action with its target and value, an
action whose code is `12 + beyond`, none of the twelve (R176), or nothing (the empty list of R174). -/
inductive OwnAction where
  | act (target value : Nat)
  | unknownCode (beyond target value : Nat)
  | absent
  deriving DecidableEq, Repr

/-! ### The commands -/

/-- The commands of the block, one per row of spec/opcode_table.json, in the table's order. An order row's ORDER has the
action list `before`, then the row's own action, then `after`. -/
inductive Instr where
  | busIdle (others : List ArbKey) (tach0 tach1 : Nat)
  | readbackMismatchStop
  | messageSent (ownCheckGood : Bool)
  | badCrcFrame
  | foreignFrame
  | malformedFrame (src : Addr)
  | rollCallReceived (src : Addr) (m : RollCall)
  | standingReceived (src : Addr) (m : Standing)
  | peerClaimReceived (src : Addr) (m : ClaimMsg)
  | ownClaimReceipt
  | ownClaimBadReceipt
  | claimDropReceived (src : Addr) (m : ClaimDropMsg)
  | supplyAlarmReceived (src : Addr) (m : AlarmMsg)
  | answerReceived (r : Route) (m : AnswerMsg)
  | laneBidReceived (r : Route) (m : BidMsg)
  | laneReturnReceived (r : Route) (m : ReturnMsg)
  | laneOfferReceived (r : Route) (m : OfferMsg)
  | laneDeferReceived (r : Route) (m : DeferMsg)
  | laneRefuseReceived (r : Route) (m : RefuseMsg)
  | laneWithdrawReceived (r : Route) (m : WithdrawMsg)
  | askInventory (r : Route) (a : AskOperands)
  | askSlot (r : Route) (a : AskOperands)
  | askMeter (r : Route) (a : AskOperands)
  | askSupply (r : Route) (a : AskOperands)
  | askStation (r : Route) (a : AskOperands)
  | askCounters (r : Route) (a : AskOperands)
  | askRoll (r : Route) (a : AskOperands)
  | slotOn (h : OrderHead) (before : List OrderAction) (own : OwnAction) (after : List OrderAction)
  | slotOff (h : OrderHead) (before : List OrderAction) (own : OwnAction) (after : List OrderAction)
  | slotCycle (h : OrderHead) (before : List OrderAction) (own : OwnAction) (after : List OrderAction)
  | setCeiling (h : OrderHead) (before : List OrderAction) (own : OwnAction) (after : List OrderAction)
  | clearCeiling (h : OrderHead) (before : List OrderAction) (own : OwnAction) (after : List OrderAction)
  | clearLatch (h : OrderHead) (before : List OrderAction) (own : OwnAction) (after : List OrderAction)
  | reidentify (h : OrderHead) (before : List OrderAction) (own : OwnAction) (after : List OrderAction)
  | clearPeaks (h : OrderHead) (before : List OrderAction) (own : OwnAction) (after : List OrderAction)
  | setPriority (h : OrderHead) (before : List OrderAction) (own : OwnAction) (after : List OrderAction)
  | forgetStation (h : OrderHead) (before : List OrderAction) (own : OwnAction) (after : List OrderAction)
  | clearAttention (h : OrderHead) (before : List OrderAction) (own : OwnAction) (after : List OrderAction)
  | restart (h : OrderHead) (before : List OrderAction) (own : OwnAction) (after : List OrderAction)
  | standingTimerExpiry
  | crcWindowEnd
  | refusedReofferTimer (k : Nat)
  | foreignFrameWindowEnd
  | peerEntersStale (a : Addr)
  | peerEntersSilent (a : Addr)
  | pendingClaimAgeExpiry (a : Addr)
  | refusalBarLift
  | presenceAssert (i : SlotIx)
  | seating (i : SlotIx)
  | surpriseRemoval (i : SlotIx)
  | ejectorInputChange (i : SlotIx) (opened : Bool)
  | ejectorOpening (i : SlotIx)
  | ejectorClosing (i : SlotIx)
  | meterSample (m : Sample)
  | meterWindowEnd (i : SlotIx) (m : Sample)
  | inLimitChange (i : SlotIx) (asserted : Bool)
  | gateFreeReset (i : SlotIx)
  | overcurrentFault (i : SlotIx)
  | severeOvercurrent (i : SlotIx)
  | rampTimeout (i : SlotIx)
  | retryTimerExpiry (i : SlotIx)
  | retryClearExpiry (i : SlotIx)
  | gracefulExpiry (i : SlotIx)
  | stuckCheckEnd (i : SlotIx)
  | cycleTimerExpiry (i : SlotIx)
  | sidebandTransactionStart (i : SlotIx)
  | transactionHeldTooLong (i : SlotIx)
  | sidebandReadEnd (i : SlotIx) (r : ReadResult 24)
  | capWriteEnd (i : SlotIx) (completed : Bool)
  | capConfirmReady (i : SlotIx)
  | capConfirmTimeout (i : SlotIx)
  | statusReadEnd (i : SlotIx) (r : ReadResult 8)
  | shutdownWriteEnd (i : SlotIx) (completed : Bool)
  | heartbeatExpiry (i : SlotIx)
  | complianceHoldEnd (i : SlotIx)
  | outputBlockEnd (c : ChanIx) (m : Sample)
  | supplyInputChange (c : ChanIx) (which : SupplyInput) (asserted : Bool)
  | supplyPresenceDebounced (c : ChanIx)
  | supplyPowerGoodLost (c : ChanIx)
  | supplyPowerGoodRecovered (c : ChanIx)
  | supplyWarningDebounced (c : ChanIx)
  | inletReading (reading : Option Int)
  | laneFaultInputChange (l : LaneIx) (asserted : Bool)
  | laneFaultAsserted (l : LaneIx)
  | laneFaultCleared (l : LaneIx)
  | latchDiscard (k : Nat)
  | representTimerExpiry (i : SlotIx) (p : PortIx)
  | unplacedTimerExpiry (i : SlotIx) (p : PortIx)
  | lostTimerExpiry (i : SlotIx) (p : PortIx)
  | powerOnReset
  | powerOnResetEnd (straps : Addr) (inp : ResetInputs)
  | restartInputAssert
  | warmRestartEnd (inp : ResetInputs)
  | censusEnd
  | presenceDropBeforeSeating (i : SlotIx)
  deriving DecidableEq, Repr

end Sys2Proof
end

