-- ==== Sys2Proof/Decode.lean ====
section
/-! DEFINITION. Commands spelled by a word of the opcode table. The table gives bits for no row, because the block takes
commands and fetches no instruction, so no word spells a command. The bytes of bus frames are in Machine/Layouts. -/

namespace Sys2Proof

/-- The command that a word spells by the table's bits: none for every word, since no row has bits. -/
def decodeTableWord (_nbits _w : Nat) : Option Instr := none

end Sys2Proof
end

