-- ==== Sys2Proof/Machine/State.lean ====
section
/-! DEFINITION. The state of the JC-16 as plain data, block by block, the reasons a step could stop, and the state right
after power-on reset. Instants are in ms of the model's clock `State.now`. -/

namespace Sys2Proof.Machine

/-! ### Settings taken from the start-up record -/

/-- How supply ratings combine into base capacity (R107). -/
inductive RedundancyMode where
  | none | oneSpare | feedPair
  deriving DecidableEq, Repr

/-- Start-up policy of a slot (R40). -/
inductive StartPolicy where
  | auto | hold
  deriving DecidableEq, Repr

/-- Fault policy of a slot (R40). -/
inductive FaultPolicy where
  | latch | retry
  deriving DecidableEq, Repr

/-- Line mode of the attention output (R180). -/
inductive LineMode where
  | latched | live
  deriving DecidableEq, Repr

/-- The chassis constants (R183). -/
structure Constants where
  tst : Nat
  mode : RedundancyMode
  guardBand : Nat
  restoreMargin : Nat
  deriving DecidableEq, Repr

/-- The settings of one slot (R40) and its slot zone (R144). -/
structure SlotSettings where
  worstCase : Nat
  priority : Nat
  startPolicy : StartPolicy
  faultPolicy : FaultPolicy
  istart : Nat
  stuckThreshold : Nat
  rampTime : Nat
  faultTime : Nat
  retryDelay : Nat
  gracefulSeconds : Nat
  zone : ZoneIx
  deriving DecidableEq, Repr

/-- The settings of one supply channel (R98). -/
structure SupplySettings where
  feed : Feed
  rated : Nat
  senseScale : Nat
  deriving DecidableEq, Repr

/-- The settings of one fan channel (R144). -/
structure FanSettings where
  zone : ZoneIx
  fullRpm : Nat
  deriving DecidableEq, Repr

/-- Every setting of the start-up record (R183). `enables` has the bit order of the STATION flag word. -/
structure Settings where
  constants : Constants
  slotCount : Nat
  trunk : Option TrunkRole
  slots : Vector SlotSettings 4
  windowExp : Nat
  supplyCount : Nat
  supplies : Vector SupplySettings 2
  floorDuty : Nat
  failSafe : Nat
  rampStep : Nat
  inletZone : Option ZoneIx
  inletLimit : Nat
  fanCount : Nat
  fans : Vector FanSettings 2
  enables : BitVec 16
  lineMode : LineMode
  deriving DecidableEq, Repr

/-! ### Slot sequencer -/

/-- The eleven slot states, in the order of their codes (R39). -/
inductive SlotState where
  | empty | identify | off | waitPower | ramp | running | stopping | retryWait | latched | shedOff | stuck
  deriving DecidableEq, Repr

/-- The two phases of STOPPING (R53). -/
inductive StopPhase where
  | draining | unseating
  deriving DecidableEq, Repr

/-- Where a stop leads (R53). -/
inductive StopDest where
  | off | unseat
  deriving DecidableEq, Repr

/-- The main switch gate: off, on with a start-up current limit (a current code), on with the limit lifted (R39). -/
inductive Gate where
  | off
  | limited (code : Nat)
  | lifted
  deriving DecidableEq, Repr

/-- Shutdown cause, in the order of its codes (R39, R67). -/
inductive ShutdownCause where
  | none | operator | overcurrent | severeOc | rampTimeout | surpriseRemoval | shed | noncompliant | stuck | bladeRequest
  deriving DecidableEq, Repr

/-- A pending operator setting: a figure, or the removal of the operator ceiling (R128). -/
inductive OperatorSetting where
  | figure (watts : Nat)
  | removal
  deriving DecidableEq, Repr

/-- The slot record (R39), the pending operator setting (R128), the slot's input levels and its timers. -/
structure Seq where
  state : SlotState
  phase : Option StopPhase
  dest : Option StopDest
  ejectorHold : Bool
  restoreBarred : Bool
  cycle : Bool
  adopted : Bool
  standby : Bool
  gate : Gate
  retryCount : Nat
  cause : ShutdownCause
  allowance : Option Nat
  floor : Option Nat
  opCeiling : Option Nat
  shedCeiling : Option Nat
  savedCeiling : Option Nat
  overdraw : Option Nat
  pendingOp : Option OperatorSetting
  priority : Nat
  /-- Level of the presence input (R41). -/
  presence : Bool
  /-- Level of the ejector input, before debounce; `true` is open (R42). -/
  ejectorRaw : Bool
  /-- The ejector as it stands after debounce; `true` is open (R42). -/
  ejectorOpen : Bool
  /-- Level of the in-limit comparator (R48). -/
  inLimit : Bool
  /-- The overcurrent timer's count, ms, up to `ocSince` (R48). -/
  ocCount : Nat
  /-- The instant since which the overcurrent timer counts; `none` while it holds (R48). -/
  ocSince : Option Nat
  presenceTimer : Due
  ejectorTimer : Due
  rampTimer : Due
  gateFreeTimer : Due
  retryTimer : Due
  gracefulTimer : Due
  stuckTimer : Due
  cycleTimer : Due
  retryClearTimer : Due
  /-- Whether the shutdown write's transaction of this draining has ended (R54). -/
  shutdownEnded : Bool
  /-- The severe comparator cut the slot during the warm restart in progress (R185). -/
  cutInRestart : Bool
  deriving DecidableEq, Repr

/-! ### Sideband unit -/

/-- What a transaction in flight serves (R70). A cap WRITE carries its figure, and whether its item still waits for
it: an item replaced or dropped while its WRITE is in flight ends without a verdict (R80). -/
inductive TxnKind where
  | inventory
  | capWrite (figure : Nat) (live : Bool)
  | confirm
  | shutdown
  | status
  deriving DecidableEq, Repr

/-- Direction of a transaction (R69). -/
inductive TxnDir where
  | read | write
  deriving DecidableEq, Repr

/-- A transaction in flight (R71). -/
structure Txn where
  dir : TxnDir
  offset : Nat
  length : Nat
  /-- The bytes a WRITE carries (R72); empty for a READ. -/
  bytes : List Byte
  kind : TxnKind
  attempt : Nat
  started : Nat
  deriving DecidableEq, Repr

/-- Purpose of an inventory read (R73). -/
inductive ReadPurpose where
  | seating | adoption | release | reidentify
  deriving DecidableEq, Repr

/-- The inventory item (R71): READ index, failed tries of that READ, bytes gathered. -/
structure InventoryItem where
  purpose : ReadPurpose
  index : Nat
  failed : Nat
  bytes : List Byte
  deriving DecidableEq, Repr

/-- Phase of a cap item. In the confirming phase `readAt` is when the next confirmation read becomes ready (`none` while
one is ready or in flight), `ready` whether one is ready, `limit` when the confirmation ends (R80). -/
inductive CapPhase where
  | writing
  | confirming (readAt : Due) (ready : Bool) (limit : Nat)
  deriving DecidableEq, Repr

/-- The cap item (R71). -/
structure CapItem where
  figure : Nat
  phase : CapPhase
  failed : Nat
  deriving DecidableEq, Repr

/-- Shutdown item and status read: absent, pending or in flight (R71). -/
inductive WorkItem where
  | absent | pending | inFlight
  deriving DecidableEq, Repr

/-- Status of an inventory record, in the order of its codes (R71). -/
inductive RecordStatus where
  | valid | suspect | absent
  deriving DecidableEq, Repr

/-- An inventory record: the 96 bytes in bus layout (none for ABSENT) and the status (R71, R75). -/
structure InvRecord where
  bytes : List Byte
  status : RecordStatus
  deriving DecidableEq, Repr

/-- Health of a blade (R71). -/
inductive BladeHealth where
  | responsive | unresponsive
  deriving DecidableEq, Repr

/-- Blade state of a status read (R72). -/
inductive BladeState where
  | booting | up | softOffRequest
  deriving DecidableEq, Repr

/-- The compliance hold timer (R71, R83). -/
inductive Hold where
  | stopped
  | running (due : Nat)
  | ended
  deriving DecidableEq, Repr

/-- Allowance and floor of a REIDENTIFY awaiting a claim (R71, R87). -/
structure Figures where
  allowance : Nat
  floor : Nat
  deriving DecidableEq, Repr

/-- The sideband record of a slot (R71). -/
structure Link where
  inFlight : Option Txn
  inventory : Option InventoryItem
  cap : Option CapItem
  shutdown : WorkItem
  status : WorkItem
  heartbeat : Due
  record : Option InvRecord
  health : BladeHealth
  failures : Nat
  margin : Option Int
  bladeState : Option BladeState
  lastCap : Option Nat
  capUnacked : Bool
  hold : Hold
  held : Option Figures
  deriving DecidableEq, Repr

/-! ### Meter unit -/

/-- The meter record of a slot (R89). -/
structure Meter where
  volt : Nat
  amp : Nat
  power : Nat
  count : Nat
  voltSum : Nat
  ampSum : Nat
  powerSum : Nat
  saturated : Bool
  voltAvg : Nat
  ampAvg : Nat
  powerAvg : Nat
  overRange : Bool
  peak : Nat
  energy : Nat
  rollovers : Nat
  samples : Nat
  deriving DecidableEq, Repr

/-! ### Trunk unit, requester side -/

/-- States of a port lane record, in the order of their codes (R165). -/
inductive PortState where
  | none | bidding | deferred | held | lost | unplaced
  deriving DecidableEq, Repr

/-- A port's need; module `none` stands for ANY (R165). -/
structure Need where
  lanes : Nat
  module : Option ModuleIx
  deriving DecidableEq, Repr

/-- A lane group (R158). -/
structure Group where
  first : Nat
  lanes : Nat
  deriving DecidableEq, Repr

/-- A connection of the crosspoint (R173). -/
structure Connection where
  module : ModuleIx
  group : Group
  deriving DecidableEq, Repr

/-- A port lane record (R165) and the port's crosspoint connection (R173). Which timer runs follows from the state. -/
structure PortRec where
  state : PortState
  need : Option Need
  chosen : Option ModuleIx
  owner : Option Addr
  tag : Option Serial
  group : Option Group
  timer : Due
  cross : Option Connection
  deriving DecidableEq, Repr

/-- Everything the station holds for one slot: its settings, sequencer, link, meter and port lane records. -/
structure Bay where
  fitted : Bool
  cfg : SlotSettings
  seq : Seq
  link : Link
  meter : Meter
  ports : Vector PortRec 4
  /-- Each port's need in the lane-needs list taken at the last report of the slot's entry into RUNNING (R76, R166). -/
  needs : Vector (Option Need) 4
  deriving DecidableEq, Repr

/-! ### Bus port -/

/-- A message waiting in a transmit FIFO, with the fields fixed when it was offered (R8). `restart` marks the ANSWER
whose sending begins the warm restart owed by its ORDER (R178). -/
inductive Outgoing where
  | rollCall
  | standing
  | claim (watts : Nat) (slot : SlotIx) (kind : ClaimKind)
  | claimDrop (number : Serial) (reason : DropReason)
  | supplyAlarm (channel : ChanIx) (state : SupplyState) (rated : Nat)
  | laneBid (dst : Addr) (m : BidMsg)
  | laneOffer (dst : Addr) (m : OfferMsg)
  | laneDefer (dst : Addr) (m : DeferMsg)
  | laneRefuse (dst : Addr) (m : RefuseMsg)
  | laneReturn (dst : Addr) (m : ReturnMsg)
  | laneWithdraw (dst : Addr) (m : WithdrawMsg)
  | askRoll (dst : Addr)
  | answer (dst : Addr) (m : AnswerMsg) (restart : Bool)
  deriving DecidableEq, Repr

/-- The message that has won the bus: its class, whose FIFO's head it is, and its content as fixed at the win (R8). -/
inductive OnBus where
  | rollCall (m : RollCall)
  | standing (m : Standing)
  | claim (m : ClaimMsg)
  | fixed (m : Outgoing)
  deriving DecidableEq, Repr

/-- CONTROL or ROUTINE: the class last served (R7). -/
inductive Served where
  | control | routine
  deriving DecidableEq, Repr

/-- A refused message owed a further offer (R6). -/
structure Owed where
  msg : Outgoing
  due : Nat
  deriving DecidableEq, Repr

/-- The bus port (section 1.3, R22, R23). -/
structure BusPort where
  urgent : List Outgoing
  control : List Outgoing
  routine : List Outgoing
  onBus : Option (MsgClass × OnBus)
  lastServed : Served
  /-- Sequence of the next STANDING to be sent (R13). -/
  sequence : Serial
  owed : List Owed
  standingDue : Nat
  crcCount : Nat
  crcDue : Nat
  /-- Whether the BUS_FAULTS condition holds (R23). -/
  busFaults : Bool
  /-- Until when a foreign frame counts toward CONFIG_MISMATCH (R179). -/
  foreignUntil : Due
  good : Nat
  crcDrops : Nat
  overflows : Nat
  ordersRefused : Nat
  deriving DecidableEq, Repr

/-! ### Peer view -/

/-- State of a peer entry (R25). -/
inductive PeerState where
  | unknown | live | stale | silent
  deriving DecidableEq, Repr

/-- A peer's pending claim and the instant its age started (R32). -/
structure PeerClaim where
  number : Serial
  watts : Nat
  since : Nat
  deriving DecidableEq, Repr

/-- A peer entry (R24). `ageFrom` is the instant the age last started, `none` while it does not run. -/
structure Peer where
  state : PeerState
  epoch : Option Serial
  roles : Option RoleSet
  digest : Option Nat
  mismatch : Bool
  standing : Option Standing
  ageFrom : Option Nat
  pending : Option PeerClaim
  deriving DecidableEq, Repr

/-! ### Supply monitors -/

/-- The record of a supply channel (R98), its input levels and the timers that condition them (R99). -/
structure Supply where
  state : SupplyState
  present : Bool
  good : Bool
  warned : Bool
  output : Nat
  loaded : Bool
  blockCount : Nat
  blockSum : Nat
  presentRaw : Bool
  goodRaw : Bool
  warnedRaw : Bool
  presentTimer : Due
  goodTimer : Due
  warnedTimer : Due
  deriving DecidableEq, Repr

/-! ### Budget unit -/

/-- Purpose of a claim-queue entry (R112). -/
inductive Purpose where
  | admission | heldFigures | operatorRaise | restorePower | restoreCeiling
  deriving DecidableEq, Repr

/-- A claim-queue entry. `arrival` numbers the entries in the order of their taking and names the entry (R112). -/
structure Entry where
  slot : SlotIx
  purpose : Purpose
  watts : Nat
  arrival : Nat
  deriving DecidableEq, Repr

/-- States of the own claim (R115). -/
inductive OwnClaimState where
  | none | queued | onBus | admitted
  deriving DecidableEq, Repr

/-- The own claim: state, the claimed entry (QUEUED and ON_BUS), slot, kind and watts, and number (from the win). -/
structure OwnClaim where
  state : OwnClaimState
  claimed : Option Nat
  slot : SlotIx
  kind : ClaimKind
  watts : Nat
  number : Option Serial
  deriving DecidableEq, Repr

/-- The refusal bar (R105, R121). -/
structure Bar where
  entry : Nat
  ha : Int
  at' : Nat
  raised : Bool
  deriving DecidableEq, Repr

/-- The budget record (R105) and its deficit fields (R128). `reported` holds each slot's charge as last reported to the
budget unit, whose sum is own committed (R66). `blocked` names the entries whose CLAIM a full FIFO refused since the
last recomputation (R116). -/
structure Budget where
  queue : List Entry
  nextArrival : Nat
  own : OwnClaim
  nextNumber : Serial
  folded : Serial
  bar : Option Bar
  base : Nat
  failedFans : Nat
  factor : Nat
  usable : Nat
  reported : Vector Nat 4
  committed : Nat
  ha : Int
  hs : Int
  redundancyLost : Bool
  coolingDegraded : Bool
  deficit : Bool
  shedMark : Option Nat
  restoreEntry : Option SlotIx
  blocked : List Nat
  deriving DecidableEq, Repr

/-! ### Cooling unit -/

/-- The record of a fan channel (R144). -/
structure Fan where
  target : Nat
  duty : Nat
  low : Nat
  good : Nat
  health : FanHealth
  deriving DecidableEq, Repr

/-- The cooling record (R144) and the inlet timer (R147). -/
structure Cooling where
  inletDemand : Option Nat
  raw : Vector (Option Nat) 4
  reported : Vector (Option Nat) 4
  inletTimer : Due
  fans : Vector Fan 2
  judging : Bool
  deriving DecidableEq, Repr

/-! ### Trunk unit, owner side -/

/-- Who holds a lane, and the whole group it belongs to (R156). -/
structure Holder where
  requester : Addr
  slot : SlotIx
  port : PortIx
  tag : Serial
  group : Group
  deriving DecidableEq, Repr

/-- State of a lane; RESERVED names its latch by the latch's creation number (R156). -/
inductive LaneState where
  | free
  | reserved (latch : Nat)
  | held (h : Holder)
  | fenced
  deriving DecidableEq, Repr

/-- A bid latch (R156). `created` numbers the latches in the order of their making and names the latch. -/
structure Latch where
  requester : Addr
  slot : SlotIx
  port : PortIx
  lanes : Nat
  tag : Serial
  created : Nat
  reserved : Option Group
  discard : Nat
  deriving DecidableEq, Repr

/-- A lane fault input: its level, its level after debounce and its debounce timer (R157). -/
structure LaneFault where
  raw : Bool
  level : Bool
  timer : Due
  deriving DecidableEq, Repr

/-- The owner record (R156). The lane table has one entry per lane, 0 to lane count - 1. -/
structure Owner where
  module : ModuleIx
  lanes : List LaneState
  latches : List Latch
  nextLatch : Nat
  lastServed : Addr
  faults : Vector LaneFault 8
  deriving DecidableEq, Repr

/-! ### Order and attention unit -/

/-- The three causes of a slot (R179). -/
structure SlotFlags where
  latched : Bool
  stuck : Bool
  noncompliant : Bool
  deriving DecidableEq, Repr

/-- The six causes of the station (R179). -/
structure StationFlags where
  deficit : Bool
  redundancyLost : Bool
  fanFailed : Bool
  configMismatch : Bool
  startDefaults : Bool
  busFaults : Bool
  deriving DecidableEq, Repr

/-- Cause flags, attention line and restart-owed mark (section 10). -/
structure Attention where
  slots : Vector SlotFlags 4
  station : StationFlags
  line : Bool
  restartOwed : Bool
  deriving DecidableEq, Repr

/-! ### The station -/

/-- Whether the station runs, or which reset it is in (R184, R185). `readSince` is when the record read in progress
began. -/
inductive RunPhase where
  | powerOnReset (readSince : Nat)
  | warmRestart (readSince : Nat)
  | running
  deriving DecidableEq, Repr

/-- The SELF entry (R24). -/
structure SelfEntry where
  epoch : Serial
  roles : RoleSet
  digest : Nat
  deriving DecidableEq, Repr

/-- The station. `pending` is the queue of commands that wait, first in, first out. The entry of `peers` at the
station's own address is not used: `self` stands there. -/
structure State where
  pending : List Instr
  now : Nat
  run : RunPhase
  address : Addr
  settings : Settings
  startDefaults : Bool
  self : SelfEntry
  census : Due
  bus : BusPort
  peers : Vector Peer 16
  bays : Vector Bay 4
  stationVolt : Nat
  meterDue : Nat
  supplies : Vector Supply 2
  budget : Budget
  cooling : Cooling
  owner : Option Owner
  tagCounter : Serial
  attention : Attention
  deriving DecidableEq, Repr

/-! ### Why a step could stop -/

/-- No meaning raises a fault: the part has no error state that stops it, and the spec gives every command an effect or
says that it does nothing. The type has no constructor, so no claim can rest on a fault. -/
inductive Fault where
  deriving DecidableEq, Repr

/-- Why a command has no meaning. -/
inductive Refusal where
  /-- Raised by an arm of `exec` for a row of the table that has no meaning yet; no arm raises it. Safe: the model
  stops where the part goes on. -/
  | notModelled (mnemonic : String)
  deriving DecidableEq, Repr

/-! ### Values at reset -/

/-- Built-in defaults of the chassis constants (R183). -/
def Constants.default : Constants := ⟨100, .none, 200, 300⟩

/-- Built-in defaults of a slot's settings (R40); the slot zone's default is the slot index (R144). -/
def SlotSettings.default (i : SlotIx) : SlotSettings :=
  ⟨1000, 4, .auto, .latch, 400, 200, 200, 10, 500, 5, i⟩

/-- Built-in defaults of a supply channel (R98). -/
def SupplySettings.default (c : ChanIx) : SupplySettings := ⟨if c = 0 then .a else .b, 1000, 4⟩

/-- Built-in defaults of a fan channel (R144). -/
def FanSettings.default (c : ChanIx) : FanSettings := ⟨⟨c.val, by omega⟩, 12000⟩

/-- The built-in defaults of the start-up record (R183). -/
def Settings.default : Settings where
  constants := Constants.default
  slotCount := 4
  trunk := none
  slots := #v[SlotSettings.default 0, SlotSettings.default 1, SlotSettings.default 2, SlotSettings.default 3]
  windowExp := 4
  supplyCount := 0
  supplies := #v[SupplySettings.default 0, SupplySettings.default 1]
  floorDuty := 30
  failSafe := 80
  rampStep := 10
  inletZone := none
  inletLimit := 35
  fanCount := 0
  fans := #v[FanSettings.default 0, FanSettings.default 1]
  enables := 0x1ff
  lineMode := .latched

/-- The slot record after power-on reset (R39). -/
def Seq.fresh (priority : Nat) : Seq where
  state := .empty
  phase := none
  dest := none
  ejectorHold := false
  restoreBarred := false
  cycle := false
  adopted := false
  standby := false
  gate := .off
  retryCount := 0
  cause := .none
  allowance := none
  floor := none
  opCeiling := none
  shedCeiling := none
  savedCeiling := none
  overdraw := none
  pendingOp := none
  priority := priority
  presence := false
  ejectorRaw := false
  ejectorOpen := false
  inLimit := false
  ocCount := 0
  ocSince := none
  presenceTimer := none
  ejectorTimer := none
  rampTimer := none
  gateFreeTimer := none
  retryTimer := none
  gracefulTimer := none
  stuckTimer := none
  cycleTimer := none
  retryClearTimer := none
  shutdownEnded := false
  cutInRestart := false

/-- The sideband record after either reset (R71). -/
def Link.fresh : Link where
  inFlight := none
  inventory := none
  cap := none
  shutdown := .absent
  status := .absent
  heartbeat := none
  record := none
  health := .responsive
  failures := 0
  margin := none
  bladeState := none
  lastCap := none
  capUnacked := false
  hold := .stopped
  held := none

/-- A cleared meter record that keeps its three latest values (R89, R92). -/
def Meter.cleared (volt amp power : Nat) : Meter where
  volt := volt
  amp := amp
  power := power
  count := 0
  voltSum := 0
  ampSum := 0
  powerSum := 0
  saturated := false
  voltAvg := 0
  ampAvg := 0
  powerAvg := 0
  overRange := false
  peak := 0
  energy := 0
  rollovers := 0
  samples := 0

/-- A port lane record after either reset (R165). -/
def PortRec.fresh : PortRec := ⟨.none, none, none, none, none, none, none, none⟩

/-- A peer entry after either reset (R24). -/
def Peer.fresh : Peer := ⟨.unknown, none, none, none, false, none, none, none⟩

/-- A bay after power-on reset under given settings. -/
def Bay.fresh (fitted : Bool) (cfg : SlotSettings) : Bay where
  fitted := fitted
  cfg := cfg
  seq := Seq.fresh cfg.priority
  link := Link.fresh
  meter := Meter.cleared 0 0 0
  ports := Vector.replicate 4 PortRec.fresh
  needs := Vector.replicate 4 none

/-- The own claim NONE (R105). -/
def OwnClaim.idle : OwnClaim := ⟨.none, none, 0, .admission, 0, none⟩

/-- The machine right after a power-on reset in which the straps showed 0, the start-up record could not be read, so
that the built-in defaults stand (R183), and no input was asserted: the values each chapter gives for the end of
power-on reset. The ROLL CALL and the first STANDING of R187 wait in the ROUTINE FIFO, the census has just begun, and
START_DEFAULTS is raised (R180) (DESIGN CHOICE, notes/assumptions/25). -/
def State.reset : State where
  pending := []
  now := 0
  run := .running
  address := 0
  settings := Settings.default
  startDefaults := true
  self := ⟨0, ⟨4, [], [], none, false⟩, 345⟩
  census := some 500
  bus :=
    { urgent := [], control := [], routine := [.rollCall, .standing], onBus := none, lastServed := .routine
      sequence := 0, owed := [], standingDue := 100, crcCount := 0, crcDue := 100, busFaults := false
      foreignUntil := none, good := 0, crcDrops := 0, overflows := 0, ordersRefused := 0 }
  peers := Vector.replicate 16 Peer.fresh
  bays := #v[Bay.fresh true (SlotSettings.default 0), Bay.fresh true (SlotSettings.default 1),
    Bay.fresh true (SlotSettings.default 2), Bay.fresh true (SlotSettings.default 3)]
  stationVolt := 0
  meterDue := 1
  supplies := Vector.replicate 2
    ⟨.absent, false, false, false, 0, false, 0, 0, false, false, false, none, none, none⟩
  budget :=
    { queue := [], nextArrival := 0, own := OwnClaim.idle, nextNumber := 0, folded := 255, bar := none
      base := 0, failedFans := 0, factor := 16, usable := 0, reported := #v[0, 0, 0, 0], committed := 0
      ha := -200, hs := 0, redundancyLost := false, coolingDegraded := false, deficit := false
      shedMark := none, restoreEntry := none, blocked := [] }
  cooling :=
    { inletDemand := none, raw := #v[none, none, none, none], reported := #v[none, none, none, none]
      inletTimer := none, fans := Vector.replicate 2 ⟨30, 100, 0, 0, .ok⟩, judging := false }
  owner := none
  tagCounter := 0
  attention :=
    { slots := Vector.replicate 4 ⟨false, false, false⟩
      station := ⟨false, false, false, false, true, false⟩
      line := true
      restartOwed := false }

end Sys2Proof.Machine
end

