-- ==== Sys2Proof/Machine/Operands.lean ====
section
/-! DEFINITION. Values computed from operands: serial order, timers, codes of sampled quantities, byte order, and whether
the fields of a received message lie in their ranges. -/

namespace Sys2Proof
namespace Machine

/-- Claim number `a` is after `b` when `(a - b) mod 256` lies in 1 to 127 (00_scope.md, Serial numbers). -/
def serialAfter (a b : Serial) : Bool :=
  1 ≤ (a - b).toNat && (a - b).toNat ≤ 127

/-- Division rounded up: the smallest integer not less than the exact quotient (00_scope.md, Arithmetic). -/
def divUp (a b : Nat) : Nat :=
  (a + b - 1) / b

/-- A timer that runs and whose instant has come (DESIGN CHOICE, notes/assumptions/2). -/
def timerDue (t : Due) (now : Nat) : Bool :=
  match t with
  | some d => d ≤ now
  | none => false

/-- A bus counter's gain of one, held at 65535 (R22). -/
def satInc (n : Nat) : Nat :=
  if n < Config.counterMax then n + 1 else n

/-- The code of a sampled quantity: `step` per count, 4095 at or beyond the top of the range, 0 below 0 (R90). -/
def codeOf (step : Nat) (quantity : Int) : Nat :=
  min Config.maxCode (quantity.toNat / step)

/-- Voltage code, 25 mV per count, of a voltage in mV. -/
def voltCode (mv : Int) : Nat := codeOf 25 mv

/-- Current code, 10 mA per count, of a current in mA. -/
def ampCode (ma : Int) : Nat := codeOf 10 ma

/-- Power sample in quarter watts (R91). -/
def powerSample (volt amp : Nat) : Nat := volt * amp / 1000

/-! ### Byte order -/

/-- The low byte of a number. -/
def byteOf (n : Nat) : Byte := BitVec.ofNat 8 n

/-- Two bytes, big-endian: the bus and the start-up record (chapter 12). -/
def be16 (n : Nat) : List Byte := [byteOf (n / 256), byteOf n]

/-- Four bytes, big-endian. -/
def be32 (n : Nat) : List Byte := be16 (n / 65536) ++ be16 n

/-- A signed figure in four bytes, two's complement (chapter 12.3). -/
def be32Signed (i : Int) : List Byte := be32 (i % 4294967296).toNat

/-- Byte `k` of a list as a number; 0 past its end. -/
def natAt (l : List Byte) (k : Nat) : Nat := (l.getD k 0).toNat

/-- Big-endian 16-bit field at offset `k`. -/
def be16At (l : List Byte) (k : Nat) : Nat := natAt l k * 256 + natAt l (k + 1)

/-- Little-endian 16-bit field at offset `k` (blade window). -/
def le16At (l : List Byte) (k : Nat) : Nat := natAt l (k + 1) * 256 + natAt l k

/-- Two bytes, little-endian: the command region of the blade window. -/
def le16 (n : Nat) : List Byte := [byteOf n, byteOf (n / 256)]

/-- Sum of bytes modulo 65536 (R74, R183). -/
def byteSum (l : List Byte) : Nat := l.foldl (fun a b => a + b.toNat) 0 % 65536

/-- A signed byte, -128 to 127 (R72). -/
def signedByte (b : Byte) : Int := b.toInt

/-! ### Codes of the named values (positions in their lists, chapter 12) -/

end Machine

def ClaimKind.code : ClaimKind → Nat
  | .admission => 0
  | .raise => 1
  | .restore => 2

def DropReason.code : DropReason → Nat
  | .refused => 0
  | .withdrawn => 1
  | .badReceipt => 2

def RefuseReason.code : RefuseReason → Nat
  | .latchesFull => 0
  | .tooWide => 1

def WithdrawReason.code : WithdrawReason → Nat
  | .fenced => 0
  | .reclaimed => 1

def SupplyState.code : SupplyState → Nat
  | .absent => 0
  | .ok => 1
  | .degraded => 2
  | .failed => 3

def Feed.code : Feed → Nat
  | .a => 0
  | .b => 1

/-- Topic codes of an ANSWER: the ASK topics in order, ORDER 7, an unknown topic 15 (chapter 12.2). -/
def Topic.code : Topic → Nat
  | .inventory => 0
  | .slot => 1
  | .meter => 2
  | .supply => 3
  | .station => 4
  | .counters => 5
  | .roll => 6
  | .order => 7
  | .unknown => 15

/-- Action codes 0 to 11 in the order of R177's list. -/
def Action.code : Action → Nat
  | .slotOn => 0
  | .slotOff => 1
  | .slotCycle => 2
  | .setCeiling => 3
  | .clearCeiling => 4
  | .clearLatch => 5
  | .reidentify => 6
  | .clearPeaks => 7
  | .setPriority => 8
  | .forgetStation => 9
  | .clearAttention => 10
  | .restart => 11

/-- The action of a code; none of the twelve gives `none` (R176). -/
def actionOf : Nat → Option Action
  | 0 => some .slotOn
  | 1 => some .slotOff
  | 2 => some .slotCycle
  | 3 => some .setCeiling
  | 4 => some .clearCeiling
  | 5 => some .clearLatch
  | 6 => some .reidentify
  | 7 => some .clearPeaks
  | 8 => some .setPriority
  | 9 => some .forgetStation
  | 10 => some .clearAttention
  | 11 => some .restart
  | _ => none

namespace Machine

def SlotState.code : SlotState → Nat
  | .empty => 0
  | .identify => 1
  | .off => 2
  | .waitPower => 3
  | .ramp => 4
  | .running => 5
  | .stopping => 6
  | .retryWait => 7
  | .latched => 8
  | .shedOff => 9
  | .stuck => 10

def ShutdownCause.code : ShutdownCause → Nat
  | .none => 0
  | .operator => 1
  | .overcurrent => 2
  | .severeOc => 3
  | .rampTimeout => 4
  | .surpriseRemoval => 5
  | .shed => 6
  | .noncompliant => 7
  | .stuck => 8
  | .bladeRequest => 9

def PortState.code : PortState → Nat
  | .none => 0
  | .bidding => 1
  | .deferred => 2
  | .held => 3
  | .lost => 4
  | .unplaced => 5

def RecordStatus.code : RecordStatus → Nat
  | .valid => 0
  | .suspect => 1
  | .absent => 2

def BladeState.code : BladeState → Nat
  | .booting => 0
  | .up => 1
  | .softOffRequest => 2

end Machine

/-! ### Ranges of received fields (R190: a field out of range, where no rule owns it, discards the frame after counting) -/

/-- Lanes asked for or granted: 1, 2 or 4. -/
def lanesOk (n : Nat) : Bool := n == 1 || n == 2 || n == 4

def TrunkRole.inRange (t : TrunkRole) : Bool := 1 ≤ t.lanes && t.lanes ≤ 8

def RollCall.inRange (m : RollCall) : Bool :=
  m.roles.slotCount ≤ 4 && m.roles.fans.length ≤ 2 && m.roles.supplies.length ≤ 2 &&
    m.roles.trunk.all TrunkRole.inRange

def Standing.inRange (m : Standing) : Bool :=
  m.zones.length ≤ 4 && m.zones.all (fun z => z.zone ≤ 3 && z.demand ≤ 100) && m.fans.length ≤ 2 &&
    m.supplies.length ≤ 2 && m.trunk.all (fun t => 1 ≤ t.lanes && t.lanes ≤ 8 && t.free ≤ 8)

def ClaimMsg.inRange (m : ClaimMsg) : Bool :=
  1 ≤ m.watts && m.watts ≤ Config.maxWatts && m.slot ≤ 3 && m.kind ≤ 2

def ClaimDropMsg.inRange (m : ClaimDropMsg) : Bool := m.reason ≤ 2

/-- First lane and lanes, each in its range; whether they make an aligned group is not asked
(DESIGN CHOICE, notes/assumptions/48). -/
def OfferMsg.inRange (m : OfferMsg) : Bool := m.first ≤ 7 && lanesOk m.lanes

def RefuseMsg.inRange (m : RefuseMsg) : Bool := m.reason ≤ 1

def WithdrawMsg.inRange (m : WithdrawMsg) : Bool := m.reason ≤ 1

end Sys2Proof
end

