-- ==== Sys2Proof/Machine/Flags.lean ====
section
/-! DEFINITION. The cause flags and the attention line (sections 10.5, R179 to R181). -/

namespace Sys2Proof.Machine

/-- The conditions of a slot's three causes (R179). A slot that is not fitted has none. -/
def slotConditions (b : Bay) : SlotFlags where
  latched := b.fitted && b.seq.state == .latched
  stuck := b.fitted && b.seq.state == .stuck
  noncompliant := b.fitted && b.seq.state == .shedOff && b.seq.cause == .noncompliant

/-- Whether some fitted fan channel is FAILED (R154). -/
def anyFanFailed (s : State) : Bool :=
  (0 < s.settings.fanCount && s.cooling.fans[0].health == .failed) ||
    (1 < s.settings.fanCount && s.cooling.fans[1].health == .failed)

/-- The conditions of the six station causes (R179). -/
def stationConditions (s : State) : StationFlags where
  deficit := s.budget.deficit
  redundancyLost := s.budget.redundancyLost
  fanFailed := anyFanFailed s
  configMismatch := s.peers.toList.any (·.mismatch) || s.bus.foreignUntil.isSome
  startDefaults := s.startDefaults
  busFaults := s.bus.busFaults

/-- The slot causes gathered at station level (R179). -/
def gathered (a : Attention) : SlotFlags where
  latched := a.slots.toList.any (·.latched)
  stuck := a.slots.toList.any (·.stuck)
  noncompliant := a.slots.toList.any (·.noncompliant)

/-- The station-level flag word (chapter 12.3). -/
def flagWord (a : Attention) : BitVec 16 :=
  let bit (k : Nat) (f : Bool) : BitVec 16 := if f then BitVec.ofNat 16 (2 ^ k) else 0
  bit 8 (gathered a).latched ||| bit 7 (gathered a).stuck ||| bit 6 (gathered a).noncompliant |||
    bit 5 a.station.deficit ||| bit 4 a.station.redundancyLost ||| bit 3 a.station.fanFailed |||
    bit 2 a.station.configMismatch ||| bit 1 a.station.startDefaults ||| bit 0 a.station.busFaults

/-- The flag word's three bits of one slot: SLOT_LATCHED, STUCK, NONCOMPLIANT from bit 2 (chapter 12.3). -/
def slotFlagBits (f : SlotFlags) : Nat :=
  (if f.latched then 4 else 0) + (if f.stuck then 2 else 0) + (if f.noncompliant then 1 else 0)

/-- The slot flag word, slot 0 in bits 2 to 0 (chapter 12.3). -/
def slotFlagWord (a : Attention) : Nat :=
  slotFlagBits a.slots[0] + 8 * slotFlagBits a.slots[1] + 64 * slotFlagBits a.slots[2] +
    512 * slotFlagBits a.slots[3]

/-- Whether the attention line is asserted: some station-level flag of an enabled cause is set (R180). -/
def lineOf (settings : Settings) (a : Attention) : Bool :=
  flagWord a &&& settings.enables != 0

/-- Every slot's conditions. -/
def allSlotConditions (s : State) : Vector SlotFlags 4 :=
  #v[slotConditions s.bays[0], slotConditions s.bays[1], slotConditions s.bays[2], slotConditions s.bays[3]]

/-- In LIVE mode every flag follows its condition; then the line is set (R180). During a reset the line is deasserted. -/
def settleFlags (s : State) : State :=
  let a := if s.settings.lineMode == .live then
      { s.attention with slots := allSlotConditions s, station := stationConditions s }
    else s.attention
  { s with attention := { a with line := s.run == .running && lineOf s.settings a } }

/-- The instant a cause of slot `i` is raised: `f` sets its flag (R180). -/
def raiseSlot (i : SlotIx) (f : SlotFlags → SlotFlags) (s : State) : State :=
  { s with attention := { s.attention with slots := updAt s.attention.slots i f } }

/-- The instant a station cause is raised: `f` sets its flag (R180). -/
def raiseStation (f : StationFlags → StationFlags) (s : State) : State :=
  { s with attention := { s.attention with station := f s.attention.station } }

/-- Flags kept set by CLEAR ATTENTION: those set whose condition still holds (R181). -/
def keepHolding (flags conds : SlotFlags) : SlotFlags :=
  ⟨flags.latched && conds.latched, flags.stuck && conds.stuck, flags.noncompliant && conds.noncompliant⟩

/-- CLEAR ATTENTION: in LATCHED mode each flag whose condition does not hold is cleared; in LIVE mode nothing
changes (R181). -/
def clearFlags (s : State) : State :=
  match s.settings.lineMode with
  | .live => s
  | .latched =>
    let a := s.attention
    let c := stationConditions s
    { s with attention := { a with
        slots := #v[keepHolding a.slots[0] (slotConditions s.bays[0]), keepHolding a.slots[1] (slotConditions s.bays[1]),
          keepHolding a.slots[2] (slotConditions s.bays[2]), keepHolding a.slots[3] (slotConditions s.bays[3])]
        station := ⟨a.station.deficit && c.deficit, a.station.redundancyLost && c.redundancyLost,
          a.station.fanFailed && c.fanFailed, a.station.configMismatch && c.configMismatch,
          a.station.startDefaults && c.startDefaults, a.station.busFaults && c.busFaults⟩ } }

end Sys2Proof.Machine
end

