-- ==== Sys2Proof/Machine/BusPort.lean ====
section
/-! DEFINITION. The bus port's transmit queue, arbitration and counters (sections 1.1 to 1.3 and 1.6). -/

namespace Sys2Proof.Machine

/-- The class of an outgoing message (R5). -/
def Outgoing.cls : Outgoing → MsgClass
  | .supplyAlarm .. => .urgent
  | .rollCall | .standing | .askRoll .. | .answer .. => .routine
  | .claim .. | .claimDrop .. | .laneBid .. | .laneOffer .. | .laneDefer .. | .laneRefuse .. | .laneReturn ..
  | .laneWithdraw .. => .control

/-- Rank of a class in arbitration: URGENT lowest (R1). -/
def classRank : MsgClass → Nat
  | .urgent => 0
  | .control => 1
  | .routine => 2

/-- An arbitration key as one number: class, then source address. The lower key wins (R1). -/
def keyRank (cls : MsgClass) (src : Addr) : Nat := classRank cls * 16 + src.val

/-- Whether the own key passes contention unbeaten (R1). A key equal to another sender's is not beaten by it (R2)
(DEDUCED, notes/assumptions/7). -/
def winsContention (cls : MsgClass) (own : Addr) (others : List ArbKey) : Bool :=
  others.all fun k => keyRank cls own ≤ keyRank k.cls k.src

namespace BusPort

/-- The FIFO of a class. -/
def fifo (b : BusPort) : MsgClass → List Outgoing
  | .urgent => b.urgent
  | .control => b.control
  | .routine => b.routine

/-- The bus port with the FIFO of a class replaced. -/
def setFifo (b : BusPort) (c : MsgClass) (l : List Outgoing) : BusPort :=
  match c with
  | .urgent => { b with urgent := l }
  | .control => { b with control := l }
  | .routine => { b with routine := l }

/-- Whether the head of a class's FIFO has won the bus and is not yet sent. -/
def wonBus (b : BusPort) (c : MsgClass) : Bool :=
  match b.onBus with
  | some (c', _) => c' == c
  | none => false

/-- The messages of a class that are queued and have not won the bus (R9) (DEDUCED, notes/assumptions/8). -/
def waiting (b : BusPort) (c : MsgClass) : List Outgoing :=
  if b.wonBus c then (b.fifo c).drop 1 else b.fifo c

/-- The bus port with those messages replaced. -/
def setWaiting (b : BusPort) (c : MsgClass) (l : List Outgoing) : BusPort :=
  b.setFifo c (if b.wonBus c then (b.fifo c).take 1 ++ l else l)

end BusPort

/-- Capacity of a class's FIFO (R5). -/
def fifoCapacity : MsgClass → Nat
  | .urgent => Config.urgentCapacity
  | .control => Config.controlCapacity
  | .routine => Config.routineCapacity

/-- A SUPPLY ALARM of channel `c`. -/
def isAlarmOf (c : ChanIx) : Outgoing → Bool
  | .supplyAlarm c' _ _ => c' == c
  | _ => false

/-- A CLAIM DROP. -/
def isClaimDrop : Outgoing → Bool
  | .claimDrop .. => true
  | _ => false

/-- Whether an offered message replaces a queued SUPPLY ALARM, or is absorbed by a queued STANDING (R5). -/
def merges (b : BusPort) : Outgoing → Bool
  | .supplyAlarm c _ _ => (b.waiting .urgent).any (isAlarmOf c)
  | .standing => (b.waiting .routine).any (· == .standing)
  | _ => false

/-- Whether the FIFO of the message's class holds fewer messages than its capacity (R5). -/
def hasRoom (b : BusPort) (m : Outgoing) : Bool :=
  (b.fifo m.cls).length < fifoCapacity m.cls

/-- Whether an offered message is taken, merged or queued, and not refused (R5). -/
def takes (b : BusPort) (m : Outgoing) : Bool := merges b m || hasRoom b m

/-- The offers owed after a refusal: a refused CLAIM DROP, LANE RETURN or LANE WITHDRAW is owed one, refused ROLL
CALLs one between them, every other kind none (R6). -/
def oweFor (m : Outgoing) (due : Nat) (owed : List Owed) : List Owed :=
  match m with
  | .rollCall => if owed.any (·.msg == .rollCall) then owed else owed ++ [⟨m, due⟩]
  | .claimDrop .. | .laneReturn .. | .laneWithdraw .. => owed ++ [⟨m, due⟩]
  | _ => owed

/-- A taken own CLAIM abandons every CLAIM DROP still owed (R6). -/
def owedAfterTaking (m : Outgoing) (owed : List Owed) : List Owed :=
  match m with
  | .claim .. => owed.filter fun o => !isClaimDrop o.msg
  | _ => owed

/-- A block offers a message to the bus port: it replaces or is absorbed, joins its FIFO's tail, or is refused and
counted (R5, R6). Where two SUPPLY ALARMs of one channel wait, as a stop can leave them, a new one takes the place of
both (DESIGN CHOICE, notes/assumptions/42). -/
def BusPort.offer (b : BusPort) (m : Outgoing) (now tst : Nat) : BusPort :=
  if merges b m then
    match m with
    | .supplyAlarm c _ _ => b.setWaiting .urgent ((b.waiting .urgent).map fun o => if isAlarmOf c o then m else o)
    | _ => b
  else if hasRoom b m then
    { b.setFifo m.cls (b.fifo m.cls ++ [m]) with owed := owedAfterTaking m b.owed }
  else
    { b with overflows := satInc b.overflows, owed := oweFor m (now + tst) b.owed }

/-- The chassis constant Tst, ms. -/
def State.tst (s : State) : Nat := s.settings.constants.tst

/-- A block of the station offers a message. -/
def offer (m : Outgoing) (s : State) : State :=
  { s with bus := s.bus.offer m s.now s.tst }

/-- Offers several messages in order. -/
def offerAll (ms : List Outgoing) (s : State) : State := ms.foldl (fun t m => offer m t) s

/-- Queued messages of a class that `p` picks, and that have not won the bus, are withdrawn; nothing is counted (R9). -/
def withdrawQueued (c : MsgClass) (p : Outgoing → Bool) (s : State) : State :=
  { s with bus := s.bus.setWaiting c ((s.bus.waiting c).filter fun m => !p m) }

/-- The message the bus port offers at a bus idle (R7). -/
def chooseNext (b : BusPort) : Option Outgoing :=
  match b.urgent.head?, b.control.head?, b.routine.head? with
  | some u, _, _ => some u
  | none, some c, none => some c
  | none, none, some r => some r
  | none, some c, some r => if b.lastServed == .routine then some c else some r
  | none, none, none => none

/-- Counts one good message (R3, R22). -/
def countGood (s : State) : State := { s with bus := { s.bus with good := satInc s.bus.good } }

/-- Counts one transmitted ORDER as refused (R174). -/
def countOrderRefused (s : State) : State :=
  { s with bus := { s.bus with ordersRefused := satInc s.bus.ordersRefused } }

/-- One CRC drop: both counts gain one, and the eighth of a window raises BUS_FAULTS and starts its condition (R3, R23). -/
def countCrcDrop (s : State) : State :=
  let n := s.bus.crcCount + 1
  let t := { s with bus := { s.bus with crcDrops := satInc s.bus.crcDrops, crcCount := n } }
  if n == Config.crcDropLimit then
    raiseStation (fun f => { f with busFaults := true }) { t with bus := { t.bus with busFaults := true } }
  else t

/-- The end of a window of CRC drops (R23) (DESIGN CHOICE, notes/assumptions/28). -/
def endCrcWindow (s : State) : State :=
  { s with bus := { s.bus with
      busFaults := s.bus.busFaults && Config.crcDropLimit ≤ s.bus.crcCount
      crcCount := 0
      crcDue := s.bus.crcDue + s.tst } }

/-- A good frame bearing the station's own address while it was not sending: counted, discarded, and CONFIG_MISMATCH
raised for 10 Tst (R3, R179). -/
def foreignHeard (s : State) : State :=
  let t := countGood s
  raiseStation (fun f => { f with configMismatch := true })
    { t with bus := { t.bus with foreignUntil := some (s.now + Config.foreignPeriods * s.tst) } }

/-- Whether a message of the station is on the bus. -/
def sending (s : State) : Bool := s.bus.onBus.isSome

/-- The k-th offer owed after a refusal, if it is due: the message leaves the owed list and is offered again; a further
refusal owes it again (R6). -/
def reoffer (k : Nat) (s : State) : State :=
  match s.bus.owed[k]? with
  | some o =>
    if o.due ≤ s.now then offer o.msg { s with bus := { s.bus with owed := s.bus.owed.eraseIdx k } } else s
  | none => s

end Sys2Proof.Machine
end

