-- ==== Sys2Proof/Machine/PeerView.lean ====
section
/-! DEFINITION. The peer view's entries: what each frame does to its source's entry, the charges and records the other
blocks read, and module ownership (chapter Peer view). The notifications are in Notify. -/

namespace Sys2Proof.Machine

/-! ### Entries -/

/-- A good frame heard: UNKNOWN becomes LIVE with age 0; any other state is kept (R25). -/
def Peer.hear (p : Peer) (now : Nat) : Peer :=
  match p.state with
  | .unknown => { p with state := .live, ageFrom := some now }
  | _ => p

/-- Whether a frame's epoch is a new one for the entry (R30). -/
def Peer.newEpoch (p : Peer) (e : Serial) : Bool :=
  match p.epoch with
  | some e' => e' != e
  | none => false

/-- The epoch check's part on the entry: the epoch is recorded, and a new one discards the pending claim (R30). -/
def Peer.checkEpoch (p : Peer) (e : Serial) : Peer :=
  { p with epoch := some e, pending := if p.newEpoch e then none else p.pending }

/-- The pending claim after a STANDING with a folded claim number: cleared when that number equals it or is after
it (R33). -/
def foldPending (folded : Serial) (c : Option PeerClaim) : Option PeerClaim :=
  c.filter fun c => !(folded == c.number || serialAfter folded c.number)

/-- A STANDING taken (R27): epoch, content, age 0, LIVE, pending claim checked. -/
def Peer.takeStanding (p : Peer) (m : Standing) (now : Nat) : Peer :=
  let q := p.checkEpoch m.epoch
  { q with standing := some m, ageFrom := some now, state := .live, pending := foldPending m.folded q.pending }

/-- A ROLL CALL taken (R28, R29): epoch, role set, digest, and the mismatch flag by comparison with the own digest. -/
def Peer.takeRollCall (p : Peer) (m : RollCall) (ownDigest : Nat) : Peer :=
  { p.checkEpoch m.epoch with
    roles := some m.roles
    digest := some m.digest
    mismatch := !m.roles.operator && m.digest != ownDigest }

/-- A CLAIM taken (R32): it becomes or replaces the pending claim. -/
def Peer.takeClaim (p : Peer) (m : ClaimMsg) (now : Nat) : Peer :=
  { p with pending := some ⟨m.number, m.watts, now⟩ }

/-- A CLAIM DROP taken (R15, R33): it clears the pending claim of its number. -/
def Peer.takeClaimDrop (p : Peer) (m : ClaimDropMsg) : Peer :=
  { p with pending := p.pending.filter fun c => c.number != m.number }

/-- A SUPPLY ALARM taken (R31): state and rating of the channel's record, if the entry holds one. -/
def Peer.takeAlarm (p : Peer) (m : AlarmMsg) : Peer :=
  { p with standing := p.standing.map fun st =>
      { st with supplies := st.supplies.modify m.channel.val fun r => { r with state := m.state, rated := m.rated } } }

/-- The passing of an age limit changes the state and nothing else (R26). -/
def Peer.setState (p : Peer) (st : PeerState) : Peer := { p with state := st }

/-- The pending claim cleared by age (R33). -/
def Peer.dropPending (p : Peer) : Peer := { p with pending := none }

/-! ### What the other blocks read -/

/-- Whether an entry's content counts (R35): every state but UNKNOWN. -/
def Peer.counts (p : Peer) : Bool := p.state != .unknown

def Peer.pendingWatts (p : Peer) : Nat :=
  match p.pending with
  | some c => c.watts
  | none => 0

def Peer.committed (p : Peer) : Nat :=
  match p.standing with
  | some m => m.committed
  | none => 0

def Peer.ceiling (p : Peer) : Nat :=
  match p.standing with
  | some m => m.ceiling
  | none => 0

/-- The admission charge (R34). -/
def Peer.admissionCharge (p : Peer) : Nat :=
  match p.state with
  | .live => p.committed + p.pendingWatts
  | .stale | .silent => p.ceiling + p.pendingWatts
  | .unknown => 0

/-- The supply charge (R34). -/
def Peer.supplyCharge (p : Peer) : Nat :=
  match p.state with
  | .live | .stale | .silent => p.committed + p.pendingWatts
  | .unknown => 0

/-- The operator role, honoured in every state but UNKNOWN (R35). -/
def Peer.operatorRole (p : Peer) : Bool :=
  p.counts && (match p.roles with
    | some r => r.operator
    | none => false)

/-- The trunk module an entry announces: its role set's, or, while that is absent, its last STANDING's (R35). -/
def Peer.trunkRole (p : Peer) : Option TrunkRole :=
  if p.counts then
    match p.roles with
    | some r => r.trunk
    | none => p.standing.bind fun m => m.trunk.map fun t => ⟨t.module, t.lanes⟩
  else none

/-- The free lanes of the module in the entry's last STANDING, 0 when that content is absent (R166)
(DEDUCED, notes/assumptions/22). -/
def Peer.freeLanes (p : Peer) (m : ModuleIx) : Nat :=
  match p.standing with
  | some st =>
    match st.trunk with
    | some t => if t.module == m then t.free else 0
    | none => 0
  | none => 0

/-- The trunk module of any station of the chassis, the own one included (R35). -/
def trunkRoleAt (s : State) (a : Addr) : Option TrunkRole :=
  if a = s.address then s.settings.trunk else s.peers[a].trunkRole

/-- The owner of a module: the lowest address that names it (R35). -/
def ownerOf (s : State) (m : ModuleIx) : Option Addr :=
  (List.finRange 16).find? fun a => (trunkRoleAt s a).any fun t => t.module == m

/-- The entry of address `a` changed by `f`. -/
def setPeer (a : Addr) (f : Peer → Peer) (s : State) : State :=
  { s with peers := updAt s.peers a f }

/-- An ASK with topic ROLL to `a` that is queued (R27). -/
def askRollQueued (s : State) (a : Addr) : Bool :=
  (s.bus.waiting .routine).any fun m => m == .askRoll a

end Sys2Proof.Machine
end

