-- ==== Sys2Proof/Machine/Slots.lean ====
section
/-! DEFINITION. One slot's sequencer: power, ceilings, charge, and what each transition does to the slot record and the
slot's link (chapter Slot sequencing). These are functions of one bay; reports to the neighbours are in Ops. -/

namespace Sys2Proof.Machine

/-! ### What a state means -/

/-- Whether a slot in this state and stop phase is powered (section 3.2) (DEDUCED, notes/assumptions/31). -/
def poweredIn (st : SlotState) (ph : Option StopPhase) : Bool :=
  match st with
  | .ramp | .running => true
  | .stopping => ph == some .draining
  | _ => false

/-- Whether this state and stop phase is the draining phase of STOPPING. -/
def drainingIn (st : SlotState) (ph : Option StopPhase) : Bool := st == .stopping && ph == some .draining

/-- Whether the heartbeat runs in this state: RUNNING and draining (R77). -/
def heartbeatIn (st : SlotState) (ph : Option StopPhase) : Bool := st == .running || drainingIn st ph

def Bay.powered (b : Bay) : Bool := poweredIn b.seq.state b.seq.phase

def Bay.draining (b : Bay) : Bool := drainingIn b.seq.state b.seq.phase

/-- A VALID inventory record is held. -/
def Bay.recordValid (b : Bay) : Bool :=
  match b.link.record with
  | some r => r.status == .valid
  | none => false

/-! ### Ceilings and charge -/

/-- The active ceiling: the least of allowance, operator ceiling and shed ceiling, not below the floor (R64). -/
def Bay.activeCeiling (b : Bay) : Nat :=
  match b.seq.allowance with
  | none => 0
  | some a =>
    max (b.seq.floor.getD 0) (min a (min (b.seq.opCeiling.getD a) (b.seq.shedCeiling.getD a)))

/-- The active ceiling, or the overdraw charge when present and larger (R65). -/
def Bay.ceilingOrOverdraw (b : Bay) : Nat := max b.activeCeiling (b.seq.overdraw.getD 0)

/-- The charge of a slot by its state (R65), also of a slot that a stop takes from RUNNING with the adopted mark and an
operator ceiling (DEDUCED, notes/assumptions/44). -/
def Bay.charge (b : Bay) : Nat :=
  match b.seq.state with
  | .ramp | .running =>
    if b.seq.adopted || !b.recordValid then b.cfg.worstCase else b.ceilingOrOverdraw
  | .stopping =>
    if b.seq.phase == some .draining then
      if b.recordValid then b.ceilingOrOverdraw else b.activeCeiling
    else 0
  | .stuck => b.cfg.worstCase
  | .empty | .identify | .off | .waitPower | .retryWait | .latched | .shedOff => 0

/-- The slot ceiling that STANDING's ceiling sums (R125). -/
def Bay.slotCeiling (b : Bay) : Nat :=
  let a := b.seq.allowance.getD 0
  match b.seq.state with
  | .running => if b.seq.adopted then b.cfg.worstCase else max a b.charge
  | .ramp => max a b.charge
  | .stopping => if b.draining then max a b.charge else 0
  | .stuck => b.cfg.worstCase
  | .waitPower | .retryWait | .shedOff => a
  | .empty | .identify | .off | .latched => 0

/-! ### Figures of an inventory record -/

/-- Base watts of a record in bus layout (chapter 12.4). -/
def recordBase (r : List Byte) : Nat := be16At r 20
/-- Start-up class of a record. -/
def recordClass (r : List Byte) : Nat := natAt r 24
/-- Lane-needs count of a record. -/
def recordNeedCount (r : List Byte) : Nat := natAt r 25
/-- Mezzanine count of a record. -/
def recordMezzCount (r : List Byte) : Nat := natAt r 34
/-- Extra watts of mezzanine `k`. -/
def recordExtra (r : List Byte) (k : Nat) : Nat := be16At r (37 + 4 * k)
/-- Floor watts, if the presence bit says the field is there. -/
def recordFloor (r : List Byte) : Option Nat :=
  if (r.getD 72 0).getLsbD 0 then some (be16At r 22) else none

/-- Allowance and floor of a floor watts figure within an allowance: no more than it, and at least 1 W (R44). -/
def figuresOf (allowance floor : Nat) : Figures := ⟨allowance, max 1 (min floor allowance)⟩

/-- The allowance and floor that an inventory outcome fixes (R44). -/
def figuresFor (worstCase : Nat) (r : InvRecord) : Figures :=
  match r.status with
  | .valid =>
    let extras := ((List.range (recordMezzCount r.bytes)).map (recordExtra r.bytes)).foldl (· + ·) 0
    let a := min (recordBase r.bytes + extras) worstCase
    figuresOf a ((recordFloor r.bytes).getD (a / 2))
  | .suspect | .absent => figuresOf worstCase (worstCase / 2)

/-- The start-up class: the record's when VALID, otherwise 16 (R46). -/
def Bay.startClass (b : Bay) : Nat :=
  match b.link.record with
  | some r => if r.status == .valid then recordClass r.bytes else 16
  | none => 16

def Bay.withFigures (b : Bay) (f : Figures) : Bay :=
  { b with seq := { b.seq with allowance := some f.allowance, floor := some f.floor } }

/-- The operator ceiling a setting makes, held at the floor if below it (R64, R137). -/
def settingCeiling (b : Bay) : OperatorSetting → Option Nat
  | .figure w => some (max w (b.seq.floor.getD 0))
  | .removal => none

/-- The slot with an operator setting in force. -/
def Bay.withOperator (b : Bay) (o : OperatorSetting) : Bay :=
  { b with seq := { b.seq with opCeiling := settingCeiling b o } }

/-- The slot without its shed and saved ceilings. -/
def Bay.withoutShed (b : Bay) : Bay :=
  { b with seq := { b.seq with shedCeiling := none, savedCeiling := none } }

/-! ### The overcurrent timer -/

/-- The overcurrent timer's count at `now` (R48). -/
def Seq.ocAt (q : Seq) (now : Nat) : Nat :=
  q.ocCount + (match q.ocSince with
    | some t => now - t
    | none => 0)

/-- The overcurrent timer set to 0, counting on if the comparator is asserted, with the gate-free timer running while it
is not (R48). -/
def Seq.ocRestart (q : Seq) (now : Nat) : Seq :=
  { q with
    ocCount := 0
    ocSince := if q.inLimit then some now else none
    gateFreeTimer := if q.inLimit then none else some (now + Config.gateFreePeriod) }

/-! ### The link as the slot moves -/

/-- A cap WRITE in flight whose item no longer waits for it (R80). -/
def Txn.orphan (t : Txn) : Txn :=
  match t.kind with
  | .capWrite f _ => { t with kind := .capWrite f false }
  | _ => t

/-- A pending item dropped; one in flight completes. -/
def WorkItem.dropped : WorkItem → WorkItem
  | .pending => .absent
  | w => w

/-- The link after a move of the slot: the cap item and the compliance hold end with RUNNING (R80, R83), the heartbeat
with RUNNING and draining (R77), a pending shutdown write with draining (R82). -/
def Link.follow (l : Link) (st : SlotState) (ph : Option StopPhase) : Link :=
  { l with
    cap := if st == .running then l.cap else none
    inFlight := if st == .running then l.inFlight else l.inFlight.map Txn.orphan
    hold := if st == .running then l.hold else .stopped
    heartbeat := if heartbeatIn st ph then l.heartbeat else none
    status := if heartbeatIn st ph then l.status else l.status.dropped
    shutdown := if drainingIn st ph then l.shutdown else l.shutdown.dropped }

/-- A cap write queued with a figure; it replaces one that is pending (R80). -/
def Link.queueCap (l : Link) (figure : Nat) : Link :=
  { l with cap := some ⟨figure, .writing, 0⟩, inFlight := l.inFlight.map Txn.orphan }

/-- An inventory read queued; it joins one in progress (R70, R73). The joined read takes the purpose of the one that
joins it, which is RELEASE alone, so that its end is the end of identification (DEDUCED, notes/assumptions/34). -/
def Link.queueInventory (l : Link) (p : ReadPurpose) : Link :=
  match l.inventory with
  | some x => { l with inventory := some { x with purpose := p } }
  | none => { l with inventory := some ⟨p, 0, 0, []⟩ }

/-- The link abandoned: the transaction in flight ends with no outcome, pending work is dropped and the record is
discarded (R58, R60, R69, R70). -/
def Link.abandoned (l : Link) : Link :=
  { l with
    inFlight := none, inventory := none, cap := none, shutdown := .absent, status := .absent, record := none,
    held := none }

/-! ### Moves -/

/-- Whether held figures are set at once on entering a state (R88): a state of zero charge other than WAIT_POWER and
SHED_OFF, or STUCK. A removal discards them instead. -/
def setsHeld (st : SlotState) (ph : Option StopPhase) : Bool :=
  match st with
  | .identify | .off | .retryWait | .latched | .stuck => true
  | .stopping => ph == some .unseating
  | .empty | .waitPower | .ramp | .running | .shedOff => false

/-- The slot moved to a state, with everything that follows from the state alone: marks and timers of the state left
are cleared and stopped, the ceilings of a powered slot are removed when it is no longer powered, except the shed and
saved ceilings in SHED_OFF, EMPTY and IDENTIFY hold no figures (R137), the overcurrent count is held while it is not
powered, held figures are set where R88 says so, and the link follows (DEDUCED, notes/assumptions/16 and 17). -/
def Bay.enter (b : Bay) (now : Nat) (st : SlotState) (ph : Option StopPhase) : Bay :=
  let q := b.seq
  let on := poweredIn st ph
  let fig := if setsHeld st ph then b.link.held else none
  { b with
    seq :=
      { q with
        state := st
        phase := ph
        dest := if st == .stopping then q.dest else none
        ejectorHold := q.ejectorHold && st == .off
        restoreBarred := q.restoreBarred && st == .shedOff
        cycle := q.cycle && (st == .off || st == .stopping)
        adopted := q.adopted && !(st == .empty || st == .stuck)
        allowance := if st == .empty || st == .identify then none else (fig.map (·.allowance)).or q.allowance
        floor := if st == .empty || st == .identify then none else (fig.map (·.floor)).or q.floor
        shedCeiling := if on || st == .shedOff then q.shedCeiling else none
        savedCeiling := if on || st == .shedOff then q.savedCeiling else none
        overdraw := if on then q.overdraw else none
        ocCount := if on then q.ocCount else q.ocAt now
        ocSince := if on then q.ocSince else none
        rampTimer := if st == .ramp then q.rampTimer else none
        gateFreeTimer := if on then q.gateFreeTimer else none
        retryTimer := if st == .retryWait then q.retryTimer else none
        gracefulTimer := if drainingIn st ph then q.gracefulTimer else none
        cycleTimer := if st == .off then q.cycleTimer else none
        retryClearTimer := if st == .running then q.retryClearTimer else none
        shutdownEnded := q.shutdownEnded && drainingIn st ph }
    link := { b.link.follow st ph with held := if fig.isSome then none else b.link.held } }

/-- The main switch commanded off. If it was on, the stuck check starts for 50 ms (R59). -/
def Seq.cut (q : Seq) (now : Nat) : Seq :=
  if q.gate == .off then q else { q with gate := .off, stuckTimer := some (now + Config.stuckCheckPeriod) }

def Bay.cut (b : Bay) (now : Nat) : Bay := { b with seq := b.seq.cut now }

def Bay.setCause (b : Bay) (c : ShutdownCause) : Bay := { b with seq := { b.seq with cause := c } }

/-- OFF with the ejector hold mark as given (R42). -/
def Bay.toOff (b : Bay) (now : Nat) (hold : Bool) : Bay :=
  let c := b.enter now .off none
  { c with seq := { c.seq with ejectorHold := hold } }

/-- Into RAMP at an admission: the switch on with the start-up limit ISTART × class / 16, the stuck check cancelled, the
ramp and overcurrent timers started (R46), the blade's health begun anew (R77, R80). -/
def Bay.toRamp (b : Bay) (now : Nat) : Bay :=
  let c := (b.enter now .ramp none).withoutShed
  { c with
    seq := ({ c.seq with
      gate := .limited (b.cfg.istart * b.startClass / 16)
      stuckTimer := none
      rampTimer := some (now + b.cfg.rampTime) } : Seq).ocRestart now
    link := { c.link with
      health := .responsive, failures := 0, margin := none, bladeState := none, lastCap := none, capUnacked := false } }

/-- What an entry into RUNNING starts on the link: heartbeat, cap write, compliance hold (R77, R80, R83). -/
def Bay.startLink (b : Bay) (now tst : Nat) : Bay :=
  { b with link := { b.link.queueCap b.activeCeiling with
      heartbeat := some (now + tst), hold := .running (now + Config.compliancePeriod) } }

/-- Power-good: the limit lifted, the overcurrent timer 0, the retry-clear timer started, RUNNING (R47). -/
def Bay.toRunning (b : Bay) (now tst : Nat) : Bay :=
  let c := b.enter now .running none
  ({ c with seq := ({ c.seq with
      gate := .lifted, retryClearTimer := some (now + Config.retryClearPeriod) } : Seq).ocRestart now } : Bay).startLink
    now tst

/-- Into the draining phase of STOPPING (R53): graceful timer started, shutdown write queued or joined
(DEDUCED, notes/assumptions/18). -/
def Bay.toDraining (b : Bay) (now : Nat) (cause : ShutdownCause) (dest : StopDest) (cycle : Bool) : Bay :=
  let c := b.enter now .stopping (some .draining)
  { c with
    seq := { c.seq with
      dest := some dest, cause := cause, cycle := cycle, shutdownEnded := false,
      gracefulTimer := some (now + 1000 * b.cfg.gracefulSeconds) }
    link := { c.link with shutdown := if c.link.shutdown == .absent then .pending else c.link.shutdown } }

/-- The end of draining (R54): the switch cut, then OFF, unseating, or OFF without the hold mark; the cycle timer starts
when the cycle mark is set (R56). -/
def Bay.endDraining (b : Bay) (now : Nat) : Bay :=
  let c := b.cut now
  if b.seq.dest == some .unseat then
    if b.seq.ejectorOpen then c.enter now .stopping (some .unseating) else c.toOff now false
  else
    let d := c.toOff now false
    { d with seq := { d.seq with
        cycleTimer := if d.seq.cycle then some (now + Config.cyclePeriod) else none } }

/-- Whether a fault raised in RAMP or RUNNING latches the slot, by retry count and policy (R51). -/
def Bay.faultLatches (b : Bay) (kind : ShutdownCause) : Bool :=
  1 ≤ b.seq.retryCount || (kind == .severeOc && b.cfg.faultPolicy == .latch)

/-- A fault handled (R50, R51), and in draining (R55): LATCHED whatever the retry count and policy. -/
def Bay.fault (b : Bay) (now : Nat) (kind : ShutdownCause) : Bay :=
  let c := b.cut now
  if b.draining || b.faultLatches kind then (c.enter now .latched none).setCause kind
  else
    let d := (c.enter now .retryWait none).setCause kind
    { d with seq := { d.seq with retryCount := 1, retryTimer := some (now + b.cfg.retryDelay) } }

/-- The meter cleared: every field but the three latest values (R92). -/
def Meter.clear (m : Meter) : Meter := Meter.cleared m.volt m.amp m.power

/-- Every timer of the slot stopped, the stuck check apart (DEDUCED, notes/assumptions/15). -/
def Seq.stopTimers (q : Seq) : Seq :=
  { q with
    presenceTimer := none, ejectorTimer := none, rampTimer := none, gateFreeTimer := none, retryTimer := none
    gracefulTimer := none, cycleTimer := none, retryClearTimer := none }

/-- A seating (R41): standby on, causes, counts, marks and ceilings cleared, the meter cleared, the inventory read
begun, IDENTIFY. -/
def Bay.seat (b : Bay) (now : Nat) : Bay :=
  let c := b.enter now .identify none
  { c with
    seq := { c.seq with
      standby := true, cause := .none, retryCount := 0, opCeiling := none, shedCeiling := none, savedCeiling := none
      overdraw := none, ejectorHold := false, restoreBarred := false, cycle := false, pendingOp := none
      presenceTimer := none }
    link := Link.fresh.queueInventory .seating
    meter := b.meter.clear }

/-- A surprise removal (R58). -/
def Bay.remove (b : Bay) (now : Nat) : Bay :=
  let wasOn := b.seq.gate != .off
  let c := (b.cut now).enter now .empty none
  { c with
    seq := { c.seq.stopTimers with
      standby := false, presence := false, pendingOp := none
      cause := if wasOn then .surpriseRemoval else b.seq.cause }
    link := c.link.abandoned
    meter := b.meter.clear }

/-- Presence loss in STUCK (R60). -/
def Bay.removeStuck (b : Bay) : Bay :=
  { b with seq := { b.seq with standby := false, presence := false }, link := b.link.abandoned }

/-- Into STUCK at the end of a stuck check (R59). -/
def Bay.toStuck (b : Bay) (now : Nat) : Bay :=
  let c := (b.enter now .stuck none).setCause .stuck
  { c with seq := { c.seq.stopTimers with stuckTimer := none } }

/-- Into SHED_OFF (R61): the shed and saved ceilings stay, a slot that came from draining is restore-barred. -/
def Bay.toShedOff (b : Bay) (now : Nat) (cause : ShutdownCause) : Bay :=
  let c := ((b.cut now).enter now .shedOff none).setCause cause
  { c with seq := { c.seq with restoreBarred := b.draining } }

/-- The end of identification (R43, R44): the figures fixed, then OFF with the hold mark, WAIT_POWER, or OFF. -/
def identifyNext (b : Bay) : SlotState :=
  if b.seq.ejectorOpen then .off
  else match b.cfg.startPolicy with
    | .auto => .waitPower
    | .hold => .off

/-- A debounced ejector opening that only changes marks: in OFF the hold mark is set and the cycle stopped (R56, R57), in
draining the destination becomes UNSEAT and the cycle mark is cleared (R55). -/
def Bay.openedInOff (b : Bay) : Bay :=
  { b with seq := { b.seq with ejectorHold := true, cycle := false, cycleTimer := none } }

def Bay.openedInDraining (b : Bay) : Bay :=
  { b with seq := { b.seq with dest := some .unseat, cycle := false } }

end Sys2Proof.Machine
end

