-- ==== Sys2Proof/Machine/CoolingUnit.lean ====
section
/-! DEFINITION. The cooling unit: demands, reported zone demands, fan targets, duty and tach judging (chapter Cooling
control). -/

namespace Sys2Proof.Machine

/-! ### Demands -/

/-- The demand for a margin under a floor duty (R145). -/
def demandFor (floor : Nat) (margin : Int) : Nat :=
  if 30 ≤ margin then floor
  else if margin ≤ 0 then 100
  else floor + (100 - floor) * (30 - margin.toNat) / 30

/-- The slot demand (R146). -/
def slotDemand (s : State) (i : SlotIx) : Option Nat :=
  let b := s.bays[i]
  if b.fitted && b.powered then
    match b.link.health, b.link.margin with
    | .responsive, some m => some (demandFor s.settings.floorDuty m)
    | .responsive, none => some s.settings.failSafe
    | .unresponsive, _ => some s.settings.failSafe
  else none

/-- The inlet demand of a reading; `none` is an invalid one (R147). -/
def inletDemandOf (st : Settings) (reading : Option Int) : Nat :=
  match reading with
  | some t => demandFor st.floorDuty (st.inletLimit - t)
  | none => st.failSafe

/-- The larger of two demands that may be absent. -/
def maxDemand (a b : Option Nat) : Option Nat :=
  match a, b with
  | some x, some y => some (max x y)
  | some x, none => some x
  | none, b => b

/-- The demands of the slots in a zone, and of the inlet (R148). -/
def rawDemand (s : State) (z : ZoneIx) : Option Nat :=
  let slots := ((List.finRange 4).map fun i => if s.bays[i].cfg.zone == z then slotDemand s i else none)
  let inlet := if s.settings.inletZone == some z then s.cooling.inletDemand else none
  slots.foldl maxDemand inlet

/-- The reporting rule, with hysteresis on falls (R149). -/
def reportDemand (before raw : Option Nat) : Option Nat :=
  match before, raw with
  | _, none => none
  | none, some r => some r
  | some b, some r => if b < r then some r else if b ≤ r + 3 then some b else some r

/-! ### Fan targets -/

/-- The demand a STANDING lists for a zone: of two entries of one zone the first
(DESIGN CHOICE, notes/assumptions/39). -/
def listedDemand (m : Standing) (z : ZoneIx) : Option Nat :=
  (m.zones.find? fun e => e.zone == z.val).map (·.demand)

/-- What a peer entry asks of the fans of a zone (R150). -/
def Peer.fanDemand (p : Peer) (z : ZoneIx) : Nat :=
  match p.standing with
  | none => 0
  | some m =>
    match p.state with
    | .live | .stale => (listedDemand m z).getD 0
    | .silent => if (listedDemand m z).isSome then 100 else 0
    | .unknown => 0

/-- The entries of the fifteen other addresses. -/
def peerList (s : State) : List Peer :=
  ((List.finRange 16).filter fun a => a != s.address).map fun a => s.peers[a]

/-- The fan target of a zone (R150). -/
def fanTarget (s : State) (z : ZoneIx) : Nat :=
  max s.settings.floorDuty
    (((peerList s).map fun p => p.fanDemand z).foldl max (s.cooling.reported[z].getD 0))

/-- Whether a fan channel is fitted (R144). -/
def fanFitted (s : State) (c : ChanIx) : Bool := c.val < s.settings.fanCount

/-- The target of one channel derived afresh. -/
def withTarget (s : State) (c : ChanIx) : Fan :=
  if fanFitted s c then { s.cooling.fans[c] with target := fanTarget s s.settings.fans[c].zone } else s.cooling.fans[c]

/-- Every fan target derived afresh (R150). -/
def deriveTargets (s : State) : State :=
  { s with cooling := { s.cooling with fans := #v[withTarget s 0, withTarget s 1] } }

/-- A zone's raw demand derived afresh, reported, and the fan targets after it (R148, R149, R150). -/
def deriveZone (z : ZoneIx) (s : State) : State :=
  let raw := rawDemand s z
  deriveTargets { s with cooling := { s.cooling with
    raw := s.cooling.raw.set z raw
    reported := s.cooling.reported.set z (reportDemand s.cooling.reported[z] raw) } }

/-- A report about a slot reaches the cooling unit: its zone is derived afresh (R146). -/
def slotReport (i : SlotIx) (s : State) : State := deriveZone s.bays[i].cfg.zone s

/-- An inlet reading taken (R147). -/
def takeInlet (reading : Option Int) (s : State) : State :=
  match s.settings.inletZone with
  | none => s
  | some z => deriveZone z { s with cooling := { s.cooling with inletDemand := some (inletDemandOf s.settings reading) } }

/-! ### The update instant -/

/-- The tach reading of a channel judged (R153). -/
def judgeTach (full reading : Nat) (f : Fan) : Fan :=
  let e := full * f.duty / 100
  if 10 * reading < 4 * e then { f with low := min 3 (f.low + 1), good := 0 }
  else if 6 * e ≤ 10 * reading then { f with low := 0, good := min 3 (f.good + 1) }
  else { f with low := 0, good := 0 }

/-- The health after a judgement (R153). -/
def judgedHealth (f : Fan) : FanHealth :=
  match f.health with
  | .ok => if f.low == 3 then .failed else .ok
  | .failed => if f.good == 3 then .ok else .failed

/-- The duty after an update (R151). -/
def nextDuty (step target duty : Nat) : Nat :=
  if duty ≤ target then target else if duty ≤ target + step then target else duty - step

/-- Channel `c` changed by `f`. -/
def setFan (c : ChanIx) (f : Fan → Fan) (s : State) : State :=
  { s with cooling := { s.cooling with fans := updAt s.cooling.fans c f } }

/-- The tach of a fitted channel judged, its health set (R153). -/
def judgeFan (c : ChanIx) (reading : Nat) (s : State) : State :=
  setFan c (fun f =>
    let g := judgeTach s.settings.fans[c].fullRpm reading f
    { g with health := judgedHealth g }) s

/-- The duty of a fitted channel set (R151). -/
def setDuty (c : ChanIx) (s : State) : State :=
  if fanFitted s c then setFan c (fun f => { f with duty := nextDuty s.settings.rampStep f.target f.duty }) s else s

/-! ### After a reset -/

/-- The cooling record at the end of a reset (R144, R155), `kept` giving the health a channel keeps. The raw and
reported demands and the targets are derived by `deriveAtReset` when the slots stand as the reset leaves them. -/
def coolingAtReset (kept : Vector FanHealth 2) (inletDue : Due) (inlet : Option Nat) : Cooling where
  inletDemand := inlet
  raw := #v[none, none, none, none]
  reported := #v[none, none, none, none]
  inletTimer := inletDue
  fans := #v[⟨0, 100, 0, 0, kept[0]⟩, ⟨0, 100, 0, 0, kept[1]⟩]
  judging := false

/-- Every zone derived with no hysteresis (R149), and every target after it. A channel that is not fitted keeps the floor
duty as its target. -/
def deriveAtReset (s : State) : State :=
  let raw := #v[rawDemand s 0, rawDemand s 1, rawDemand s 2, rawDemand s 3]
  let t := { s with cooling := { s.cooling with
    raw := raw, reported := raw
    fans := #v[{ s.cooling.fans[0] with target := s.settings.floorDuty },
      { s.cooling.fans[1] with target := s.settings.floorDuty }] } }
  deriveTargets t

end Sys2Proof.Machine
end

