-- ==== Sys2Proof/Machine/TrunkOwner.lean ====
section
/-! DEFINITION. The trunk unit's owner side: lane table, bid latches, reservation, faults and reclaim (sections 9.1 and
9.2). These are functions of the owner record; each gives the messages it offers. -/

namespace Sys2Proof.Machine

/-- The lanes of a table from `first` on, `n` of them, put in one state. -/
def setGroup (lanes : List LaneState) (g : Group) (st : LaneState) : List LaneState :=
  lanes.zipIdx.map fun x => if g.first ≤ x.2 && x.2 < g.first + g.lanes then st else x.1

/-- First lanes of the aligned groups of `n` lanes lying wholly below the lane count (R158). -/
def alignedFirsts (count n : Nat) : List Nat :=
  (List.range count).filter fun f => f % n == 0 && f + n ≤ count

/-- Whether the `n` lanes from `f` on are all FREE. -/
def groupFree (lanes : List LaneState) (f n : Nat) : Bool :=
  ((lanes.drop f).take n).all (· == .free)

/-- The first fit for `n` lanes (R158). -/
def firstFit (lanes : List LaneState) (n : Nat) : Option Group :=
  ((alignedFirsts lanes.length n).find? fun f => groupFree lanes f n).map fun f => ⟨f, n⟩

/-- Lanes in FREE (R164). -/
def freeLaneCount (lanes : List LaneState) : Nat := lanes.countP (· == .free)

/-- The lanes a predicate picks become FREE. -/
def freeLanes (p : LaneState → Bool) (lanes : List LaneState) : List LaneState :=
  lanes.map fun l => if p l then .free else l

/-- The lanes reserved for a latch. -/
def reservedFor (latch : Nat) : LaneState → Bool
  | .reserved k => k == latch
  | _ => false

/-- The lanes of HELD groups whose holder a predicate picks. -/
def heldBy (p : Holder → Bool) : LaneState → Bool
  | .held h => p h
  | _ => false

/-- The holder of a HELD lane that `p` picks, if any lane has one. -/
def findHolder (p : Holder → Bool) (lanes : List LaneState) : Option Holder :=
  lanes.findSome? fun l => match l with
    | .held h => if p h then some h else none
    | _ => none

/-- Place of a requester address in a scan from the address after the last served one, wrapping from 15 to 0 (R160). -/
def scanPlace (last a : Addr) : Nat := (a.val + 15 - last.val) % 16

/-- Latch order of a scan: by address from the one after the last served, then by creation (R160). -/
def scanBefore (last : Addr) (a b : Latch) : Bool :=
  scanPlace last a.requester < scanPlace last b.requester ||
    (scanPlace last a.requester == scanPlace last b.requester && a.created ≤ b.created)

/-- A latch put in its place in scan order. -/
def insertScan (last : Addr) (x : Latch) : List Latch → List Latch
  | [] => [x]
  | y :: ys => if scanBefore last x y then x :: y :: ys else y :: insertScan last x ys

/-- The latches without a reservation, in scan order (R160). -/
def scanOrder (o : Owner) : List Latch :=
  (o.latches.filter fun l => l.reserved.isNone).foldr (insertScan o.lastServed) []

/-- One latch's turn in the scan: its first fit becomes RESERVED for it and its requester is last served (R160). -/
def reserveStep (o : Owner) (l : Latch) : Owner :=
  match firstFit o.lanes l.lanes with
  | some g =>
    { o with
      lanes := setGroup o.lanes g (.reserved l.created)
      latches := o.latches.map fun x => if x.created == l.created then { x with reserved := some g } else x
      lastServed := l.requester }
  | none => o

/-- Reservation: one scan over the latches without a reservation (R160). -/
def reserve (o : Owner) : Owner := (scanOrder o).foldl reserveStep o

/-- Whether a latch, or a holder, is of the bid's requester, slot and port. -/
def latchOfPort (src : Addr) (m : BidMsg) (l : Latch) : Bool :=
  l.requester == src && l.slot == m.slot && l.port == m.port

def holderOfPort (src : Addr) (m : BidMsg) (h : Holder) : Bool :=
  h.requester == src && h.slot == m.slot && h.port == m.port

/-- The latches `p` picks are freed, with their reserved lanes. -/
def dropLatches (p : Latch → Bool) (o : Owner) : Owner :=
  { o with
    latches := o.latches.filter fun l => !p l
    lanes := freeLanes (fun s => o.latches.any fun l => p l && reservedFor l.created s) o.lanes }

/-- Reservation run if a change of the lane table made lanes FREE. -/
def reserveIfFreed (before after : Owner) : Owner :=
  if freeLaneCount before.lanes < freeLaneCount after.lanes then reserve after else after

/-- What the same requester, slot and port hold under another tag is freed; reservation runs if lanes became FREE
(R159). -/
def supersede (src : Addr) (m : BidMsg) (o : Owner) : Owner :=
  let p := dropLatches (latchOfPort src m) o
  reserveIfFreed o { p with lanes := freeLanes (heldBy (holderOfPort src m)) p.lanes }

/-- The answers of section 9.2. -/
def offerOf (src : Addr) (m : BidMsg) (g : Group) : Outgoing :=
  .laneOffer src ⟨m.module.val, m.tag, g.first, g.lanes⟩

def deferOf (src : Addr) (m : BidMsg) : Outgoing := .laneDefer src ⟨m.module.val, m.tag⟩

def refuseOf (src : Addr) (m : BidMsg) (r : RefuseReason) : Outgoing :=
  .laneRefuse src ⟨m.module.val, m.tag, r.code⟩

/-- The group HELD for the bid. -/
def holdGroup (src : Addr) (m : BidMsg) (g : Group) (o : Owner) : Owner :=
  { o with lanes := setGroup o.lanes g (.held ⟨src, m.slot, m.port, m.tag, g⟩) }

/-- A new bid judged (R160, the last four cases). -/
def judgeNewBid (now : Nat) (src : Addr) (m : BidMsg) (o : Owner) : Owner × Outgoing :=
  match firstFit o.lanes m.lanes with
  | some g => (holdGroup src m g o, offerOf src m g)
  | none =>
    if o.lanes.length < m.lanes then (o, refuseOf src m .tooWide)
    else if o.latches.length < Config.maxLatches then
      ({ o with
          latches := o.latches ++ [⟨src, m.slot, m.port, m.lanes, m.tag, o.nextLatch, none, now + Config.latchPeriod⟩]
          nextLatch := o.nextLatch + 1 }, deferOf src m)
    else (o, refuseOf src m .latchesFull)

/-- A LANE BID of the owner's module taken (R159, R160). A bid for other than 1, 2 or 4 lanes is answered with
nothing. -/
def takeBid (now : Nat) (src : Addr) (m : BidMsg) (o : Owner) : Owner × List Outgoing :=
  if !lanesOk m.lanes then (o, [])
  else match findHolder (fun h => holderOfPort src m h && h.tag == m.tag) o.lanes with
  | some h => (o, [offerOf src m h.group])
  | none =>
    match o.latches.find? (fun l => latchOfPort src m l && l.tag == m.tag) with
    | some l =>
      match l.reserved with
      | some g =>
        (holdGroup src m g { o with latches := o.latches.filter fun x => x.created != l.created }, [offerOf src m g])
      | none =>
        ({ o with latches := o.latches.map fun x =>
            if x.created == l.created then { x with discard := now + Config.latchPeriod } else x }, [deferOf src m])
    | none =>
      let r := judgeNewBid now src m (supersede src m o)
      (r.1, [r.2])

/-- The holder a LANE RETURN names: its group, held by the frame's source (R162). -/
def returnHolder (src : Addr) (m : ReturnMsg) (h : Holder) : Bool :=
  h.requester == src && h.group.first == m.first && h.group.lanes == m.lanes

/-- A LANE RETURN taken (R162). -/
def takeReturn (src : Addr) (m : ReturnMsg) (o : Owner) : Owner :=
  if (findHolder (returnHolder src m) o.lanes).isSome then
    reserve { o with lanes := freeLanes (heldBy (returnHolder src m)) o.lanes }
  else o

/-- A LANE WITHDRAW of a holder's group. -/
def withdrawOf (module : ModuleIx) (h : Holder) (r : WithdrawReason) : Outgoing :=
  .laneWithdraw h.requester ⟨module.val, h.group.first, h.group.lanes, r.code⟩

/-- A lane's fault assertion taken (R157). -/
def faultLane (lane : Nat) (o : Owner) : Owner × List Outgoing :=
  match o.lanes[lane]? with
  | some .free => ({ o with lanes := o.lanes.set lane .fenced }, [])
  | some (.reserved k) =>
    (reserve { o with
        lanes := (freeLanes (reservedFor k) o.lanes).set lane .fenced
        latches := o.latches.map fun x => if x.created == k then { x with reserved := none } else x }, [])
  | some (.held h) =>
    (reserve { o with lanes := (freeLanes (heldBy (· == h)) o.lanes).set lane .fenced },
      [withdrawOf o.module h .fenced])
  | some .fenced => (o, [])
  | none => (o, [])

/-- A lane's fault deassertion taken (R157). -/
def clearLane (lane : Nat) (o : Owner) : Owner :=
  match o.lanes[lane]? with
  | some .fenced => reserve { o with lanes := o.lanes.set lane .free }
  | some .free | some (.reserved _) | some (.held _) | none => o

/-- A latch discarded at the expiry of its timer: its reserved lanes become FREE and reservation runs (R161). -/
def discardLatch (l : Latch) (o : Owner) : Owner :=
  reserve (dropLatches (fun x => x.created == l.created) o)

/-- The HELD groups of an address, one holder each, in lane order (DESIGN CHOICE, notes/assumptions/45). -/
def groupsOf (a : Addr) (o : Owner) : List Holder :=
  o.lanes.zipIdx.filterMap fun x => match x.1 with
    | .held h => if h.requester == a && x.2 == h.group.first then some h else none
    | _ => none

/-- Reclaim from an address: its HELD groups and latches are freed, then reservation runs once (R163). -/
def reclaimFrom (a : Addr) (o : Owner) : Owner :=
  let p := dropLatches (fun l => l.requester == a) o
  reserveIfFreed o { p with lanes := freeLanes (heldBy (fun h => h.requester == a)) p.lanes }

/-- The withdrawals of a reclaim for entry into SILENT, in lane order (R163) (DESIGN CHOICE, notes/assumptions/45). -/
def reclaimMessages (a : Addr) (o : Owner) : List Outgoing :=
  (groupsOf a o).map fun h => withdrawOf o.module h .reclaimed

/-! ### In the station -/

/-- The owner side runs `f` and offers its messages, if the station owns module `m`. -/
def ownerActs (m : Nat) (f : Owner → Owner × List Outgoing) (s : State) : State :=
  match s.owner with
  | some o =>
    if o.module.val == m then
      let r := f o
      offerAll r.2 { s with owner := some r.1 }
    else s
  | none => s

/-- The owner side's part of a reclaim; entry into SILENT offers withdrawals, a new epoch none (R163). -/
def ownerReclaim (a : Addr) (silent : Bool) (s : State) : State :=
  match s.owner with
  | some o => offerAll (if silent then reclaimMessages a o else []) { s with owner := some (reclaimFrom a o) }
  | none => s

/-- An owner record after either reset: lanes FREE, or FENCED where the fault input is asserted (R156). -/
def ownerAtReset (t : TrunkRole) (faults : Vector Bool 8) : Owner where
  module := t.module
  lanes := (List.range t.lanes).map fun k => if faults.toList.getD k false then .fenced else .free
  latches := []
  nextLatch := 0
  lastServed := 15
  faults := Vector.ofFn fun k => ⟨faults[k], faults[k], none⟩

end Sys2Proof.Machine
end

