-- ==== Sys2Proof/Machine/TrunkPorts.lean ====
section
/-! DEFINITION. The trunk unit's requester side: port lane records, module choice, bids, offers, loss and return of
lanes, and the crosspoint (sections 9.3 and 9.4). -/

namespace Sys2Proof.Machine

/-! ### Records -/

/-- Bay `i` changed by `f`. -/
def setBay (i : SlotIx) (f : Bay → Bay) (s : State) : State :=
  { s with bays := updAt s.bays i f }

/-- The port lane record of a slot's port. -/
def portOf (s : State) (i : SlotIx) (p : PortIx) : PortRec := s.bays[i].ports[p]

/-- Port `p` of slot `i` changed by `f`. -/
def setPort (i : SlotIx) (p : PortIx) (f : PortRec → PortRec) (s : State) : State :=
  setBay i (fun b => { b with ports := updAt b.ports p f }) s

/-- Every port of every slot, in slot and port order. -/
def allPorts : List (SlotIx × PortIx) :=
  (List.finRange 4).flatMap fun i => (List.finRange 4).map fun p => (i, p)

/-- A record that wants lanes under its tag: BIDDING, DEFERRED or HELD (R165). -/
def PortState.wants : PortState → Bool
  | .bidding | .deferred | .held => true
  | .none | .lost | .unplaced => false

/-- A record that waits for an answer: BIDDING or DEFERRED. -/
def PortState.asks : PortState → Bool
  | .bidding | .deferred => true
  | .none | .held | .lost | .unplaced => false

/-! ### Module choice -/

/-- The free lanes the choice counts for a module at its owner (R166). -/
def freeLanesAt (s : State) (m : ModuleIx) (a : Addr) : Nat :=
  if a = s.address then
    match s.owner with
    | some o => if o.module == m then freeLaneCount o.lanes else 0
    | none => 0
  else s.peers[a].freeLanes m

/-- A module's owner and free lanes, if the module is suitable for `n` lanes (R166). -/
def suitable (s : State) (n : Nat) (m : ModuleIx) : Option (Addr × Nat) :=
  match ownerOf s m with
  | some a =>
    if (a == s.address || s.peers[a].state == .live) && (trunkRoleAt s a).any (fun t => n ≤ t.lanes) then
      some (a, freeLanesAt s m a)
    else none
  | none => none

/-- Of two choices the one with more free lanes, and of equal ones the first (R166). -/
def moreFree (best : Option (ModuleIx × Addr × Nat)) (next : ModuleIx × Addr × Nat) :
    Option (ModuleIx × Addr × Nat) :=
  match best with
  | none => some next
  | some b => if b.2.2 < next.2.2 then some next else some b

/-- The module choice for a need: the module and its owner (R166). -/
def chooseModule (s : State) (n : Need) : Option (ModuleIx × Addr) :=
  match n.module with
  | some m => (suitable s n.lanes m).map fun x => (m, x.1)
  | none =>
    (((List.finRange 4).filterMap fun m => (suitable s n.lanes m).map fun x => (m, x.1, x.2)).foldl moreFree none).map
      fun x => (x.1, x.2.1)

/-! ### Bids -/

/-- Whether another record in BIDDING, DEFERRED or HELD holds a tag (R165). -/
def tagInUse (s : State) (i : SlotIx) (p : PortIx) (t : Serial) : Bool :=
  allPorts.any fun x => x != (i, p) && (portOf s x.1 x.2).state.wants && (portOf s x.1 x.2).tag == some t

/-- The tag counter advanced past the tags in use; at most 15 other records hold one (R165). -/
def nextTag (s : State) (i : SlotIx) (p : PortIx) : Nat → Serial → Serial
  | 0, t => t
  | fuel + 1, t => if tagInUse s i p t then nextTag s i p fuel (t + 1) else t

/-- The bid tag removed from the records that hold it. -/
def clearTag (t : Serial) (s : State) : State :=
  { s with bays := Vector.ofFn fun i =>
      { s.bays[i] with ports := Vector.ofFn fun p =>
          if s.bays[i].ports[p].tag == some t then { s.bays[i].ports[p] with tag := none } else s.bays[i].ports[p] } }

/-- A new bid of a record (R165). -/
def newBid (i : SlotIx) (p : PortIx) (n : Need) (m : ModuleIx) (a : Addr) (s : State) : State :=
  let tag := nextTag s i p 16 s.tagCounter
  let t := setPort i p (fun r => { r with
      state := .bidding, chosen := some m, owner := some a, tag := some tag, timer := some (s.now + s.tst) })
    { clearTag tag s with tagCounter := tag + 1 }
  offer (.laneBid a ⟨m, i, p, n.lanes, tag⟩) t

/-- Into UNPLACED, with its timer started for 10 Tst. -/
def unplace (i : SlotIx) (p : PortIx) (s : State) : State :=
  setPort i p (fun r => { r with state := .unplaced, timer := some (s.now + Config.unplacedPeriods * s.tst) }) s

/-- The module choice made for a record that has a need, and the bid or UNPLACED that follows (R166). -/
def placePort (i : SlotIx) (p : PortIx) (s : State) : State :=
  match (portOf s i p).need with
  | some n =>
    match chooseModule s n with
    | some (m, a) => newBid i p n m a s
    | none => unplace i p s
  | none => s

/-- Entry `k` of a record's lane-needs list: port and need (chapter 12.4). -/
def laneNeedAt (r : List Byte) (k : Nat) : Nat × Need :=
  let x := natAt r (26 + 2 * k)
  let m := natAt r (27 + 2 * k)
  (x / 16, ⟨x % 16, if h : m < 4 then some ⟨m, h⟩ else none⟩)

/-- The lane needs of a slot's inventory record as held; empty unless VALID (R76, R166). -/
def Bay.laneNeeds (b : Bay) : List (Nat × Need) :=
  match b.link.record with
  | some r => if r.status == .valid then (List.range (recordNeedCount r.bytes)).map (laneNeedAt r.bytes) else []
  | none => []

/-- The need of a port. -/
def Bay.needOf (b : Bay) (p : PortIx) : Option Need :=
  (b.laneNeeds.find? fun x => x.1 == p.val).map fun x => x.2

/-- The lane-needs list of the record held taken at a report of the slot's entry into RUNNING, each port with its need
(R76, R166). A record that replaces it before the records start changes nothing (DEDUCED, notes/assumptions/49). -/
def takeNeeds (i : SlotIx) (s : State) : State := setBay i (fun b => { b with needs := Vector.ofFn b.needOf }) s

/-- One port's record started: its need set, and placed if the list taken names it (R166). -/
def startPort (i : SlotIx) (s : State) (p : PortIx) : State :=
  let n := s.bays[i].needs[p]
  placePort i p (setPort i p (fun r => { r with need := n }) s)

/-- A slot's port lane records started in port order (R166). -/
def startPorts (i : SlotIx) (s : State) : State := (List.finRange 4).foldl (startPort i) s

/-- A LANE BID of a port's record. -/
def isBidOf (i : SlotIx) (p : PortIx) : Outgoing → Bool
  | .laneBid _ m => m.slot == i && m.port == p
  | _ => false

/-- A record's LANE BID is queued. -/
def bidQueued (s : State) (i : SlotIx) (p : PortIx) : Bool := (s.bus.waiting .control).any (isBidOf i p)

/-- A record's queued LANE BID withdrawn (R9). -/
def withdrawBid (i : SlotIx) (p : PortIx) (s : State) : State := withdrawQueued .control (isBidOf i p) s

/-- The LANE RETURN of a record's held group. -/
def returnOf (r : PortRec) : Option Outgoing :=
  match r.chosen, r.owner, r.group with
  | some m, some a, some g => some (.laneReturn a ⟨m.val, g.first, g.lanes⟩)
  | _, _, _ => none

/-- One port's record ended (R172). Its queued LANE BID is withdrawn whatever its state (R9) (DEDUCED,
notes/assumptions/35), before the LANE RETURN of a held group is offered (DESIGN CHOICE, notes/assumptions/46). -/
def endPort (i : SlotIx) (s : State) (p : PortIx) : State :=
  let r := portOf s i p
  let u := withdrawBid i p s
  let t := if r.state == .held then offerAll (returnOf r).toList u else u
  setPort i p (fun r => { r with state := .none, need := none, group := none, timer := none, cross := none }) t

/-- A slot's port lane records ended at its leaving RUNNING (R172), in port order
(DESIGN CHOICE, notes/assumptions/46). -/
def endPorts (i : SlotIx) (s : State) : State := (List.finRange 4).foldl (endPort i) s

/-! ### Timers -/

/-- The re-presentation of a bid (R167). With no owner to be found, nothing is offered and the timer runs on
(DESIGN CHOICE, notes/assumptions/21). -/
def representPort (i : SlotIx) (p : PortIx) (s : State) : State :=
  let r := portOf s i p
  let t := setPort i p (fun r => { r with timer := some (s.now + s.tst) }) s
  if bidQueued s i p then t
  else match r.chosen, r.tag, r.need with
    | some m, some tag, some n =>
      match ownerOf s m with
      | some a => offer (.laneBid a ⟨m, i, p, n.lanes, tag⟩) (setPort i p (fun r => { r with owner := some a }) t)
      | none => t
    | _, _, _ => t

/-! ### Answers and withdrawals -/

/-- The record an answer names by module and bid tag, in any state (R168). -/
def matchAnswer (s : State) (module : Nat) (tag : Serial) : Option (SlotIx × PortIx) :=
  allPorts.find? fun x => (portOf s x.1 x.2).tag == some tag &&
    (portOf s x.1 x.2).chosen.any fun m => m.val == module

/-- An unwanted offer handed back to the frame's source, the bid tag made absent (R168)
(DEDUCED, notes/assumptions/20). -/
def returnOffer (i : SlotIx) (p : PortIx) (src : Addr) (m : OfferMsg) (s : State) : State :=
  setPort i p (fun r => { r with tag := none }) (offer (.laneReturn src ⟨m.module, m.first, m.lanes⟩) s)

/-- A LANE OFFER taken by the record it matches (R168), also one whose lanes make no aligned group
(DESIGN CHOICE, notes/assumptions/48). -/
def takeOffer (src : Addr) (m : OfferMsg) (s : State) : State :=
  match matchAnswer s m.module m.tag with
  | none => s
  | some (i, p) =>
    let g : Group := ⟨m.first, m.lanes⟩
    let r := portOf s i p
    match r.state with
    | .bidding | .deferred =>
      setPort i p (fun r => { r with
        state := .held, group := some g, timer := none, cross := r.chosen.map fun x => ⟨x, g⟩ }) s
    | .held => if r.group == some g then s else returnOffer i p src m s
    | .none | .lost | .unplaced => returnOffer i p src m s

/-- A LANE DEFER taken (R168). -/
def takeDefer (m : DeferMsg) (s : State) : State :=
  match matchAnswer s m.module m.tag with
  | none => s
  | some (i, p) =>
    if (portOf s i p).state == .bidding then setPort i p (fun r => { r with state := .deferred }) s else s

/-- A LANE REFUSE taken (R168). -/
def takeRefuse (m : RefuseMsg) (s : State) : State :=
  match matchAnswer s m.module m.tag with
  | none => s
  | some (i, p) => if (portOf s i p).state.asks then unplace i p s else s

/-- Into LOST: disconnected, the lost timer started (R170, R171). -/
def losePort (i : SlotIx) (p : PortIx) (s : State) : State :=
  setPort i p (fun r => { r with
    state := .lost, group := none, cross := none, timer := some (s.now + s.tst) }) s

/-- The HELD record a LANE WITHDRAW names by module and group (R170): of two that hold the same one, the first in slot and
port order (DESIGN CHOICE, notes/assumptions/40). -/
def matchWithdraw (s : State) (m : WithdrawMsg) : Option (SlotIx × PortIx) :=
  allPorts.find? fun x => (portOf s x.1 x.2).state == .held &&
    (portOf s x.1 x.2).chosen.any (fun c => c.val == m.module) &&
    (portOf s x.1 x.2).group == some ⟨m.first, m.lanes⟩

/-- A LANE WITHDRAW taken (R170). -/
def takeWithdraw (m : WithdrawMsg) (s : State) : State :=
  match matchWithdraw s m with
  | none => s
  | some (i, p) => losePort i p s

/-! ### Owners gone or restarted -/

/-- A record at the owner at address `a`: by its owner address, or by the owner `was` that R35 gave its chosen module
(DEDUCED, notes/assumptions/19). -/
def PortRec.ownedBy (was : ModuleIx → Option Addr) (a : Addr) (r : PortRec) : Bool :=
  r.owner == some a || r.chosen.any fun m => was m == some a

/-- The owner at address `a`, `was` before the change, entered SILENT or UNKNOWN: each record at it withdraws its queued
bid, whatever its state (R9) (DEDUCED, notes/assumptions/35), and one in BIDDING or DEFERRED enters UNPLACED (R167,
R171). -/
def ownerGone (was : ModuleIx → Option Addr) (a : Addr) (s : State) : State :=
  allPorts.foldl (fun t x =>
    let r := portOf t x.1 x.2
    if r.ownedBy was a then
      let u := withdrawBid x.1 x.2 t
      if r.state.asks then unplace x.1 x.2 u else u
    else t) s

/-- The owner at address `a` showed a new epoch: its HELD records are disconnected and enter LOST (R171). -/
def ownerRestarted (a : Addr) (s : State) : State :=
  allPorts.foldl (fun t x =>
    let r := portOf t x.1 x.2
    if r.state == .held && r.owner == some a then losePort x.1 x.2 t else t) s

end Sys2Proof.Machine
end

