-- ==== Sys2Proof/Machine/Budget.lean ====
section
/-! DEFINITION. The budget unit's account and claim queue: base and usable capacity, the two headrooms, the queue's
order, the sending check, the share and the shed order (chapters Chassis budget and claims; Deficit, shedding and
restoration). The recomputation that joins them is in Ops. -/

namespace Sys2Proof.Machine

/-! ### Base capacity, cooling factor, headrooms -/

/-- A record's count by its state (R106). -/
def supplyCount (state : SupplyState) (rated : Nat) : Nat :=
  match state with
  | .ok => rated
  | .degraded => rated / 2
  | .failed | .absent => 0

/-- Whether a supply channel is fitted (R98). -/
def supplyFitted (s : State) (c : ChanIx) : Bool := c.val < s.settings.supplyCount

/-- The record of an own supply channel as STANDING carries it (R104). -/
def ownRecord (s : State) (c : ChanIx) : SupplyRecord :=
  ⟨s.settings.supplies[c].feed, s.supplies[c].state, s.settings.supplies[c].rated, s.supplies[c].output⟩

/-- The records of the own fitted supply channels, in channel order (R104). -/
def ownRecords (s : State) : List SupplyRecord :=
  ((List.finRange 2).filter (supplyFitted s)).map (ownRecord s)

/-- The supply records a peer entry gives (R106). -/
def Peer.supplies (p : Peer) : List SupplyRecord :=
  if p.counts then (match p.standing with
    | some m => m.supplies
    | none => []) else []

/-- Every supply record the station knows, as feed and count (R106). -/
def counts (s : State) : List (Feed × Nat) :=
  (ownRecords s ++ (peerList s).flatMap Peer.supplies).map fun r => (r.feed, supplyCount r.state r.rated)

def sumOf (l : List Nat) : Nat := l.foldl (· + ·) 0

def feedSum (f : Feed) (l : List (Feed × Nat)) : Nat := sumOf ((l.filter fun x => x.1 == f).map fun x => x.2)

/-- Base capacity and the redundancy lost flag (R107). -/
def baseOf (mode : RedundancyMode) (l : List (Feed × Nat)) : Nat × Bool :=
  let all := sumOf (l.map fun x => x.2)
  match mode with
  | .none => (all, false)
  | .oneSpare =>
    if 2 ≤ (l.filter fun x => 0 < x.2).length then (all - (l.map fun x => x.2).foldl max 0, false) else (all, true)
  | .feedPair =>
    let a := feedSum .a l
    let b := feedSum .b l
    if 0 < a && 0 < b then (min a b, false) else (a + b, true)

/-- The fan health entries a peer entry gives (R109). -/
def Peer.fanList (p : Peer) : List FanEntry :=
  if p.counts then (match p.standing with
    | some m => m.fans
    | none => []) else []

/-- The fan health list of the own fitted channels, in channel order (R154). -/
def ownFans (s : State) : List FanEntry :=
  ((List.finRange 2).filter (fanFitted s)).map fun c => ⟨s.settings.fans[c].zone, s.cooling.fans[c].health⟩

/-- Fan channels FAILED in a zone. -/
def failedIn (l : List FanEntry) (z : ZoneIx) : Nat := l.countP fun e => e.zone == z && e.health == .failed

/-- The largest count of failed fan channels in one zone, F (R109). -/
def largestFailed (l : List FanEntry) : Nat :=
  max (max (failedIn l 0) (failedIn l 1)) (max (failedIn l 2) (failedIn l 3))

/-- The cooling factor k (R109). -/
def coolingFactor (f : Nat) : Nat := 16 - min 8 (2 * f)

/-- Usable capacity U (R109). -/
def usableOf (base k : Nat) : Nat := base * k / 16

/-- Own committed: the sum of the slot charges as reported (R66). -/
def ownCommitted (b : Budget) : Nat := b.reported[0] + b.reported[1] + b.reported[2] + b.reported[3]

/-- Sums of the peer charges (R34, R110). -/
def admissionCharges (s : State) : Nat := sumOf ((peerList s).map Peer.admissionCharge)

def supplyCharges (s : State) : Nat := sumOf ((peerList s).map Peer.supplyCharge)

/-- Steps 1 and 2 of a recomputation: the figures and flags computed afresh, REDUNDANCY_LOST raised if its flag has just
been set (R111, R108, R109). -/
def refigure (s : State) : State :=
  let bl := baseOf s.settings.constants.mode (counts s)
  let f := largestFailed (ownFans s ++ (peerList s).flatMap Peer.fanList)
  let k := coolingFactor f
  let u := usableOf bl.1 k
  let own := ownCommitted s.budget
  let t := { s with budget := { s.budget with
    base := bl.1, failedFans := f, factor := k, usable := u, committed := own
    ha := (u : Int) - s.settings.constants.guardBand - admissionCharges s - own
    hs := (u : Int) - supplyCharges s - own
    redundancyLost := bl.2, coolingDegraded := k < 16, blocked := [] } }
  if bl.2 && !s.budget.redundancyLost then raiseStation (fun f => { f with redundancyLost := true }) t else t

/-! ### The claim queue -/

/-- The kind that a purpose carries on the bus (R112). -/
def Purpose.kind : Purpose → ClaimKind
  | .admission => .admission
  | .heldFigures | .operatorRaise => .raise
  | .restorePower | .restoreCeiling => .restore

/-- Whether a purpose is valid in a slot state (R112). -/
def validIn (p : Purpose) (st : SlotState) (ph : Option StopPhase) : Bool :=
  match p with
  | .admission => st == .waitPower
  | .heldFigures | .operatorRaise => poweredIn st ph
  | .restorePower => st == .shedOff
  | .restoreCeiling => st == .running

/-- The priority of a slot. -/
def prio (s : State) (i : SlotIx) : Nat := s.bays[i].seq.priority

/-- An entry put in its place: priority first, then arrival (R113). -/
def insertEntry (s : State) (e : Entry) : List Entry → List Entry
  | [] => [e]
  | x :: xs =>
    if prio s x.slot < prio s e.slot || (prio s x.slot == prio s e.slot && e.arrival < x.arrival) then e :: x :: xs
    else x :: insertEntry s e xs

/-- The entry of a slot, if the queue holds one. -/
def entryOf (s : State) (i : SlotIx) : Option Entry := s.budget.queue.find? fun e => e.slot == i

/-- A CLAIM. -/
def isClaim : Outgoing → Bool
  | .claim .. => true
  | _ => false

/-- Whether the sending check's conditions hold for the head entry (R116). -/
def canClaim (s : State) (e : Entry) : Bool :=
  s.census.isNone && !s.budget.deficit && s.budget.own.state == .none && s.budget.bar.isNone &&
    (e.watts : Int) ≤ s.budget.ha && !s.budget.blocked.contains e.arrival

/-- A CLAIM for an entry offered; a refusal by a full FIFO leaves the own claim NONE until the next recomputation
(R115, R116). -/
def offerClaim (e : Entry) (s : State) : State :=
  let m := Outgoing.claim e.watts e.slot e.purpose.kind
  let t := offer m s
  if takes s.bus m then
    { t with budget := { t.budget with own := ⟨.queued, some e.arrival, e.slot, e.purpose.kind, e.watts, none⟩ } }
  else { t with budget := { t.budget with blocked := e.arrival :: t.budget.blocked } }

/-- The sending check (R116) (DEDUCED, notes/assumptions/13). -/
def sendingCheck (s : State) : State :=
  match s.budget.queue.head? with
  | some e => if canClaim s e then offerClaim e s else s
  | none => s

/-- The sending check where the head changed, the own claim moved to NONE or a bar was removed (R113, R115, R122)
(DEDUCED, notes/assumptions/13). -/
def recheck (before after : State) : State :=
  if before.budget.queue.head? != after.budget.queue.head? || before.budget.own.state != after.budget.own.state ||
      before.budget.bar != after.budget.bar then
    sendingCheck after
  else after

/-- The watts of an ADMIT entry, and of a restore of power: the slot's allowance (R45, R141). For a slot that holds none
they are a free value within the range of a claim (DESIGN CHOICE, notes/assumptions/23). -/
def entryWatts (s : State) (i : SlotIx) : Nat :=
  s.bays[i].seq.allowance.getD (1 + Config.unstatedWatts s.budget.nextArrival % Config.maxWatts)

/-- An entry handed: taken if its slot has none (R112). -/
def handEntry (i : SlotIx) (p : Purpose) (watts : Nat) (s : State) : State :=
  match entryOf s i with
  | some _ => s
  | none =>
    let e : Entry := ⟨i, p, watts, s.budget.nextArrival⟩
    recheck s { s with budget := { s.budget with
      queue := insertEntry s e s.budget.queue, nextArrival := s.budget.nextArrival + 1 } }

/-- An own CLAIM that is QUEUED withdrawn from the CONTROL FIFO; the own claim returns to NONE (R114). -/
def withdrawClaim (s : State) : State :=
  if s.budget.own.state == .queued then
    let t := withdrawQueued .control isClaim s
    { t with budget := { t.budget with own := OwnClaim.idle } }
  else s

/-- The entry of a slot taken out of the queue, with the restore entry and a bar that name it (R113, R122, R142). -/
def takeOut (e : Entry) (s : State) : State :=
  { s with budget := { s.budget with
    queue := s.budget.queue.filter fun x => x.slot != e.slot
    restoreEntry := if s.budget.restoreEntry == some e.slot then none else s.budget.restoreEntry
    bar := s.budget.bar.filter fun b => b.entry != e.arrival } }

/-- The withdrawal of a slot's entry, by the state of the own claim (R114). -/
def withdrawEntry (i : SlotIx) (s : State) : State :=
  match entryOf s i with
  | none => s
  | some e =>
    let t := if s.budget.own.state == .queued && s.budget.own.claimed == some e.arrival then withdrawClaim s else s
    recheck s (takeOut e t)

/-- A slot's priority changed; its entry moves to its new place (R113, R177). -/
def changePriority (i : SlotIx) (p : Nat) (s : State) : State :=
  let t := setBay i (fun b => { b with seq := { b.seq with priority := p } }) s
  match entryOf t i with
  | none => t
  | some e =>
    recheck t { t with budget := { t.budget with
      queue := insertEntry t e (t.budget.queue.filter fun x => x.slot != i) } }

/-! ### The refusal bar -/

/-- Step 3 of a recomputation: the raised mark set, and the bar lifted when one Tst has passed (R122)
(DEDUCED, notes/assumptions/13). -/
def markBar (s : State) : State :=
  match s.budget.bar with
  | none => s
  | some b =>
    let raised := b.raised || b.ha < s.budget.ha
    { s with budget := { s.budget with
      bar := if raised && b.at' + s.tst ≤ s.now then none else some { b with raised := raised } } }

/-- The bar's lifting at the expiry of one Tst (R122). -/
def liftBar (s : State) : State :=
  match s.budget.bar with
  | some b =>
    if b.raised && b.at' + s.tst ≤ s.now then sendingCheck { s with budget := { s.budget with bar := none } } else s
  | none => s

/-! ### Deficit and share -/

/-- The excess S (R132). -/
def excessOf (hs : Int) : Nat := (-hs).toNat

/-- The share of an excess: in proportion to own committed, rounded up (R132, R133). -/
def shareOf (excess own total : Nat) : Nat := if own = 0 then 0 else divUp (excess * own) total

/-- The station's share of an excess from the figures held. -/
def ownShare (s : State) (excess : Nat) : Nat :=
  shareOf excess s.budget.committed (s.budget.committed + supplyCharges s)

/-- The slots in shed order: ascending priority, the higher index first (R134). -/
def insertShed (s : State) (i : SlotIx) : List SlotIx → List SlotIx
  | [] => [i]
  | x :: xs =>
    if prio s i < prio s x || (prio s i == prio s x && x < i) then i :: x :: xs else x :: insertShed s i xs

def shedOrder (s : State) : List SlotIx := (List.finRange 4).foldr (insertShed s) []

/-- Restore order: descending priority, the lower index first (R140). -/
def restoreOrder (s : State) : List SlotIx := (shedOrder s).reverse

/-- Whether the capping pass visits a slot (R135). -/
def Bay.cappable (b : Bay) : Bool :=
  b.fitted && b.seq.state == .running && b.recordValid && !b.seq.adopted && b.seq.floor.getD 0 < b.charge

/-- One slot capped for what remains of the share (R135). -/
def Bay.capped (b : Bay) (remaining : Nat) : Bay :=
  let give := min remaining (b.charge - b.seq.floor.getD 0)
  { b with seq := { b.seq with
      savedCeiling := if b.seq.shedCeiling.isSome then b.seq.savedCeiling else some b.activeCeiling
      shedCeiling := some (b.charge - give)
      overdraw := none } }

/-- A shed slot (R140). -/
def Bay.isShed (b : Bay) : Bool :=
  b.fitted &&
    ((b.seq.state == .running && b.seq.shedCeiling.isSome) ||
      (b.seq.state == .shedOff && (b.seq.cause == .shed || b.seq.cause == .noncompliant) && !b.seq.restoreBarred))

/-- Whether restoration may hand an entry (R140). -/
def mayRestore (s : State) : Bool :=
  s.census.isNone && !s.budget.deficit && (s.settings.constants.restoreMargin : Int) ≤ s.budget.ha &&
    s.budget.restoreEntry.isNone

/-- The deficit flag set, DEFICIT raised (R129, R131). -/
def setDeficit (s : State) : State :=
  raiseStation (fun f => { f with deficit := true }) { s with budget := { s.budget with deficit := true } }

/-- The deficit left (R130). -/
def clearDeficit (s : State) : State := { s with budget := { s.budget with deficit := false, shedMark := none } }

/-- The shed mark set. -/
def setMark (m : Nat) (s : State) : State := { s with budget := { s.budget with shedMark := some m } }

/-! ### Raises that may need a claim -/

/-- Whether an operator setting needs a claim (R139). -/
def needsClaim (b : Bay) (o : OperatorSetting) : Bool := b.powered && b.charge < (b.withOperator o).charge

/-! ### What STANDING shows -/

/-- The ceiling STANDING carries (R125). -/
def ownCeiling (s : State) : Nat :=
  s.bays[0].slotCeiling + s.bays[1].slotCeiling + s.bays[2].slotCeiling + s.bays[3].slotCeiling

end Sys2Proof.Machine
end

