-- ==== Sys2Proof/Machine/Metering.lean ====
section
/-! DEFINITION. The meter unit: one sample of a slot, its window, peak and energy (sections 5.1 to 5.3), and the supply
channels' output blocks (R100). -/

namespace Sys2Proof.Machine

/-- The latest values of a sample replaced (R90). -/
def Meter.latest (m : Meter) (volt amp : Nat) : Meter :=
  { m with volt := volt, amp := amp, power := powerSample volt amp }

/-- A code at the top of its range makes a sample saturated (R90). -/
def Meter.saturatedNow (m : Meter) : Bool := m.volt == Config.maxCode || m.amp == Config.maxCode

/-- The energy and its rollovers after one more power sample (R96). -/
def addEnergy (m : Meter) : Meter :=
  let e := m.energy + m.power
  if e < Config.span32 then { m with energy := e }
  else { m with energy := e - Config.span32, rollovers := satInc m.rollovers }

/-- The latest sample gathered (R92): sums, saturation mark, count, peak, energy and sample count. -/
def Meter.gather (m : Meter) : Meter :=
  let g := { m with
    count := m.count + 1
    voltSum := m.voltSum + m.volt
    ampSum := m.ampSum + m.amp
    powerSum := m.powerSum + m.power
    saturated := m.saturated || m.saturatedNow
    peak := max m.peak m.power
    samples := (m.samples + 1) % Config.span32 }
  addEnergy g

/-- The end of a window of `n` samples (R93). -/
def Meter.endWindow (m : Meter) (n : Nat) : Meter :=
  { m with
    voltAvg := m.voltSum / n
    ampAvg := m.ampSum / n
    powerAvg := m.powerSum / n
    overRange := m.saturated
    count := 0
    voltSum := 0
    ampSum := 0
    powerSum := 0
    saturated := false }

/-- The length of a window (R89). -/
def windowLength (s : State) : Nat := 2 ^ s.settings.windowExp

/-- Average watts of a power average: truncated for the compliance test, rounded up for the overdraw figure (R94). -/
def averageWatts (powerAvg : Nat) : Nat := powerAvg / 4

def overdrawWatts (powerAvg : Nat) : Nat := divUp powerAvg 4

/-- The compliance limit of an active ceiling (R83). -/
def complianceLimit (c : Nat) : Nat := c + c / 20

/-- Power-good: ten times the main voltage code at least nine times the station input's (R47). -/
def powerGood (volt station : Nat) : Bool := 9 * station ≤ 10 * volt

/-- One sample of an output block (R100). -/
def Supply.gather (p : Supply) (outputCode stationCode scale : Nat) : Supply :=
  { p with blockCount := p.blockCount + 1, blockSum := p.blockSum + outputCode * stationCode * scale }

/-- The end of an output block (R100). -/
def Supply.endBlock (p : Supply) (rated : Nat) : Supply :=
  let w := p.blockSum / 64000
  { p with output := w, loaded := 9 * rated < 10 * w, blockCount := 0, blockSum := 0 }

/-- The state of a supply channel from its conditioned inputs (R101). -/
def Supply.derived (p : Supply) : SupplyState :=
  if !p.present then .absent
  else if !p.good then .failed
  else if p.warned || p.loaded then .degraded
  else .ok

/-- Whether a change of a channel's state is offered a SUPPLY ALARM (R102). -/
def alarmed (before after : SupplyState) : Bool :=
  match before, after with
  | .absent, .ok => true
  | .ok, .absent | .ok, .failed => true
  | .degraded, .absent | .degraded, .ok | .degraded, .failed => true
  | .failed, .ok => true
  | .absent, _ | .ok, _ | .degraded, _ | .failed, _ => false

/-- The latest values of every fitted slot and the station input voltage replaced by a sample (R90). -/
def takeLatest (m : Sample) (s : State) : State :=
  let bay (i : SlotIx) : Bay :=
    if s.bays[i].fitted then
      { s.bays[i] with meter := s.bays[i].meter.latest (voltCode m.volts[i]) (ampCode m.amps[i]) }
    else s.bays[i]
  { s with stationVolt := voltCode m.station, bays := #v[bay 0, bay 1, bay 2, bay 3] }

end Sys2Proof.Machine
end

