-- ==== Sys2Proof/Machine/Sideband.lean ====
section
/-! DEFINITION. The sideband unit: transactions, the inventory record, status reads, caps and REIDENTIFY (chapter Sideband
and inventory). These are functions of one bay or link; what they report is in Ops. -/

namespace Sys2Proof.Machine

/-! ### Starting a transaction -/

/-- The eight bytes of the command region (R72, chapter 12.4). -/
def commandRegion (cap : Nat) (shutdown : Bool) : List Byte :=
  le16 cap ++ [if shutdown then 1 else 0, 0, 0, 0, 0, 0]

/-- The transaction an inventory item starts next (R73). -/
def inventoryTxn (now : Nat) (x : InventoryItem) : Txn := ⟨.read, 24 * x.index, 24, [], .inventory, x.failed + 1, now⟩

/-- The transaction a cap item starts next, if it is ready (R80). -/
def capTxn (now : Nat) (x : CapItem) : Option Txn :=
  match x.phase with
  | .writing => some ⟨.write, 104, 8, commandRegion x.figure false, .capWrite x.figure true, x.failed + 1, now⟩
  | .confirming _ ready _ => if ready then some ⟨.read, 96, 8, [], .confirm, 1, now⟩ else none

/-- The next transaction of the ready item of highest rank (R70). -/
def nextTxn (now : Nat) (b : Bay) : Option Txn :=
  match b.link.inventory with
  | some x => some (inventoryTxn now x)
  | none =>
    match b.link.cap.bind (capTxn now) with
    | some t => some t
    | none =>
      if b.link.shutdown == .pending then
        some ⟨.write, 104, 8, commandRegion (b.link.lastCap.getD b.activeCeiling) true, .shutdown, 1, now⟩
      else if b.link.status == .pending then some ⟨.read, 96, 8, [], .status, 1, now⟩
      else none

/-- The cap item whose confirmation read has started. -/
def CapItem.reading (x : CapItem) : CapItem :=
  match x.phase with
  | .confirming _ _ limit => { x with phase := .confirming none false limit }
  | .writing => x

/-- A transaction started: its item is in flight (R70). -/
def Link.started (l : Link) (t : Txn) : Link :=
  match t.kind with
  | .inventory | .capWrite _ _ => { l with inFlight := some t }
  | .confirm => { l with inFlight := some t, cap := l.cap.map CapItem.reading }
  | .shutdown => { l with inFlight := some t, shutdown := .inFlight }
  | .status => { l with inFlight := some t, status := .inFlight }

/-- Whether a link starts a transaction: standby on, the link free, some item ready (R69, R70). -/
def Bay.canStart (now : Nat) (b : Bay) : Bool :=
  b.seq.standby && b.link.inFlight.isNone && (nextTxn now b).isSome

/-- The start of the next transaction. -/
def Bay.start (now : Nat) (b : Bay) : Bay :=
  match nextTxn now b with
  | some t => { b with link := b.link.started t }
  | none => b

/-- The kind in flight. -/
def Link.kind (l : Link) : Option TxnKind := l.inFlight.map (·.kind)

/-! ### The inventory record -/

/-- The two bytes at `k` exchanged. -/
def swapAt (k : Nat) (l : List Byte) : List Byte := (l.set k (l.getD (k + 1) 0)).set (k + 1) (l.getD k 0)

/-- The gathered bytes in bus layout: every 16-bit field with its two bytes in big-endian order (chapter 12.4)
(DEDUCED, notes/assumptions/29). -/
def busLayout (l : List Byte) : List Byte :=
  (List.range (min (recordMezzCount l) 3)).foldl (fun r k => swapAt (35 + 4 * k) (swapAt (37 + 4 * k) r))
    (swapAt 94 (swapAt 22 (swapAt 20 (swapAt 0 l))))

/-- The checksum of the gathered bytes matches (R74). -/
def checksumGood (l : List Byte) : Bool := byteSum (l.take 94) == le16At l 94

/-- Whether all elements of a list differ. -/
def allDiffer : List Nat → Bool
  | [] => true
  | x :: xs => !xs.contains x && allDiffer xs

/-- Entry `k` of the lane needs lies in its ranges (R75). -/
def needInRange (r : List Byte) (k : Nat) : Bool :=
  let x := natAt r (26 + 2 * k)
  let m := natAt r (27 + 2 * k)
  x / 16 ≤ 3 && lanesOk (x % 16) && (m ≤ 3 || m == 255)

/-- Every field of a record in bus layout lies in its range (R75). -/
def fieldsInRange (r : List Byte) : Bool :=
  let serial := natAt r 3
  let base := recordBase r
  let needs := recordNeedCount r
  let mezz := recordMezzCount r
  (1 ≤ serial && serial ≤ 16) && (1 ≤ base && base ≤ 4000) &&
    (recordFloor r).all (fun f => 1 ≤ f && f ≤ 4000) &&
    (1 ≤ recordClass r && recordClass r ≤ 16) &&
    (needs ≤ 4 && (List.range (min needs 4)).all (needInRange r) &&
      allDiffer ((List.range (min needs 4)).map fun k => natAt r (26 + 2 * k) / 16)) &&
    (mezz ≤ 3 && (List.range (min mezz 3)).all fun k => recordExtra r k ≤ 500) &&
    (!(r.getD 72 0).getLsbD 1 || natAt r 47 ≤ 24)

/-- A gathered record with its status (R74, R75). -/
def gatheredRecord (l : List Byte) : InvRecord :=
  let r := busLayout l
  ⟨r, if checksumGood l && fieldsInRange r then .valid else .suspect⟩

/-- The end of an inventory READ: the bytes it returned, or `none` for a failure. The second part is the outcome, when
the whole read ends with it (R73). -/
def Link.inventoryEnd (l : Link) (r : Option (List Byte)) : Link × Option (ReadPurpose × InvRecord) :=
  match l.inventory with
  | none => ({ l with inFlight := none }, none)
  | some x =>
    match r with
    | some bytes =>
      if 3 ≤ x.index then
        ({ l with inFlight := none, inventory := none }, some (x.purpose, gatheredRecord (x.bytes ++ bytes)))
      else
        ({ l with inFlight := none, inventory := some ⟨x.purpose, x.index + 1, 0, x.bytes ++ bytes⟩ }, none)
    | none =>
      if Config.sidebandTries ≤ x.failed + 1 then
        ({ l with inFlight := none, inventory := none }, some (x.purpose, ⟨[], .absent⟩))
      else ({ l with inFlight := none, inventory := some { x with failed := x.failed + 1 } }, none)

/-! ### What the end of the read does to the slot -/

def Bay.withRecord (b : Bay) (r : InvRecord) : Bay := { b with link := { b.link with record := some r } }

/-- Figures set at once; held figures are discarded (R87). -/
def Bay.fixFigures (b : Bay) (f : Figures) : Bay :=
  let c := b.withFigures f
  { c with link := { c.link with held := none } }

/-- New figures kept for a claim (R87). -/
def Bay.holdFigures (b : Bay) (f : Figures) : Bay := { b with link := { b.link with held := some f } }

/-- The new figures of a REIDENTIFY, applied by the slot's state (R87); `b` holds the new record, `before` is the charge
until then (DEDUCED, notes/assumptions/18). -/
def Bay.applyReidentify (b : Bay) (before : Nat) (r : InvRecord) : Bay :=
  let f := figuresFor b.cfg.worstCase r
  if b.powered then
    if r.status == .valid && before < (b.withFigures f).charge then b.holdFigures f else b.fixFigures f
  else
    match b.seq.state with
    | .waitPower | .shedOff => if f.allowance ≤ b.seq.allowance.getD 0 then b.fixFigures f else b.holdFigures f
    | .empty | .identify | .off | .ramp | .running | .stopping | .retryWait | .latched | .stuck => b.fixFigures f

/-- The end of identification (R43). -/
def Bay.endIdentify (b : Bay) (now : Nat) : Bay :=
  match identifyNext b with
  | .waitPower => b.enter now .waitPower none
  | _ => b.toOff now b.seq.ejectorOpen

/-- The end of adoption (R68): figures fixed, mark cleared, and in RUNNING a cap write queued where the active ceiling
differs from worst-case; after the mark has been cleared the figures are fixed and nothing else (R76). -/
def Bay.endAdoption (b : Bay) (f : Figures) : Bay :=
  let c := b.fixFigures f
  let d : Bay := { c with seq := { c.seq with adopted := false } }
  if b.seq.adopted && d.seq.state == .running && d.activeCeiling != d.cfg.worstCase then
    { d with link := d.link.queueCap d.activeCeiling }
  else d

/-- The outcome of an inventory read handled (R76). -/
def Bay.endRead (b : Bay) (now : Nat) (p : ReadPurpose) (r : InvRecord) : Bay :=
  let c := b.withRecord r
  let f := figuresFor b.cfg.worstCase r
  match p with
  | .seating | .release =>
    if b.seq.state == .identify then (c.endIdentify now).fixFigures f else c.fixFigures f
  | .adoption => c.endAdoption f
  | .reidentify => c.applyReidentify b.charge r

/-! ### Status reads -/

/-- The blade state a code names (chapter 12.4). -/
def bladeStateOf : Nat → Option BladeState
  | 0 => some .booting
  | 1 => some .up
  | 2 => some .softOffRequest
  | _ => none

/-- A decoded status region (R72). -/
structure StatusRead where
  margin : Int
  state : BladeState
  echo : Nat
  deriving DecidableEq, Repr

/-- The eight status bytes decoded; an unknown blade state counts as a failed read (R72). -/
def decodeStatus (l : List Byte) : Option StatusRead :=
  (bladeStateOf (natAt l 1)).map fun st => ⟨signedByte (l.getD 0 0), st, le16At l 2⟩

/-- Whether a cap item is in its confirmation phase. -/
def Link.confirming (l : Link) : Bool :=
  match l.cap with
  | some ⟨_, .confirming _ _ _, _⟩ => true
  | _ => false

/-- A failed status read (R78). -/
def Link.statusFailed (l : Link) : Link :=
  let n := min Config.sidebandTries (l.failures + 1)
  { l with failures := n, health := if n == Config.sidebandTries then .unresponsive else l.health }

/-- The echo of a completed status read compared (R81). -/
def Link.compareEcho (l : Link) (echo : Nat) : Link :=
  if l.lastCap == some echo then
    { l with cap := if l.confirming then none else l.cap, capUnacked := false }
  else l

/-- A completed status read (R78). -/
def Link.statusRead (l : Link) (r : StatusRead) : Link :=
  ({ l with
    failures := 0, health := .responsive, bladeState := some r.state
    margin := if r.state == .booting then l.margin else some r.margin } : Link).compareEcho r.echo

/-- The next confirmation read set 20 ms after the end of one (R80). -/
def CapItem.readEnded (now : Nat) (x : CapItem) : CapItem :=
  match x.phase with
  | .confirming _ _ limit => { x with phase := .confirming (some (now + Config.confirmGap)) false limit }
  | .writing => x

/-- The end of a status read of either origin (R78, R80, R81). -/
def Link.statusEnd (l : Link) (now : Nat) (r : Option StatusRead) : Link :=
  let confirm := l.kind == some .confirm
  let free := { l with inFlight := none, status := if confirm then l.status else .absent }
  let t := match r with
    | some x => free.statusRead x
    | none => free.statusFailed
  if confirm then { t with cap := t.cap.map (CapItem.readEnded now) } else t

/-! ### Cap and shutdown writes -/

/-- The end of a cap WRITE with a figure (R80) (DEDUCED, notes/assumptions/18). -/
def Link.capEnd (l : Link) (now figure : Nat) (live completed : Bool) : Link :=
  let free := { l with inFlight := none, lastCap := if completed then some figure else l.lastCap }
  match live, l.cap with
  | true, some x =>
    if completed then
      { free with cap := some { x with
          phase := .confirming (some (now + Config.confirmGap)) false (now + Config.confirmLimit) } }
    else if Config.sidebandTries ≤ x.failed + 1 then { free with cap := none, capUnacked := true }
    else { free with cap := some { x with failed := x.failed + 1 } }
  | true, none | false, _ => free

/-- Whether a confirmation read has become ready (R80). -/
def Link.confirmDue (l : Link) (now : Nat) : Bool :=
  match l.cap with
  | some ⟨_, .confirming readAt _ _, _⟩ => timerDue readAt now
  | _ => false

def CapItem.ready (x : CapItem) : CapItem :=
  match x.phase with
  | .confirming _ _ limit => { x with phase := .confirming none true limit }
  | .writing => x

/-- Whether the confirmation of the cap has run out (R80). -/
def Link.confirmOver (l : Link) (now : Nat) : Bool :=
  match l.cap with
  | some ⟨_, .confirming _ _ limit, _⟩ => limit ≤ now
  | _ => false

/-- The confirmation ended without an echo (R80). -/
def Link.unacked (l : Link) : Link := { l with cap := none, capUnacked := true }

/-- The end of the shutdown write's transaction, reported to the sequencer (R82). -/
def Bay.shutdownEnd (b : Bay) : Bay :=
  { b with
    link := { b.link with inFlight := none, shutdown := .absent }
    seq := { b.seq with shutdownEnded := b.seq.shutdownEnded || b.draining } }

/-- The heartbeat's expiry: a status read queued unless one is pending or in flight, the timer running on (R77)
(DESIGN CHOICE, notes/assumptions/28). A confirmation read in flight is not the status read of that test
(DEDUCED, notes/assumptions/37). -/
def Link.beat (l : Link) (due tst : Nat) : Link :=
  { l with heartbeat := some (due + tst), status := if l.status == .absent then .pending else l.status }

/-! ### Compliance -/

/-- Whether a window end is an overdraw: RUNNING, the hold ended, the average above the limit (R83). -/
def Bay.overdraws (b : Bay) : Bool :=
  b.seq.state == .running && b.link.hold == .ended &&
    complianceLimit b.activeCeiling < averageWatts b.meter.powerAvg

/-- An overdraw outside deficit (R84). -/
def Bay.acceptOverdraw (b : Bay) : Bay :=
  let figure := min b.cfg.worstCase (overdrawWatts b.meter.powerAvg)
  { b with seq := { b.seq with
      overdraw := some (max (b.seq.overdraw.getD 0) figure)
      allowance := some (max (b.seq.allowance.getD 0) figure) } }

end Sys2Proof.Machine
end

