-- ==== Sys2Proof/Machine/Ops.lean ====
section
/-! DEFINITION. The shared operations: one event's work and its reports to the neighbour blocks (R66), the recomputation
(R111), shedding, restoration, the settling of held figures and pending settings, the claim decision, and the shape every
command has. -/

namespace Sys2Proof.Machine

/-! ### Work and reports -/

/-- A report of one slot to a neighbour that waits for its turn (R66, R112, R113). The report to the cooling unit waits
for none: what it derives is read by no other (DEDUCED, notes/assumptions/4). -/
inductive Report where
  /-- The slot's new charge, to the budget unit. -/
  | charge (i : SlotIx) (watts : Nat)
  /-- The entry into RUNNING, or the end of an adoption, to the trunk unit. -/
  | entered (i : SlotIx)
  /-- The leaving of RUNNING, to the trunk unit. -/
  | left (i : SlotIx)
  /-- The change of state, to the budget unit's check of the slot's entry. -/
  | check (i : SlotIx)
  /-- The entry into WAIT_POWER: an ADMIT entry is handed. -/
  | admission (i : SlotIx)
  /-- The slot may have held figures or a pending setting to settle. -/
  | settle (i : SlotIx)
  deriving DecidableEq, Repr

/-- An event in the course of its handling: the station as it stands and the reports still to be delivered. -/
structure Work where
  st : State
  reports : List Report
  deriving DecidableEq, Repr

namespace Work

/-- The station changed with no report. -/
def map (f : State → State) (w : Work) : Work := { w with st := f w.st }

/-- Reports added behind those that wait. -/
def emit (rs : List Report) (w : Work) : Work := { w with reports := w.reports ++ rs }

end Work

/-! ### One slot changed -/

/-- A change of the active ceiling of a RUNNING slot queues a cap write and restarts the compliance hold (R64, R80,
R83). -/
def capFollows (now : Nat) (before after : Bay) : Bay :=
  if before.seq.state == .running && after.seq.state == .running && before.activeCeiling != after.activeCeiling then
    { after with link := { after.link.queueCap after.activeCeiling with hold := .running (now + Config.compliancePeriod) } }
  else after

/-- RUNNING with the adopted mark clear: the slot's port lane records run (R166). -/
def Bay.served (b : Bay) : Bool := b.seq.state == .running && !b.seq.adopted

/-- The report of a slot's charge, if it changed. -/
def chargeReport (i : SlotIx) (before after : Bay) : List Report :=
  if before.charge != after.charge then [.charge i after.charge] else []

/-- The report to the cooling unit, if the slot's being powered, its health or its margin changed: its zone is derived
afresh at once, on the slots as they then stand (R66, R78, R148). -/
def coolingReport (i : SlotIx) (before after : Bay) (s : State) : State :=
  if before.powered != after.powered ||
      (before.link.health != after.link.health || before.link.margin != after.link.margin) then slotReport i s else s

/-- The report to the trunk unit. -/
def trunkReport (i : SlotIx) (before after : Bay) : List Report :=
  if !before.served && after.served then [.entered i]
  else if before.seq.state == .running && after.seq.state != .running then [.left i]
  else []

/-- The report of a change of state to the budget unit's check (R112). -/
def checkReport (i : SlotIx) (before after : Bay) : List Report :=
  if before.seq.state != after.seq.state || before.seq.phase != after.seq.phase then [.check i] else []

/-- The ADMIT entry of a slot that entered WAIT_POWER (R45). -/
def admitReport (i : SlotIx) (before after : Bay) : List Report :=
  if before.seq.state != .waitPower && after.seq.state == .waitPower then [.admission i] else []

/-- The settling of what the slot holds for later (R88, R139). -/
def settleReport (i : SlotIx) (after : Bay) : List Report :=
  if after.link.held.isSome || after.seq.pendingOp.isSome then [.settle i] else []

/-- The order in which one change's reports are delivered: the steps of a fault or removal (R50, R58), of a stop (R53),
or of an entry into STUCK (R59). -/
inductive StepOrder where
  | fault | stop | stuck
  deriving DecidableEq, Repr

/-- The reports of one change of a slot, in the order of its steps (DEDUCED, notes/assumptions/4). -/
def reportsOf (o : StepOrder) (i : SlotIx) (before after : Bay) : List Report :=
  let c := chargeReport i before after
  let t := trunkReport i before after
  let k := checkReport i before after
  (match o with
    | .fault => c ++ t ++ k
    | .stop => t ++ c ++ k
    | .stuck => k ++ c ++ t) ++ admitReport i before after ++ settleReport i after

/-- The causes of a slot raised where a condition has come to hold (R179). -/
def raiseFor (i : SlotIx) (before after : Bay) (s : State) : State :=
  let x := slotConditions before
  let y := slotConditions after
  raiseSlot i (fun f =>
    ⟨f.latched || (y.latched && !x.latched), f.stuck || (y.stuck && !x.stuck),
      f.noncompliant || (y.noncompliant && !x.noncompliant)⟩) s

/-- Slot `i` changed by `f`, with everything that follows inside the slot, its zone derived afresh, its causes raised
and its other reports queued. -/
def modBay (o : StepOrder) (i : SlotIx) (f : Bay → Bay) (w : Work) : Work :=
  let before := w.st.bays[i]
  let after := capFollows w.st.now before (f before)
  (w.map fun s => raiseFor i before after (coolingReport i before after (setBay i (fun _ => after) s))).emit
    (reportsOf o i before after)

/-! ### An entry leaves the queue -/

/-- The slot's entry withdrawn, if the queue holds one, with the report that the slot has none (R113, R114). -/
def leaveQueue (i : SlotIx) (w : Work) : Work :=
  if (entryOf w.st i).isSome then (w.map (withdrawEntry i)).emit [.settle i] else w

/-- The restore entry withdrawn and made absent (R129, R142). -/
def withdrawRestore (w : Work) : Work :=
  match w.st.budget.restoreEntry with
  | some i => (leaveQueue i w).map fun s => { s with budget := { s.budget with restoreEntry := none } }
  | none => w

/-! ### Shedding -/

/-- The capping pass over a list of slots; the number is what remains of the share (R135). -/
def capPass : List SlotIx → Work × Nat → Work × Nat
  | [], x => x
  | i :: is, (w, remaining) =>
    let b := w.st.bays[i]
    if 0 < remaining && b.cappable then
      let c := b.capped remaining
      capPass is (modBay .fault i (fun _ => c) w, remaining - (b.charge - c.charge))
    else capPass is (w, remaining)

/-- The slot goes to SHED_OFF, and on to OFF if its ejector is open (R57, R61). -/
def powerOff (i : SlotIx) (cause : ShutdownCause) (w : Work) : Work :=
  if w.st.bays[i].powered then
    let t := modBay .fault i (fun b => b.toShedOff w.st.now cause) w
    if w.st.bays[i].seq.ejectorOpen then modBay .fault i (fun b => b.toOff w.st.now true) t else t
  else w

/-- The power-off pass (R136). -/
def powerOffPass : List SlotIx → Work × Nat → Work × Nat
  | [], x => x
  | i :: is, (w, remaining) =>
    let b := w.st.bays[i]
    if 0 < remaining && b.powered then powerOffPass is (powerOff i .shed w, remaining - b.charge)
    else powerOffPass is (w, remaining)

/-- Shedding for a share (R134). -/
def shed (share : Nat) (w : Work) : Work :=
  let order := shedOrder w.st
  (powerOffPass order (capPass order (w, share))).1

/-- The share of the excess held, the shed mark set to it, and shedding: step 4 of R129. -/
def shedExcess (w : Work) : Work :=
  let x := excessOf w.st.budget.hs
  shed (ownShare w.st x) (w.map (setMark x))

/-- Steps 3 and 4 of R129, which the end of the census takes alone (R131). -/
def answerDeficit (w : Work) : Work := shedExcess (withdrawRestore w)

/-- Entry into deficit (R129). -/
def enterDeficit (w : Work) : Work := answerDeficit (w.map fun s => withdrawClaim (setDeficit s))

/-- Re-shedding: only a rise above the shed mark is shed (R133). -/
def reshed (w : Work) : Work :=
  let x := excessOf w.st.budget.hs
  let m := w.st.budget.shedMark.getD x
  if x ≤ m then w.map (setMark x) else shed (ownShare w.st (x - m)) (w.map (setMark x))

/-- Step 4 of a recomputation (R129 to R131, R133). -/
def deficitStep (w : Work) : Work :=
  if w.st.budget.hs < 0 then
    if w.st.census.isSome then
      if w.st.budget.deficit then w else w.map setDeficit
    else if w.st.budget.deficit then reshed w
    else enterDeficit w
  else if w.st.budget.deficit then w.map clearDeficit
  else w

/-! ### Held figures and pending settings -/

/-- Held figures turned into a claim, or set at once (R88). -/
def settleHeld (i : SlotIx) (w : Work) : Work :=
  let b := w.st.bays[i]
  match b.link.held with
  | none => w
  | some f =>
    if b.seq.state == .running && (entryOf w.st i).isNone then
      let c := (b.withFigures f).charge
      if c ≤ b.charge then modBay .fault i (fun x => x.fixFigures f) w
      else w.map (handEntry i .heldFigures (c - b.charge))
    else w

/-- The slot with its pending setting in force (R139). -/
def Bay.settled (b : Bay) : Bay :=
  match b.seq.pendingOp with
  | some o => let c := b.withOperator o; { c with seq := { c.seq with pendingOp := none } }
  | none => b

/-- A pending operator setting settled (R139). An operator-raise entry that is still queued when its setting is settled
without it stays queued, and its admission then changes nothing (DESIGN CHOICE, notes/assumptions/38). -/
def settlePending (i : SlotIx) (w : Work) : Work :=
  let b := w.st.bays[i]
  match b.seq.pendingOp with
  | none => w
  | some o =>
    if b.seq.shedCeiling.isSome then w
    else if needsClaim b o then
      if (entryOf w.st i).isNone then w.map (handEntry i .operatorRaise ((b.withOperator o).charge - b.charge)) else w
    else modBay .fault i Bay.settled w

/-- What waits at a slot is settled: the held figures first, then the pending operator setting (R88, R113, R139). -/
def settleSlot (i : SlotIx) (w : Work) : Work := settlePending i (settleHeld i w)

/-! ### Restoration -/

/-- The visit of the shed slots in restore order (R140, R141). Where the shed ceiling goes with no entry, the slot's
pending setting is settled at that instant, before the visit goes on (R139, R141). -/
def restoreVisit : List SlotIx → Work → Work
  | [], w => w
  | i :: is, w =>
    let b := w.st.bays[i]
    if !b.isShed || (entryOf w.st i).isSome then restoreVisit is w
    else if b.seq.state == .shedOff then
      w.map fun s => handEntry i .restorePower (entryWatts s i)
        { s with budget := { s.budget with restoreEntry := some i } }
    else if b.charge < b.withoutShed.charge then
      w.map fun s => handEntry i .restoreCeiling (b.withoutShed.charge - b.charge)
        { s with budget := { s.budget with restoreEntry := some i } }
    else restoreVisit is (settleSlot i (modBay .fault i Bay.withoutShed w))

/-- Step 5 of a recomputation (R140). -/
def restorationStep (w : Work) : Work :=
  if mayRestore w.st then restoreVisit (restoreOrder w.st) w else w

/-- The recomputation (R111). -/
def recompute (w : Work) : Work :=
  (restorationStep (deficitStep (w.map fun s => markBar (refigure s)))).map sendingCheck

/-! ### Delivering the reports -/

/-- A slot's new charge reaches the budget unit: own committed moves and the figures are computed afresh (R66, R111). -/
def takeCharge (i : SlotIx) (watts : Nat) (w : Work) : Work :=
  recompute (w.map fun s => { s with budget := { s.budget with reported := s.budget.reported.set i watts } })

/-- A slot's entry into RUNNING reaches the trunk unit, which takes its lane needs and starts its records; in the census
the records wait for the end, with the needs taken here (R76, R166, R188) (DEDUCED, notes/assumptions/49). -/
def takeEntered (i : SlotIx) (s : State) : State :=
  if s.bays[i].served then
    let t := takeNeeds i s
    if s.census.isNone then startPorts i t else t
  else s

/-- The slot's entry withdrawn where its purpose does not suit the slot's state (R112). -/
def checkEntry (i : SlotIx) (w : Work) : Work :=
  match entryOf w.st i with
  | some e =>
    if validIn e.purpose w.st.bays[i].seq.state w.st.bays[i].seq.phase then w
    else leaveQueue i w
  | none => w

/-- One report delivered. -/
def deliver (r : Report) (w : Work) : Work :=
  match r with
  | .charge i watts => takeCharge i watts w
  | .entered i => w.map (takeEntered i)
  | .left i => w.map (endPorts i)
  | .check i => checkEntry i w
  | .admission i =>
    if w.st.bays[i].seq.state == .waitPower then
      w.map (handEntry i .admission (entryWatts w.st i))
    else w
  | .settle i => settleSlot i w

/-- Reports delivered one by one, first in, first out, with those they give rise to behind them. -/
def drain : Nat → Work → Work
  | 0, w => w
  | n + 1, w =>
    match w.reports with
    | [] => w
    | r :: rs => drain n (deliver r { w with reports := rs })

/-- More reports than one event can give rise to (DESIGN CHOICE, notes/assumptions/30). -/
def drainFuel : Nat := 400

/-- Every report that waits delivered. -/
def flush (w : Work) : Work := drain drainFuel w

/-! ### The claim decision -/

/-- The ceiling of a RUNNING slot restored: the shed and saved ceilings removed, and a cap write queued whether or not
the active ceiling changes (R120, R142). -/
def Bay.ceilingRestored (b : Bay) : Bay :=
  let c := b.withoutShed
  if c.seq.state == .running then { c with link := c.link.queueCap c.activeCeiling } else c

/-- The purpose of an admitted entry carried out (R120). -/
def carryOut (e : Entry) (w : Work) : Work :=
  let now := w.st.now
  match e.purpose with
  | .admission | .restorePower => modBay .fault e.slot (fun b => b.toRamp now) w
  | .restoreCeiling => modBay .fault e.slot Bay.ceilingRestored w
  | .heldFigures =>
    modBay .fault e.slot (fun b => match b.link.held with
      | some f => b.fixFigures f
      | none => b) w
  | .operatorRaise => modBay .fault e.slot Bay.settled w

/-- An admission (R119): folded number, the entry out with the report that its slot has none, ADMITTED, and the purpose
carried out, whose reports come after it. -/
def admitClaim (e : Entry) (number : Serial) (w : Work) : Work :=
  let t := w.map fun s =>
    let t := takeOut e s
    { t with budget := { t.budget with
      folded := number, own := ⟨.admitted, none, s.budget.own.slot, s.budget.own.kind, s.budget.own.watts, some number⟩ } }
  carryOut e (t.emit [.settle e.slot])

/-- The own claim to NONE with a CLAIM DROP offered; the sending check follows (R121, R123, R124). -/
def dropClaim (number : Serial) (r : DropReason) (s : State) : State :=
  sendingCheck (offer (.claimDrop number r) { s with budget := { s.budget with own := OwnClaim.idle } })

/-- A refusal: the bar set, then the drop (R121). -/
def refuseClaim (e : Entry) (number : Serial) (s : State) : State :=
  dropClaim number .refused { s with budget := { s.budget with bar := some ⟨e.arrival, s.budget.ha, s.now, false⟩ } }

/-- The claimed entry, if it is still in the queue. -/
def claimedEntry (s : State) : Option Entry :=
  match s.budget.own.claimed with
  | some k => s.budget.queue.find? fun e => e.arrival == k
  | none => none

/-- The decision at the own receipt of a CLAIM that passes its check (R119, R121, R124). -/
def decideClaim (number : Serial) (watts : Nat) (w : Work) : Work :=
  if w.st.budget.own.state == .onBus then
    match claimedEntry w.st with
    | some e =>
      if !w.st.budget.deficit && (watts : Int) ≤ w.st.budget.ha then admitClaim e number w
      else w.map (refuseClaim e number)
    | none => w.map (dropClaim number .withdrawn)
  else w

/-- The own receipt of a CLAIM that fails its check (R123). -/
def failClaim (number : Serial) (s : State) : State :=
  if s.budget.own.state == .onBus then dropClaim number .badReceipt s else s

/-! ### The shape of a command -/

/-- The flags settled by the line mode and the attention line set, once every report is delivered (R180). -/
def finish (w : Work) : State := settleFlags (flush w).st

/-- A command that is an event of the running station: where `guard` holds it does `f`, and otherwise the event does not
occur in this state and nothing changes (DESIGN CHOICE, notes/assumptions/3). -/
def event (s : State) (guard : Bool) (f : Work → Work) : Host.Outcome State Fault Refusal :=
  .next (if s.run == .running && guard then finish (f ⟨s, []⟩) else s)

/-- A command whose effect reports nothing to a neighbour. -/
def simpleEvent (s : State) (guard : Bool) (f : State → State) : Host.Outcome State Fault Refusal :=
  event s guard (Work.map f)

/-! ### Time -/

/-- One millisecond passes and nothing else happens, which is what an empty queue does
(DESIGN CHOICE, notes/assumptions/1). -/
def tick (s : State) : State := { s with now := s.now + 1 }

end Sys2Proof.Machine
end

