-- ==== Sys2Proof/Machine/Notify.lean ====
section
/-! DEFINITION. What a frame or an ageing does to an entry of the peer view and to the neighbours told of it (sections 2.2
to 2.7, R36). -/

namespace Sys2Proof.Machine

/-- An entry replaced; CONFIG_MISMATCH is raised where its mismatch flag goes from clear to set (R29). -/
def replacePeer (a : Addr) (before after : Peer) (s : State) : State :=
  let t := setPeer a (fun _ => after) s
  if after.mismatch && !before.mismatch then raiseStation (fun f => { f with configMismatch := true }) t else t

/-- The reclaim of a new epoch, at the owner side and at the requester side (R163, R171). -/
def reclaimEpoch (a : Addr) (s : State) : State := ownerRestarted a (ownerReclaim a false s)

/-- The cooling unit and the budget unit notified of an entry (R36). -/
def notifyUnits (w : Work) : Work := recompute (w.map deriveTargets)

/-- A good frame from a peer (R3, R25, R30, R36): counted; the entry heard, then changed by `f`; a reclaim where the frame
shows a new epoch; what `offers` offers; and one notification, where the entry was UNKNOWN, its epoch changed, or the
kind of the frame always notifies (DEDUCED, notes/assumptions/12). -/
def takeFrame (src : Addr) (f : Peer → Peer) (always : Bool) (offers : State → State) (w : Work) : Work :=
  let before := w.st.peers[src]
  let after := f (before.hear w.st.now)
  let newly := before.state == .unknown
  let restarted := before.epoch.isSome && before.epoch != after.epoch
  let t := w.map fun s =>
    let t := replacePeer src before after (countGood s)
    offers (if restarted then reclaimEpoch src t else t)
  if newly || restarted || always then notifyUnits t else t

/-- A frame that no block acts on: it is counted and its source is heard (R4, R17, R190). -/
def hearOnly (src : Addr) (w : Work) : Work := takeFrame src id false id w

/-- A frame received with a source address: one that bears the station's own address while it is not sending is foreign
(R3); while it is sending, such a frame is its own and is handled at the send (DEDUCED, notes/assumptions/9). -/
def received (s : State) (src : Addr) (f : Work → Work) : Host.Outcome State Fault Refusal :=
  event s true fun w =>
    if src = s.address then (if sending s then w else w.map foreignHeard) else f w

/-- A destined frame: counted and heard, and its body done where it is destined for this station (R4). -/
def destined (s : State) (r : Route) (body : Work → Work) : Host.Outcome State Fault Refusal :=
  received s r.src fun w =>
    let t := flush (hearOnly r.src w)
    if r.dst = s.address then body t else t

/-! ### The broadcast kinds -/

/-- A ROLL CALL taken (R28): the own ROLL CALL is offered where the peer is newly heard or shows a new epoch. -/
def takeRollCall (src : Addr) (m : RollCall) (w : Work) : Work :=
  let p := w.st.peers[src]
  let answers := p.state == .unknown || p.newEpoch m.epoch
  takeFrame src (fun q => q.takeRollCall m w.st.self.digest) false
    (fun s => if answers then offer .rollCall s else s) w

/-- A STANDING taken (R27): an ASK ROLL is offered where the role set is absent and none is queued. -/
def takeStanding (src : Addr) (m : Standing) (w : Work) : Work :=
  takeFrame src (fun q => q.takeStanding m w.st.now) true
    (fun s => if s.peers[src].roles.isNone && !askRollQueued s src then offer (.askRoll src) s else s) w

/-- A CLAIM taken (R32). -/
def takeClaim (src : Addr) (m : ClaimMsg) (w : Work) : Work :=
  takeFrame src (fun q => q.takeClaim m w.st.now) true id w

/-- A CLAIM DROP taken (R15, R33). -/
def takeClaimDrop (src : Addr) (m : ClaimDropMsg) (w : Work) : Work :=
  takeFrame src (fun q => q.takeClaimDrop m) true id w

/-- A SUPPLY ALARM taken (R16, R31). -/
def takeAlarm (src : Addr) (m : AlarmMsg) (w : Work) : Work :=
  takeFrame src (fun q => q.takeAlarm m) true id w

/-! ### Ageing and forgetting -/

/-- The instant an entry's age reaches `n` times Tst (R26). -/
def agePasses (s : State) (a : Addr) (n : Nat) : Bool :=
  match s.peers[a].ageFrom with
  | some t => t + n * s.tst ≤ s.now
  | none => false

/-- Into STALE (R26). -/
def enterStale (a : Addr) (w : Work) : Work :=
  notifyUnits (w.map (setPeer a fun p => p.setState .stale))

/-- Into SILENT, with the reclaim it asks for (R26, R163, R167, R171): the owner side's withdrawals are offered before
the requester side withdraws its bids (DESIGN CHOICE, notes/assumptions/41). -/
def enterSilent (a : Addr) (w : Work) : Work :=
  notifyUnits (w.map fun s =>
    ownerGone (ownerOf s) a (ownerReclaim a true (setPeer a (fun p => p.setState .silent) s)))

/-- A pending claim cleared by age (R33). -/
def dropAged (a : Addr) (w : Work) : Work := notifyUnits (w.map (setPeer a Peer.dropPending))

/-- FORGET STATION (R37): no reclaim is asked; the records bidding at the address are unplaced (R167). -/
def forgetPeer (a : Addr) (w : Work) : Work :=
  if w.st.peers[a].state == .unknown then w
  else notifyUnits (w.map fun s => ownerGone (ownerOf s) a (setPeer a (fun _ => Peer.fresh) s))

end Sys2Proof.Machine
end

