-- ==== Sys2Proof/Machine/Answers.lean ====
section
/-! DEFINITION. The ASK topics: the status and the data bytes of each ANSWER (sections 1.5 and 12.3). -/

namespace Sys2Proof.Machine

/-- A slot selector or target: a fitted slot, or none (R21, R177). -/
def slotAt (s : State) (n : Nat) : Option SlotIx :=
  if h : n < 4 then (if s.bays[n].fitted then some ⟨n, h⟩ else none) else none

/-- A supply channel selector: a fitted channel, or none (R21). -/
def channelAt (s : State) (n : Nat) : Option ChanIx :=
  if h : n < 2 then (if supplyFitted s ⟨n, h⟩ then some ⟨n, h⟩ else none) else none

/-- A byte of bits put together from flags and small numbers. -/
def flagBit (k : Nat) (f : Bool) : Nat := if f then 2 ^ k else 0

/-! ### INVENTORY -/

/-- Whether the record is not yet there to serve (R21). -/
def Bay.recordNotYet (b : Bay) : Bool :=
  b.seq.state == .identify || b.seq.adopted || (b.link.record.isNone && b.link.inventory.isSome)

/-- The 25 bytes of a chunk (R21, R86). -/
def inventoryData (b : Bay) (chunk : Nat) : List Byte :=
  match b.link.record with
  | some r =>
    if r.status == .absent then List.replicate 24 0 ++ [byteOf RecordStatus.absent.code]
    else (r.bytes.drop (24 * chunk)).take 24 ++ [byteOf r.status.code]
  | none => List.replicate 24 0 ++ [byteOf RecordStatus.absent.code]

def answerInventory (s : State) (slot chunk : Nat) : AnswerStatus × List Byte :=
  match slotAt s slot with
  | none => (.noSuch, [])
  | some i =>
    let b := s.bays[i]
    if 3 < chunk || b.seq.state == .empty then (.noSuch, [])
    else if b.recordNotYet then (.notYet, [])
    else (.ok, inventoryData b chunk)

/-! ### SLOT -/

/-- The code of a need's lanes, or of none (chapter 12.3). -/
def lanesCode (n : Option Need) : Nat :=
  match n with
  | none => 0
  | some x => if x.lanes == 1 then 1 else if x.lanes == 2 then 2 else 3

/-- The code of a need's module: 0 to 3, 4 for ANY. -/
def moduleCode (n : Option Need) : Nat :=
  match n with
  | none => 0
  | some x =>
    match x.module with
    | some m => m.val
    | none => 4

/-- The code of a group (chapter 12.3); a group that is not aligned has the code of the group its first lane lies in
(DESIGN CHOICE, notes/assumptions/48). -/
def groupCode (g : Option Group) : Nat :=
  match g with
  | none => 0
  | some x => if x.lanes == 1 then 1 + x.first else if x.lanes == 2 then 9 + x.first / 2 else 13 + x.first / 4

/-- The three bytes of a port lane record (chapter 12.3). The bits of an absent need's module, chosen module or bid tag
are 0 (DESIGN CHOICE, notes/assumptions/51). -/
def portBytes (r : PortRec) : List Byte :=
  [byteOf (32 * r.state.code + 8 * lanesCode r.need + moduleCode r.need),
    byteOf (64 * (r.chosen.map (·.val)).getD 0 + flagBit 5 r.chosen.isSome + flagBit 4 r.tag.isSome + groupCode r.group),
    r.tag.getD 0]

/-- The code of a blade state that may be absent (chapter 12.3). -/
def bladeCode (b : Option BladeState) : Nat :=
  match b with
  | none => 0
  | some x => x.code + 1

/-- The 31 bytes of the SLOT data (chapter 12.3). The byte of an absent margin is 0
(DESIGN CHOICE, notes/assumptions/51). -/
def slotData (b : Bay) : List Byte :=
  let q := b.seq
  let l := b.link
  [byteOf (16 * q.state.code + q.cause.code)] ++
    be16 (q.allowance.getD 0) ++ be16 (q.floor.getD 0) ++ be16 (q.opCeiling.getD 0) ++ be16 (q.shedCeiling.getD 0) ++
    be16 (q.savedCeiling.getD 0) ++ be16 b.activeCeiling ++ be16 b.charge ++
    [byteOf (flagBit 7 (l.health == .unresponsive) + flagBit 6 l.capUnacked + flagBit 5 l.margin.isSome +
        bladeCode l.bladeState),
      BitVec.ofInt 8 (l.margin.getD 0)] ++
    be16 (l.lastCap.getD 0) ++
    portBytes b.ports[0] ++ portBytes b.ports[1] ++ portBytes b.ports[2] ++ portBytes b.ports[3]

def answerSlot (s : State) (slot : Nat) : AnswerStatus × List Byte :=
  match slotAt s slot with
  | none => (.noSuch, [])
  | some i => (.ok, slotData s.bays[i])

/-! ### METER, SUPPLY, STATION, COUNTERS -/

/-- The 19 bytes of the METER data: the snapshot of R97. -/
def meterData (m : Meter) : List Byte :=
  be32 m.energy ++ be16 m.rollovers ++ be32 m.samples ++ be16 m.voltAvg ++ be16 m.ampAvg ++ be16 m.powerAvg ++
    be16 m.peak ++ [byteOf (flagBit 0 m.overRange)]

def answerMeter (s : State) (slot : Nat) : AnswerStatus × List Byte :=
  match slotAt s slot with
  | none => (.noSuch, [])
  | some i => (.ok, meterData s.bays[i].meter)

/-- The five bytes of a supplies entry (chapter 12.2). -/
def supplyBytes (r : SupplyRecord) : List Byte :=
  [byteOf (128 * r.feed.code + r.state.code)] ++ be16 r.rated ++ be16 (min r.output 65535)

def answerSupply (s : State) (channel : Nat) : AnswerStatus × List Byte :=
  match channelAt s channel with
  | none => (.noSuch, [])
  | some c => (.ok, supplyBytes (ownRecord s c))

/-- The 15 bytes of the STATION data (chapter 12.3). -/
def stationData (s : State) : List Byte :=
  be16 s.budget.committed ++ be32Signed s.budget.ha ++ be32Signed s.budget.hs ++
    [byteOf (flagBit 7 s.budget.deficit + s.budget.factor)] ++ be16 (flagWord s.attention).toNat ++
    be16 (slotFlagWord s.attention)

def answerStation (s : State) : AnswerStatus × List Byte := (.ok, stationData s)

/-- The eight bytes of the COUNTERS data (chapter 12.3). -/
def countersData (b : BusPort) : List Byte :=
  be16 b.good ++ be16 b.crcDrops ++ be16 b.overflows ++ be16 b.ordersRefused

def answerCounters (s : State) : AnswerStatus × List Byte := (.ok, countersData s.bus)

/-! ### Answering -/

/-- An ANSWER offered at once, every field fixed (R18). -/
def offerAnswer (dst : Addr) (topic : Topic) (x : AnswerStatus × List Byte) (s : State) : State :=
  offer (.answer dst ⟨topic.code, x.1, x.2⟩ false) s

/-- An ASK of an unknown topic: NO_SUCH, no data, topic code 15 (R18). -/
def answerUnknown (dst : Addr) (s : State) : State := offerAnswer dst .unknown (.noSuch, []) s

/-- What an ASK does in the station it is delivered to: the ANSWER of its topic, or that of an unknown topic (R18, R19)
(DESIGN CHOICE, notes/assumptions/11). -/
def askBody (dst : Addr) (a : AskOperands) (answer : State → State) (s : State) : State :=
  if a.unknownTopic then answerUnknown dst s else answer s

/-- An ASK received (R4, R18). -/
def ask (s : State) (r : Route) (a : AskOperands) (answer : State → State) : Host.Outcome State Fault Refusal :=
  destined s r fun w => w.map (askBody r.src a answer)

/-- The answer of topic TOPIC code `n` to a queued ASK taken on self-receipt (R4, R18). -/
def answerTopic (dst : Addr) (topic selector chunk : Nat) (s : State) : State :=
  match topic with
  | 0 => offerAnswer dst .inventory (answerInventory s selector chunk) s
  | 1 => offerAnswer dst .slot (answerSlot s selector) s
  | 2 => offerAnswer dst .meter (answerMeter s selector) s
  | 3 => offerAnswer dst .supply (answerSupply s selector) s
  | 4 => offerAnswer dst .station (answerStation s) s
  | 5 => offerAnswer dst .counters (answerCounters s) s
  | 6 => offer .rollCall s
  | _ => answerUnknown dst s

end Sys2Proof.Machine
end

