-- ==== Sys2Proof/Machine/AskCommands.lean ====
section
/-! DEFINITION. The meanings of the seven ASK topics (section 1.5). -/

namespace Sys2Proof.Machine

/-- ASK_INVENTORY (R21, R86). -/
def execAskInventory (r : Route) (a : AskOperands) (s : State) : Host.Outcome State Fault Refusal :=
  ask s r a fun s => offerAnswer r.src .inventory (answerInventory s a.selector a.chunk) s

/-- ASK_SLOT (R21). -/
def execAskSlot (r : Route) (a : AskOperands) (s : State) : Host.Outcome State Fault Refusal :=
  ask s r a fun s => offerAnswer r.src .slot (answerSlot s a.selector) s

/-- ASK_METER (R21, R97). -/
def execAskMeter (r : Route) (a : AskOperands) (s : State) : Host.Outcome State Fault Refusal :=
  ask s r a fun s => offerAnswer r.src .meter (answerMeter s a.selector) s

/-- ASK_SUPPLY (R21, R104). -/
def execAskSupply (r : Route) (a : AskOperands) (s : State) : Host.Outcome State Fault Refusal :=
  ask s r a fun s => offerAnswer r.src .supply (answerSupply s a.selector) s

/-- ASK_STATION (R126). -/
def execAskStation (r : Route) (a : AskOperands) (s : State) : Host.Outcome State Fault Refusal :=
  ask s r a fun s => offerAnswer r.src .station (answerStation s) s

/-- ASK_COUNTERS (R21, R22). -/
def execAskCounters (r : Route) (a : AskOperands) (s : State) : Host.Outcome State Fault Refusal :=
  ask s r a fun s => offerAnswer r.src .counters (answerCounters s) s

/-- ASK_ROLL (R18). -/
def execAskRoll (r : Route) (a : AskOperands) (s : State) : Host.Outcome State Fault Refusal :=
  ask s r a fun s => offer .rollCall s

end Sys2Proof.Machine
end

