-- ==== Sys2Proof/Machine/StartRecord.lean ====
section
/-! DEFINITION. The start-up record: its layout (section 12.5), its judgement (R183), the role set and the constants
digest. -/

namespace Sys2Proof.Machine

/-- Code of a redundancy mode. -/
def RedundancyMode.code : RedundancyMode → Nat
  | .none => 0
  | .oneSpare => 1
  | .feedPair => 2

/-- The mode of a code; a code above 2 fails the record before this is used. -/
def modeOf : Nat → RedundancyMode
  | 0 => .none
  | 1 => .oneSpare
  | _ => .feedPair

/-- A number of a field as an index below `n`. -/
def indexOf (n : Nat) (k : Nat) : Fin (n + 1) := if h : k < n + 1 then ⟨k, h⟩ else 0

/-- The 15 bytes of slot `i` from offset `9 + 15 i` (section 12.5). -/
def slotFields (r : List Byte) (i : SlotIx) : SlotSettings :=
  let o := 9 + 15 * i.val
  let policies := r.getD (o + 3) 0
  { worstCase := be16At r o
    priority := natAt r (o + 2)
    startPolicy := if policies.getLsbD 1 then .hold else .auto
    faultPolicy := if policies.getLsbD 0 then .retry else .latch
    istart := be16At r (o + 4)
    stuckThreshold := be16At r (o + 6)
    rampTime := be16At r (o + 8)
    faultTime := natAt r (o + 10)
    retryDelay := be16At r (o + 11)
    gracefulSeconds := natAt r (o + 13)
    zone := indexOf 3 (natAt r (o + 14)) }

/-- The ranges of R40 and of the slot zone (R144). -/
def slotFieldsGood (r : List Byte) (i : SlotIx) : Bool :=
  let c := slotFields r i
  (1 ≤ c.worstCase && c.worstCase ≤ 16000) && c.priority ≤ 7 && (1 ≤ c.istart && c.istart ≤ 4095) &&
    (1 ≤ c.stuckThreshold && c.stuckThreshold ≤ 4095) && (50 ≤ c.rampTime && c.rampTime ≤ 1000) &&
    (1 ≤ c.faultTime && c.faultTime ≤ 100) && (100 ≤ c.retryDelay && c.retryDelay ≤ 5000) &&
    (1 ≤ c.gracefulSeconds && c.gracefulSeconds ≤ 60) && natAt r (9 + 15 * i.val + 14) ≤ 3

/-- The four bytes of supply channel `c`. -/
def supplyFields (r : List Byte) (c : ChanIx) : SupplySettings :=
  let o := 71 + 4 * c.val
  ⟨if natAt r o = 0 then .a else .b, be16At r (o + 1), natAt r (o + 3)⟩

/-- The ranges of R98. -/
def supplyFieldsGood (r : List Byte) (c : ChanIx) : Bool :=
  let x := supplyFields r c
  natAt r (71 + 4 * c.val) ≤ 1 && (1 ≤ x.rated && x.rated ≤ 16000) && (1 ≤ x.senseScale && x.senseScale ≤ 16)

/-- The three bytes of fan channel `c`. -/
def fanFields (r : List Byte) (c : ChanIx) : FanSettings :=
  let o := 85 + 3 * c.val
  ⟨indexOf 3 (natAt r o), be16At r (o + 1)⟩

/-- The ranges of R144 for a fan channel. -/
def fanFieldsGood (r : List Byte) (c : ChanIx) : Bool :=
  let x := fanFields r c
  natAt r (85 + 3 * c.val) ≤ 3 && (600 ≤ x.fullRpm && x.fullRpm ≤ 30000)

/-- The trunk module byte: present in bit 7, module in bits 5 to 4, lane count in bits 3 to 0. -/
def trunkField (r : List Byte) : Option TrunkRole :=
  if (r.getD 8 0).getLsbD 7 then some ⟨indexOf 3 (natAt r 8 / 16 % 4), natAt r 8 % 16⟩ else none

/-- The chassis constants (R183). -/
def constantFields (r : List Byte) : Constants := ⟨be16At r 0, modeOf (natAt r 2), be16At r 3, be16At r 5⟩

def constantsGood (r : List Byte) : Bool :=
  let c := constantFields r
  (10 ≤ c.tst && c.tst ≤ 2000) && natAt r 2 ≤ 2 && c.guardBand ≤ 4000 && c.restoreMargin ≤ 8000

/-- The settings a record of 96 bytes gives. The blocks at or above their fitted counts carry no fields, and their
settings stand at the built-in defaults (DEDUCED, notes/assumptions/29). -/
def settingsOf (r : List Byte) : Settings where
  constants := constantFields r
  slotCount := natAt r 7
  trunk := trunkField r
  slots := Vector.ofFn fun i => if i.val < natAt r 7 then slotFields r i else SlotSettings.default i
  windowExp := natAt r 69
  supplyCount := natAt r 70
  supplies := Vector.ofFn fun c => if c.val < natAt r 70 then supplyFields r c else SupplySettings.default c
  floorDuty := natAt r 79
  failSafe := natAt r 80
  rampStep := natAt r 81
  inletZone := if natAt r 82 = 255 then none else some (indexOf 3 (natAt r 82))
  inletLimit := natAt r 83
  fanCount := natAt r 84
  fans := Vector.ofFn fun c => if c.val < natAt r 84 then fanFields r c else FanSettings.default c
  enables := BitVec.ofNat 16 (be16At r 91)
  lineMode := if natAt r 93 = 0 then .latched else .live

/-- Every field of a record lies in its range (R183). -/
def recordInRange (r : List Byte) : Bool :=
  constantsGood r && natAt r 7 ≤ 4 && (trunkField r).all TrunkRole.inRange &&
    (List.finRange 4).all (fun i => natAt r 7 ≤ i.val || slotFieldsGood r i) &&
    natAt r 69 ≤ 7 && natAt r 70 ≤ 2 &&
    (List.finRange 2).all (fun c => natAt r 70 ≤ c.val || supplyFieldsGood r c) &&
    (20 ≤ natAt r 79 && natAt r 79 ≤ 60) && (50 ≤ natAt r 80 && natAt r 80 ≤ 100) &&
    (1 ≤ natAt r 81 && natAt r 81 ≤ 50) && (natAt r 82 ≤ 3 || natAt r 82 == 255) && natAt r 83 ≤ 80 &&
    natAt r 84 ≤ 2 && (List.finRange 2).all (fun c => natAt r 84 ≤ c.val || fanFieldsGood r c) &&
    natAt r 93 ≤ 1

/-- One read judged good: it delivered the whole record, its checksum matches and every field is in range (R183). -/
def readGood (r : List Byte) : Bool := byteSum (r.take 94) == be16At r 94 && recordInRange r

/-- The settings taken from up to three reads: the first good read's (R183). -/
def settingsFrom (reads : Vector (Option (Vector Byte 96)) 3) : Option Settings :=
  reads.toList.findSome? fun x => match x with
    | some v => if readGood v.toList then some (settingsOf v.toList) else none
    | none => none

/-- The seven bytes of the chassis constants part. -/
def constantBytes (c : Constants) : List Byte :=
  be16 c.tst ++ [byteOf c.mode.code] ++ be16 c.guardBand ++ be16 c.restoreMargin

/-- The constants digest (R183). -/
def digestOf (c : Constants) : Nat := byteSum (constantBytes c)

/-- The role set of the start-up record, the operator flag clear (R12, R24). -/
def rolesOf (st : Settings) : RoleSet where
  slotCount := st.slotCount
  fans := ((List.finRange 2).filter fun c => c.val < st.fanCount).map fun c => ⟨c, st.fans[c].zone⟩
  supplies := ((List.finRange 2).filter fun c => c.val < st.supplyCount).map fun c => ⟨c, st.supplies[c].feed⟩
  trunk := st.trunk
  operator := false

end Sys2Proof.Machine
end

