-- ==== Sys2Proof/Machine/Orders.lean ====
section
/-! DEFINITION. The order and attention unit: taking an ORDER, its condition, the twelve actions and their outcomes
(sections 10.1 to 10.4, 3.11, 7.5, R87, R95). -/

namespace Sys2Proof.Machine

/-- An outcome of an action, in the order of the codes (R176). -/
inductive Result where
  | done | started | skipped | clamped | rejected
  deriving DecidableEq, Repr

def Result.code : Result → Nat
  | .done => 0
  | .started => 1
  | .skipped => 2
  | .clamped => 3
  | .rejected => 4

/-! ### Slot actions, each on a fitted slot -/

/-- SLOT ON (R62). -/
def orderOn (i : SlotIx) (w : Work) : Work × Result :=
  let b := w.st.bays[i]
  let now := w.st.now
  match b.seq.state with
  | .off =>
    if b.seq.allowance.isSome then (modBay .fault i (fun b => b.enter now .waitPower none) w, .started)
    else (w, .rejected)
  | .shedOff =>
    if b.seq.restoreBarred then (modBay .fault i (fun b => b.enter now .waitPower none) w, .started) else (w, .rejected)
  | .waitPower | .ramp | .running | .retryWait => (w, .done)
  | .empty | .identify | .stopping | .latched | .stuck => (w, .rejected)

/-- SLOT OFF (R52, R53, R56, R62). -/
def orderOff (i : SlotIx) (w : Work) : Work × Result :=
  let b := w.st.bays[i]
  let now := w.st.now
  match b.seq.state with
  | .off => (modBay .fault i (fun b => { b with seq := { b.seq with cycle := false, cycleTimer := none } }) w, .done)
  | .waitPower | .retryWait | .shedOff => (modBay .fault i (fun b => b.toOff now false) w, .done)
  | .ramp => (modBay .fault i (fun b => ((b.cut now).toOff now false).setCause .operator) w, .done)
  | .running => (modBay .stop i (fun b => b.toDraining now .operator .off false) w, .started)
  | .stopping | .latched => (w, .done)
  | .empty | .identify | .stuck => (w, .rejected)

/-- SLOT CYCLE (R56, R62). -/
def orderCycle (i : SlotIx) (w : Work) : Work × Result :=
  match w.st.bays[i].seq.state with
  | .running => (modBay .stop i (fun b => b.toDraining w.st.now .operator .off true) w, .started)
  | .empty | .identify | .off | .waitPower | .ramp | .stopping | .retryWait | .latched | .shedOff | .stuck =>
    (w, .rejected)

/-- A new setting takes the place of an earlier one: an operator-raise entry withdrawn, a pending setting discarded
(R137). -/
def discardSetting (i : SlotIx) (w : Work) : Work :=
  let t := w.map (setBay i fun b => { b with seq := { b.seq with pendingOp := none } })
  if (entryOf t.st i).any (·.purpose == .operatorRaise) then flush (leaveQueue i t) else t

/-- The operator ceiling set or removed at once. -/
def applySetting (i : SlotIx) (o : OperatorSetting) (w : Work) : Work :=
  modBay .fault i (fun b => b.withOperator o) w

/-- The setting kept pending; it is settled at once where it can be (R139). -/
def keepSetting (i : SlotIx) (o : OperatorSetting) (w : Work) : Work :=
  settlePending i (w.map (setBay i fun b => { b with seq := { b.seq with pendingOp := some o } }))

/-- A raise, by the last three cases of R137. -/
def raiseSetting (i : SlotIx) (o : OperatorSetting) (clamped : Bool) (w : Work) : Work × Result :=
  let b := w.st.bays[i]
  if b.seq.shedCeiling.isSome || needsClaim b o then (keepSetting i o w, .started)
  else (applySetting i o w, if clamped then .clamped else .done)

/-- SET CEILING (R137) (DEDUCED, notes/assumptions/17). -/
def orderSetCeiling (i : SlotIx) (value : Nat) (w : Work) : Work × Result :=
  if w.st.bays[i].seq.allowance.isNone then (w, .rejected)
  else
    let t := discardSetting i w
    let b := t.st.bays[i]
    let floor := b.seq.floor.getD 0
    let figure := max value floor
    if b.seq.opCeiling.any (· < figure) then raiseSetting i (.figure figure) (value < floor) t
    else (applySetting i (.figure figure) t, if value < floor then .clamped else .done)

/-- CLEAR CEILING (R138). With an operator ceiling held it is always a raise, also where that ceiling is at or above the
allowance and a shed ceiling is present (DESIGN CHOICE, notes/assumptions/50). -/
def orderClearCeiling (i : SlotIx) (w : Work) : Work × Result :=
  let b := w.st.bays[i]
  if b.seq.allowance.isNone then (w, .rejected)
  else if b.seq.opCeiling.isSome then raiseSetting i .removal false (discardSetting i w)
  else if b.seq.pendingOp.isSome then (discardSetting i w, .done)
  else (w, .done)

/-- A STUCK slot released by CLEAR LATCH (R63). Its retry count stays as it is (DESIGN CHOICE, notes/assumptions/43). -/
def Bay.release (b : Bay) (now : Nat) : Bay :=
  if b.seq.presence then
    if b.link.record.isSome then b.toOff now false
    else
      let c := b.enter now .identify none
      { c with seq := { c.seq with standby := true }, link := c.link.queueInventory .release }
  else
    let c := b.enter now .empty none
    { c with seq := { c.seq with standby := false }, meter := c.meter.clear }

/-- CLEAR LATCH (R63). -/
def orderClearLatch (i : SlotIx) (w : Work) : Work × Result :=
  let b := w.st.bays[i]
  let now := w.st.now
  match b.seq.state with
  | .latched =>
    (modBay .fault i (fun b => let c := b.toOff now false; { c with seq := { c.seq with retryCount := 0 } }) w, .done)
  | .stuck =>
    if b.meter.amp < b.cfg.stuckThreshold then (modBay .fault i (fun b => b.release now) w, .done) else (w, .rejected)
  | .empty | .identify | .off | .waitPower | .ramp | .running | .stopping | .retryWait | .shedOff => (w, .done)

/-- Whether REIDENTIFY is taken (R87). -/
def Bay.mayReidentify (b : Bay) : Bool :=
  b.link.inventory.isNone &&
    match b.seq.state with
    | .off | .retryWait | .latched => true
    | .running => !b.seq.adopted
    | .stuck => b.seq.presence
    | .empty | .identify | .waitPower | .ramp | .stopping | .shedOff => false

/-- REIDENTIFY (R87). -/
def orderReidentify (i : SlotIx) (w : Work) : Work × Result :=
  if w.st.bays[i].mayReidentify then
    (w.map (setBay i fun b => { b with link := b.link.queueInventory .reidentify }), .started)
  else (w, .rejected)

/-- CLEAR PEAKS (R95). -/
def orderClearPeaks (i : SlotIx) (w : Work) : Work × Result :=
  (w.map (setBay i fun b => { b with meter := { b.meter with peak := 0 } }), .done)

/-- SET PRIORITY (R177). -/
def orderPriority (i : SlotIx) (value : Nat) (w : Work) : Work × Result :=
  (w.map (changePriority i (min value 7)), if 7 < value then .clamped else .done)

/-! ### Station actions -/

/-- FORGET STATION (R37). -/
def orderForget (target : Nat) (w : Work) : Work × Result :=
  if h : target < 16 then
    if (⟨target, h⟩ : Addr) = w.st.address then (w, .rejected) else (forgetPeer ⟨target, h⟩ w, .done)
  else (w, .rejected)

/-- CLEAR ATTENTION (R181). -/
def orderClearAttention (w : Work) : Work × Result := (w.map clearFlags, .done)

/-- RESTART (R178). -/
def orderRestart (w : Work) : Work × Result :=
  (w.map fun s => { s with attention := { s.attention with restartOwed := true } }, .started)

/-! ### One action, and a list of them -/

/-- An action on a slot target: REJECTED where it names no fitted slot (R177). -/
def onSlot (target : Nat) (f : SlotIx → Work → Work × Result) (w : Work) : Work × Result :=
  match slotAt w.st target with
  | some i => f i w
  | none => (w, .rejected)

/-- One action carried out (R177). -/
def carryAction (a : Action) (target value : Nat) (w : Work) : Work × Result :=
  match a with
  | .slotOn => onSlot target orderOn w
  | .slotOff => onSlot target orderOff w
  | .slotCycle => onSlot target orderCycle w
  | .setCeiling => onSlot target (fun i => orderSetCeiling i value) w
  | .clearCeiling => onSlot target orderClearCeiling w
  | .clearLatch => onSlot target orderClearLatch w
  | .reidentify => onSlot target orderReidentify w
  | .clearPeaks => onSlot target orderClearPeaks w
  | .setPriority => onSlot target (fun i => orderPriority i value) w
  | .forgetStation => orderForget target w
  | .clearAttention => orderClearAttention w
  | .restart => orderRestart w

/-- The flag a condition source samples; `none` for source NONE (R175). -/
def sampleOf (s : State) (c : CondSource) : Option Bool :=
  match c with
  | .none => none
  | .deficit => some s.budget.deficit
  | .coolingDegraded => some s.budget.coolingDegraded
  | .redundancyLost => some s.budget.redundancyLost

/-- Whether the condition lets the action at a position be carried out (R175). -/
def carried (sample : Option Bool) (pattern : BitVec 4) (k : Nat) : Bool :=
  match sample with
  | none => true
  | some b => pattern.getLsbD k == b

/-- One action of a list (R175, R176, R178): after a RESTART carried out, REJECTED; left out by the condition, SKIPPED; of
no known code, REJECTED; and otherwise carried out with every report it causes (DEDUCED, notes/assumptions/24). -/
def listAction (sample : Option Bool) (pattern : BitVec 4) (k : Nat) (restarted : Bool) (x : OrderAction) (w : Work) :
    Work × Result :=
  if restarted then (w, .rejected)
  else if !carried sample pattern k then (w, .skipped)
  else match actionOf x.code with
    | none => (w, .rejected)
    | some a =>
      let r := carryAction a x.target x.value w
      (flush r.1, r.2)

/-- Whether an action was a RESTART carried out. -/
def restarts (x : OrderAction) (r : Result) : Bool := x.code == Action.restart.code && r == .started

/-- The actions of a list in order, with their outcomes and whether one was a RESTART carried out (R176). -/
def listActions (sample : Option Bool) (pattern : BitVec 4) :
    List OrderAction → Nat → Bool → Work → Work × List Result × Bool
  | [], _, restarted, w => (w, [], restarted)
  | x :: xs, k, restarted, w =>
    let r := listAction sample pattern k restarted x w
    let t := listActions sample pattern xs (k + 1) (restarted || restarts x r.2) r.1
    (t.1, r.2 :: t.2.1, t.2.2)

/-- Whether an ORDER delivered to the station is taken (R174). -/
def orderTaken (s : State) (src : Addr) (m : OrderMsg) : Bool :=
  s.peers[src].operatorRole && 1 ≤ m.actions.length && m.actions.length ≤ 4

/-- An ORDER refused (R174). -/
def refuseOrder (src : Addr) (s : State) : State :=
  offerAnswer src .order (.refused, []) (countOrderRefused s)

/-- The ANSWER of an ORDER's outcomes. -/
def orderAnswer (src : Addr) (rs : List Result) (restart : Bool) : Outgoing :=
  .answer src ⟨Topic.order.code, .ok, rs.map fun r => byteOf r.code⟩ restart

/-- An ORDER delivered (R174 to R178). The second part says that a warm restart begins at once, because the ANSWER of the
ORDER that owes it was refused by a full FIFO (DEDUCED, notes/assumptions/24). -/
def takeOrder (src : Addr) (m : OrderMsg) (w : Work) : Work × Bool :=
  if orderTaken w.st src m then
    let owed := w.st.attention.restartOwed
    let r := listActions (sampleOf w.st m.cond) m.pattern m.actions 0 false w
    let a := orderAnswer src (r.2.1) (r.2.2 && !owed)
    (r.1.map (offer a), r.2.2 && !owed && !takes r.1.st.bus a)
  else (w.map (refuseOrder src), false)

end Sys2Proof.Machine
end

