-- ==== Sys2Proof/Machine/Transmit.lean ====
section
/-! DEFINITION. The station's own messages on the bus: the content fixed at a win (R8), the update instant of the fans
(R151), the stop (R2), and the send with the station's own receipt (R1, R3, R4). -/

namespace Sys2Proof.Machine

/-! ### Content fixed at the win -/

/-- The ROLL CALL the station sends (R12). -/
def ownRollCall (s : State) : RollCall := ⟨s.self.epoch, s.self.roles, s.self.digest⟩

/-- The zone demands list of STANDING: the zones with a reported demand, in ascending order (R149). -/
def ownZones (s : State) : List ZoneDemand :=
  (List.finRange 4).filterMap fun z => s.cooling.reported[z].map fun d => ⟨z.val, d⟩

/-- The trunk summary of STANDING (R164). -/
def ownSummary (s : State) : Option TrunkSummary :=
  s.owner.map fun o => ⟨o.module, o.lanes.length, freeLaneCount o.lanes⟩

/-- The STANDING fixed at the win (R8, R13, R125). -/
def ownStanding (s : State) : Standing where
  epoch := s.self.epoch
  sequence := s.bus.sequence
  committed := s.budget.committed
  ceiling := ownCeiling s
  folded := s.budget.folded
  deficit := s.budget.deficit
  redundancyLost := s.budget.redundancyLost
  coolingDegraded := s.budget.coolingDegraded
  zones := ownZones s
  fans := ownFans s
  supplies := (ownRecords s).map fun r => { r with output := min r.output 65535 }
  trunk := ownSummary s

/-- What goes on the bus when a message wins (R8). -/
def fixContent (s : State) (m : Outgoing) : OnBus :=
  match m with
  | .rollCall => .rollCall (ownRollCall s)
  | .standing => .standing (ownStanding s)
  | .claim watts slot kind => .claim ⟨s.budget.nextNumber, watts, slot.val, kind.code⟩
  | .claimDrop .. | .supplyAlarm .. | .laneBid .. | .laneOffer .. | .laneDefer .. | .laneRefuse .. | .laneReturn ..
  | .laneWithdraw .. | .askRoll .. | .answer .. => .fixed m

/-- The own claim at the win of its CLAIM (R115, R117). -/
def claimWins (m : Outgoing) (s : State) : State :=
  match m with
  | .claim .. => { s with budget := { s.budget with own := { s.budget.own with
      state := .onBus, number := some s.budget.nextNumber } } }
  | _ => s

/-- One fan channel at an update instant: judged, its health handled, its duty set (R151, R153, R154). -/
def updateFan (c : ChanIx) (reading : Nat) (w : Work) : Work :=
  if fanFitted w.st c then
    let before := w.st.cooling.fans[c].health
    let t := if w.st.cooling.judging then w.map (judgeFan c reading) else w
    let after := t.st.cooling.fans[c].health
    let u := if before == after then t
      else
        let r := flush (recompute t)
        if after == .failed then r.map (raiseStation fun f => { f with fanFailed := true }) else r
    u.map (setDuty c)
  else w

/-- The update instant at the win of an own STANDING, outside the census (R151, R152) (DEDUCED, notes/assumptions/7). -/
def updateFans (tach0 tach1 : Nat) (w : Work) : Work :=
  if w.st.census.isNone then updateFan 1 tach1 (updateFan 0 tach0 w) else w

/-- The chosen message wins the bus (R8). -/
def winBus (m : Outgoing) (tach0 tach1 : Nat) (w : Work) : Work :=
  let t := w.map fun s =>
    let x := fixContent s m
    claimWins m { s with bus := { s.bus with onBus := some (m.cls, x) } }
  if m == .standing then updateFans tach0 tach1 t else t

/-- The stop after a win: the message is queued again, unsent (R2, R115). -/
def stopSending (s : State) : State :=
  let own := s.budget.own
  { s with
    bus := { s.bus with onBus := none }
    budget := { s.budget with own := if own.state == .onBus then { own with state := .queued, number := none } else own } }

/-! ### The send -/

/-- The message leaves its FIFO, the bus becomes idle, last served is set (R1, R7). -/
def leaveFifo (c : MsgClass) (b : BusPort) : BusPort :=
  let b := { b.setFifo c ((b.fifo c).drop 1) with onBus := none }
  match c with
  | .urgent => b
  | .control => { b with lastServed := .control }
  | .routine => { b with lastServed := .routine }

/-- The numbers a sent message consumes, and the own claim that a STANDING folds (R8, R13, R117, R118). -/
def consume (x : OnBus) (s : State) : State :=
  match x with
  | .rollCall _ => s
  | .fixed _ => s
  | .claim _ => { s with budget := { s.budget with nextNumber := s.budget.nextNumber + 1 } }
  | .standing m =>
    let t := { s with bus := { s.bus with sequence := s.bus.sequence + 1 } }
    if s.budget.own.state == .admitted && s.budget.own.number == some m.folded then
      sendingCheck { t with budget := { t.budget with own := OwnClaim.idle } }
    else t

/-- The station takes its own good message (R4), and discards one with a field out of its range like any other (R190). -/
def selfReceive (x : OnBus) (w : Work) : Work :=
  let own := w.st.address
  match x with
  | .rollCall _ => w
  | .standing _ => w
  | .claim m => decideClaim m.number m.watts w
  | .fixed m =>
    match m with
    | .laneBid dst b =>
      if dst = own then w.map fun s => ownerActs b.module.val (takeBid s.now own b) s else w
    | .laneReturn dst r =>
      if dst = own then w.map (ownerActs r.module fun o => (takeReturn own r o, [])) else w
    | .laneOffer dst o => if dst = own then w.map (if o.inRange then takeOffer own o else id) else w
    | .laneDefer dst d => if dst = own then w.map (takeDefer d) else w
    | .laneRefuse dst r => if dst = own then w.map (if r.inRange then takeRefuse r else id) else w
    | .laneWithdraw dst x => if dst = own then w.map (if x.inRange then takeWithdraw x else id) else w
    | .askRoll dst => if dst = own then w.map (answerTopic own 6 0 0) else w
    | .rollCall | .standing | .claim .. | .claimDrop .. | .supplyAlarm .. | .answer .. => w

/-- A failed own receipt: a CLAIM's goes to the budget unit, every other is only counted (R3, R123). -/
def selfFail (x : OnBus) (s : State) : State :=
  match x with
  | .claim m => failClaim m.number s
  | .rollCall _ | .standing _ | .fixed _ => s

/-- Whether the message sent is the ANSWER that a restart waits for (R178). -/
def owesRestart (x : OnBus) : Bool :=
  match x with
  | .fixed (.answer _ _ restart) => restart
  | _ => false

/-- The send of the message on the bus and its own receipt, which passes or fails its check. -/
def sendMessage (c : MsgClass) (x : OnBus) (good : Bool) (w : Work) : Work :=
  let t := w.map fun s => consume x { s with bus := leaveFifo c s.bus }
  if good then selfReceive x (t.map countGood) else t.map fun s => selfFail x (countCrcDrop s)

end Sys2Proof.Machine
end

