-- ==== Sys2Proof/Machine/Reset.lean ====
section
/-! DEFINITION. The two resets: what they hold and clear while they run, the re-examination of each slot, the end of a
reset and the end of the census (chapter Start-up and restart). -/

namespace Sys2Proof.Machine

/-! ### While a reset runs -/

/-- Whether a warm restart is in progress. -/
def inWarmRestart (s : State) : Bool :=
  match s.run with
  | .warmRestart _ => true
  | .running | .powerOnReset _ => false

/-- Whether a power-on reset is in progress. -/
def inPowerOn (s : State) : Bool :=
  match s.run with
  | .powerOnReset _ => true
  | .running | .warmRestart _ => false

/-- The transmit queue emptied; a message being sent ends unsent (R11). -/
def emptyQueue (b : BusPort) : BusPort :=
  { b with urgent := [], control := [], routine := [], onBus := none, lastServed := .routine, owed := [], crcCount := 0 }

/-- The fan outputs driven at 100 % (R152). -/
def fansFull (c : Cooling) : Cooling :=
  { c with fans := #v[{ c.fans[0] with duty := 100 }, { c.fans[1] with duty := 100 }] }

/-- Every crosspoint connection of a slot removed and its sideband transaction abandoned (R173, R69). -/
def Bay.disconnect (b : Bay) : Bay :=
  { b with
    link := { b.link with inFlight := none }
    ports := #v[{ b.ports[0] with cross := none }, { b.ports[1] with cross := none },
      { b.ports[2] with cross := none }, { b.ports[3] with cross := none }] }

/-- Every slot changed by `f`. -/
def allBays (f : Bay → Bay) (s : State) : State :=
  { s with bays := #v[f s.bays[0], f s.bays[1], f s.bays[2], f s.bays[3]] }

/-- What both resets set at their beginning (R184, R185). -/
def beginReset (phase : RunPhase) (f : Bay → Bay) (s : State) : State :=
  let t := allBays (fun b => f b.disconnect) s
  { t with
    run := phase
    bus := emptyQueue s.bus
    cooling := fansFull s.cooling
    attention := { s.attention with line := false } }

/-- Power-on reset begins: every gate and every standby feed off (R184). -/
def beginPowerOn (s : State) : State :=
  beginReset (.powerOnReset s.now) (fun b => { b with seq := { b.seq with gate := .off, standby := false } }) s

/-- Warm restart begins: gates and standby feeds held (R185). -/
def beginWarm (s : State) : State :=
  beginReset (.warmRestart s.now) (fun b => { b with seq := { b.seq with cutInRestart := false } }) s

/-- The restart input's assertion (R185): it begins a warm restart, begins the record read of one in progress again, and
does nothing during power-on reset (DESIGN CHOICE, notes/assumptions/14). -/
def assertRestart (s : State) : State :=
  match s.run with
  | .running => beginWarm s
  | .warmRestart _ => { s with run := .warmRestart s.now }
  | .powerOnReset _ => s

/-- The severe comparator during a warm restart: the gate goes off at once and the slot is marked for LATCHED (R185). -/
def cutDuringRestart (i : SlotIx) (s : State) : State :=
  setBay i (fun b =>
    if b.seq.gate == .off then b else { b with seq := { b.seq with gate := .off, cutInRestart := true } }) s

/-! ### The slots at the end of a reset -/

/-- The sequencer's record before re-examination, the input levels as they stand (R39, R42). -/
def Seq.atReset (cfg : SlotSettings) (inp : ResetInputs) (i : SlotIx) : Seq :=
  { Seq.fresh cfg.priority with
    presence := inp.presence[i], ejectorRaw := inp.ejectorOpen[i], ejectorOpen := inp.ejectorOpen[i]
    inLimit := inp.inLimit[i] }

/-- The meter record after a reset, its latest values those of the first sample (R89). -/
def meterAtReset (inp : ResetInputs) (i : SlotIx) : Meter :=
  let v := voltCode inp.sample.volts[i]
  let a := ampCode inp.sample.amps[i]
  Meter.cleared v a (powerSample v a)

/-- A slot that is not fitted (R40). -/
def bayUnfitted (cfg : SlotSettings) (cause : ShutdownCause) : Bay :=
  let b := Bay.fresh false cfg
  b.setCause cause

/-- A slot after power-on reset: EMPTY, its presence timer started where presence is asserted (R39, R41). -/
def bayPowerOn (st : Settings) (inp : ResetInputs) (now : Nat) (i : SlotIx) : Bay :=
  let cfg := st.slots[i]
  if i.val < st.slotCount then
    { Bay.fresh true cfg with
      seq := { Seq.atReset cfg inp i with
        presenceTimer := if inp.presence[i] then some (now + Config.presenceDebounce) else none }
      meter := meterAtReset inp i }
  else bayUnfitted cfg .none

/-- The figures of a slot whose record is not known: worst-case, and half of it (R44, R68). -/
def worstFigures (cfg : SlotSettings) : Figures := figuresOf cfg.worstCase (cfg.worstCase / 2)

/-- A slot adopted in RUNNING (R68, R186): an open ejector is taken as an opening at the same instant. -/
def Bay.adopt (b : Bay) (now tst : Nat) : Bay :=
  let c := b.withFigures (worstFigures b.cfg)
  let d : Bay := ({ c with seq := ({ c.seq with
    state := .running, adopted := true, gate := .lifted
    retryClearTimer := some (now + Config.retryClearPeriod) } : Seq).ocRestart now } : Bay).startLink now tst
  let e : Bay := { d with link := d.link.queueInventory .adoption }
  if e.seq.ejectorOpen then e.toDraining now .operator .unseat false else e

/-- The stuck check started afresh where one is owed (R186) (DEDUCED, notes/assumptions/15). -/
def Bay.stuckAfresh (b : Bay) (owed : Bool) (now : Nat) : Bay :=
  { b with seq := { b.seq with stuckTimer := if owed then some (now + Config.stuckCheckPeriod) else none } }

/-- One slot re-examined (R186). -/
def reexamine (st : Settings) (inp : ResetInputs) (now : Nat) (old : Bay) (i : SlotIx) : Bay :=
  let cfg := st.slots[i]
  let q := old.seq
  if st.slotCount ≤ i.val then bayUnfitted cfg q.cause
  else
    let b : Bay := { Bay.fresh true cfg with
      seq := { Seq.atReset cfg inp i with cause := q.cause, standby := q.standby, gate := q.gate }
      meter := meterAtReset inp i }
    let owed := q.stuckTimer.isSome || q.cutInRestart
    if q.state == .stuck then { b with seq := { b.seq with state := .stuck, gate := .off } }
    else if q.cutInRestart then
      if inp.presence[i] then
        ({ b with
          seq := { b.seq with state := .latched, cause := .severeOc, gate := .off, standby := true }
          link := b.link.queueInventory .seating } : Bay).stuckAfresh owed now
      else ({ b with seq := { b.seq with cause := .severeOc, gate := .off, standby := false } } : Bay).stuckAfresh owed now
    else if inp.presence[i] then
      if q.gate != .off then b.adopt now st.constants.tst
      else
        ({ b with
          seq := { b.seq with state := .identify, standby := true }
          link := b.link.queueInventory .seating } : Bay).stuckAfresh owed now
    else if q.gate != .off then
      ({ b with seq := { b.seq with gate := .off, standby := false, cause := .surpriseRemoval } } : Bay).stuckAfresh true
        now
    else ({ b with seq := { b.seq with standby := false } } : Bay).stuckAfresh owed now

/-! ### The other blocks at the end of a reset -/

/-- A supply channel at the end of a reset (R103). -/
def supplyAtReset (st : Settings) (inp : ResetInputs) (c : ChanIx) : Supply :=
  if c.val < st.supplyCount then
    let p := inp.supplyPresent[c]
    let g := inp.supplyGood[c]
    let w := inp.supplyWarning[c]
    let x : Supply := ⟨.absent, p, g, w, 0, false, 0, 0, p, g, w, none, none, none⟩
    { x with state := x.derived }
  else ⟨.absent, false, false, false, 0, false, 0, 0, false, false, false, none, none, none⟩

/-- The budget record at the end of a reset, before its first recomputation (R105, R127). -/
def budgetAtReset (bays : Vector Bay 4) : Budget where
  queue := []
  nextArrival := 0
  own := OwnClaim.idle
  nextNumber := 0
  folded := 255
  bar := none
  base := 0
  failedFans := 0
  factor := 16
  usable := 0
  reported := #v[bays[0].charge, bays[1].charge, bays[2].charge, bays[3].charge]
  committed := 0
  ha := 0
  hs := 0
  redundancyLost := false
  coolingDegraded := false
  deficit := false
  shedMark := none
  restoreEntry := none
  blocked := []

/-- The bus port at the end of a reset: the queue empty, the window and the STANDING timer restarted (R11, R23). -/
def busAtReset (b : BusPort) (now tst : Nat) : BusPort :=
  { emptyQueue b with
    sequence := 0, standingDue := now + tst, crcDue := now + tst, busFaults := false, foreignUntil := none }

/-- The health a fan channel keeps (R144). -/
def keptHealth (kept : Bool) (h : FanHealth) : FanHealth := if kept then h else .ok

/-- Every flag clear, then each cause whose condition holds raised, and the line set (R180). -/
def raiseAtReset (s : State) : State :=
  settleFlags { s with attention := {
    slots := allSlotConditions s, station := stationConditions s, line := false, restartOwed := false } }

/-- The end of a reset (R187): every block as its chapter gives, the first sample, the first inlet reading, the first
recomputation, the causes, the ROLL CALL and the first STANDING offered, the census begun. -/
def endReset (st : Settings) (defaults : Bool) (epoch : Serial) (bays : Vector Bay 4) (health : Vector FanHealth 2)
    (inp : ResetInputs) (s : State) : State :=
  let tst := st.constants.tst
  let inlet := st.inletZone.map fun _ => inletDemandOf st inp.inlet
  let t : State := { s with
    run := .running
    settings := st
    startDefaults := defaults
    self := ⟨epoch, rolesOf st, digestOf st.constants⟩
    census := some (s.now + Config.censusPeriods * tst)
    bus := busAtReset s.bus s.now tst
    peers := Vector.replicate 16 Peer.fresh
    bays := bays
    stationVolt := voltCode inp.sample.station
    meterDue := s.now + 1
    supplies := #v[supplyAtReset st inp 0, supplyAtReset st inp 1]
    budget := budgetAtReset bays
    cooling := coolingAtReset health (st.inletZone.map fun _ => s.now + tst) inlet
    owner := st.trunk.map fun r => ownerAtReset r inp.laneFault
    tagCounter := 0 }
  raiseAtReset (flush (recompute ⟨offer .standing (offer .rollCall (deriveAtReset t)), []⟩)).st

/-- The settings a reset takes, and whether they are the built-in defaults (R183). -/
def settingsAtReset (inp : ResetInputs) : Settings × Bool :=
  match settingsFrom inp.reads with
  | some st => (st, false)
  | none => (Settings.default, true)

/-- The end of power-on reset (R184): the address from the straps, epoch 0, the bus counters 0. -/
def endPowerOn (straps : Addr) (inp : ResetInputs) (s : State) : State :=
  let x := settingsAtReset inp
  endReset x.1 x.2 0 (Vector.ofFn fun i => bayPowerOn x.1 inp s.now i) #v[.ok, .ok] inp
    { s with address := straps, bus := { s.bus with good := 0, crcDrops := 0, overflows := 0, ordersRefused := 0 } }

/-- The end of warm restart (R185): the epoch one more, each slot re-examined, each fan channel's health kept. -/
def endWarm (inp : ResetInputs) (s : State) : State :=
  let x := settingsAtReset inp
  let fitted (c : Nat) : Bool := c < s.settings.fanCount && c < x.1.fanCount
  endReset x.1 x.2 (s.self.epoch + 1) (Vector.ofFn fun i => reexamine x.1 inp s.now s.bays[i] i)
    #v[keptHealth (fitted 0) s.cooling.fans[0].health, keptHealth (fitted 1) s.cooling.fans[1].health] inp s

/-! ### The end of the census -/

/-- Tach judging turned on with the counts at 0 (R189). -/
def startJudging (s : State) : State :=
  { s with cooling := { s.cooling with
    judging := true
    fans := #v[{ s.cooling.fans[0] with low := 0, good := 0 }, { s.cooling.fans[1] with low := 0, good := 0 }] } }

/-- A slot's port lane records started at the end of the census, if it is RUNNING and not adopted (R189), on the needs
taken at its report (R188). -/
def startServed (s : State) (i : SlotIx) : State := if s.bays[i].served then startPorts i s else s

/-- The end of the census (R131, R189). The sending check comes before the records' starts, and those go from slot 0 to
slot 3 (DESIGN CHOICE, notes/assumptions/47). -/
def endCensus (w : Work) : Work :=
  let t := w.map fun s => { s with census := none }
  let u := if t.st.budget.deficit then answerDeficit t else t
  u.map fun s => (List.finRange 4).foldl startServed (startJudging (sendingCheck s))

end Sys2Proof.Machine
end

