-- ==== Sys2Proof/Machine/BusCommands.lean ====
section
/-! DEFINITION. The meanings of the commands of the bus port: bus idles, sends, damaged and foreign frames, and the bus
port's timers (sections 1.1 to 1.3 and 1.6). -/

namespace Sys2Proof.Machine

/-- The message offered at this idle, where its key passes contention unbeaten (R1, R7). -/
def idleWinner (s : State) (others : List ArbKey) : Option Outgoing :=
  if sending s then none
  else (chooseNext s.bus).filter fun m => winsContention m.cls s.address others

/-- BUS_IDLE (R1, R7, R8, R151): the chosen message wins the bus, or stays at the head of its FIFO
(DESIGN CHOICE, notes/assumptions/7). -/
def execBusIdle (others : List ArbKey) (tach0 tach1 : Nat) (s : State) : Host.Outcome State Fault Refusal :=
  event s (idleWinner s others).isSome fun w =>
    match idleWinner s others with
    | some m => winBus m tach0 tach1 w
    | none => w

/-- READBACK_MISMATCH_STOP (R2): the message on the bus goes back to its queue unsent. -/
def execReadbackMismatchStop (s : State) : Host.Outcome State Fault Refusal := simpleEvent s (sending s) stopSending

/-- A send, and the warm restart that the ANSWER of an ORDER owes (R178). -/
def sendOutcome (c : MsgClass) (x : OnBus) (good : Bool) (s : State) : State :=
  let t := finish (sendMessage c x good ⟨s, []⟩)
  if owesRestart x then beginWarm t else t

/-- MESSAGE_SENT (R1, R3, R4, R8): the last part of the message on the bus has gone, and the station takes it
(DESIGN CHOICE, notes/assumptions/5). -/
def execMessageSent (good : Bool) (s : State) : Host.Outcome State Fault Refusal :=
  match s.bus.onBus with
  | some (c, x) => .next (if s.run == .running then sendOutcome c x good s else s)
  | none => .next s

/-- Whether the message on the bus is a CLAIM. -/
def claimOnBus (s : State) : Bool :=
  match s.bus.onBus with
  | some (_, .claim _) => true
  | _ => false

/-- OWN_CLAIM_RECEIPT (R119, R120, R121, R124): the own CLAIM's send, its receipt passing its check
(DESIGN CHOICE, notes/assumptions/5). -/
def execOwnClaimReceipt (s : State) : Host.Outcome State Fault Refusal :=
  match s.bus.onBus with
  | some (c, .claim m) => event s true (sendMessage c (.claim m) true)
  | some (_, .rollCall _) | some (_, .standing _) | some (_, .fixed _) | none => .next s

/-- OWN_CLAIM_BAD_RECEIPT (R123): the own CLAIM's send, its receipt failing its check
(DESIGN CHOICE, notes/assumptions/5). -/
def execOwnClaimBadReceipt (s : State) : Host.Outcome State Fault Refusal :=
  match s.bus.onBus with
  | some (c, .claim m) => event s true (sendMessage c (.claim m) false)
  | some (_, .rollCall _) | some (_, .standing _) | some (_, .fixed _) | none => .next s

/-- BAD_CRC_FRAME (R3, R23): dropped and counted. -/
def execBadCrcFrame (s : State) : Host.Outcome State Fault Refusal := simpleEvent s true countCrcDrop

/-- FOREIGN_FRAME (R3): a good frame bearing the own address while the station is not sending. -/
def execForeignFrame (s : State) : Host.Outcome State Fault Refusal := simpleEvent s (!sending s) foreignHeard

/-- MALFORMED_FRAME (R190): counted, its source heard, then discarded. -/
def execMalformedFrame (src : Addr) (s : State) : Host.Outcome State Fault Refusal := received s src (hearOnly src)

/-- STANDING_TIMER_EXPIRY (R11): a STANDING offered, the timer running on (DESIGN CHOICE, notes/assumptions/28). -/
def execStandingTimerExpiry (s : State) : Host.Outcome State Fault Refusal :=
  simpleEvent s (s.bus.standingDue ≤ s.now) fun s =>
    offer .standing { s with bus := { s.bus with standingDue := s.bus.standingDue + s.tst } }

/-- CRC_WINDOW_END (R23). -/
def execCrcWindowEnd (s : State) : Host.Outcome State Fault Refusal := simpleEvent s (s.bus.crcDue ≤ s.now) endCrcWindow

/-- REFUSED_REOFFER_TIMER (R6): the `k`-th refused message that is owed a further offer. -/
def execRefusedReofferTimer (k : Nat) (s : State) : Host.Outcome State Fault Refusal := simpleEvent s true (reoffer k)

/-- The foreign frame heard no longer counts (R179). -/
def endForeign (s : State) : State := { s with bus := { s.bus with foreignUntil := none } }

/-- FOREIGN_FRAME_WINDOW_END (R179). -/
def execForeignFrameWindowEnd (s : State) : Host.Outcome State Fault Refusal :=
  simpleEvent s (timerDue s.bus.foreignUntil s.now) endForeign

end Sys2Proof.Machine
end

