-- ==== Sys2Proof/Machine/LaneCommands.lean ====
section
/-! DEFINITION. The meanings of the lane messages, the lane fault inputs and the trunk unit's timers (chapter Shared
uplinks). -/

namespace Sys2Proof.Machine

/-- LANE_BID_RECEIVED (R17, R159, R160). -/
def execLaneBidReceived (r : Route) (m : BidMsg) (s : State) : Host.Outcome State Fault Refusal :=
  destined s r (Work.map (ownerActs m.module.val (takeBid s.now r.src m)))

/-- LANE_RETURN_RECEIVED (R17, R162). -/
def execLaneReturnReceived (r : Route) (m : ReturnMsg) (s : State) : Host.Outcome State Fault Refusal :=
  destined s r (Work.map (ownerActs m.module fun o => (takeReturn r.src m o, [])))

/-- LANE_OFFER_RECEIVED (R168). -/
def execLaneOfferReceived (r : Route) (m : OfferMsg) (s : State) : Host.Outcome State Fault Refusal :=
  destined s r (Work.map (if m.inRange then takeOffer r.src m else id))

/-- LANE_DEFER_RECEIVED (R168). -/
def execLaneDeferReceived (r : Route) (m : DeferMsg) (s : State) : Host.Outcome State Fault Refusal :=
  destined s r (Work.map (takeDefer m))

/-- LANE_REFUSE_RECEIVED (R168). -/
def execLaneRefuseReceived (r : Route) (m : RefuseMsg) (s : State) : Host.Outcome State Fault Refusal :=
  destined s r (Work.map (if m.inRange then takeRefuse m else id))

/-- LANE_WITHDRAW_RECEIVED (R170). -/
def execLaneWithdrawReceived (r : Route) (m : WithdrawMsg) (s : State) : Host.Outcome State Fault Refusal :=
  destined s r (Work.map (if m.inRange then takeWithdraw m else id))

/-! ### Lane fault inputs -/

/-- The fault input of a lane of the own module, if there is such a lane (R156, R157). -/
def faultInput (s : State) (l : LaneIx) : Option LaneFault :=
  match s.owner with
  | some o => if l.val < o.lanes.length then some o.faults[l] else none
  | none => none

/-- A lane's fault input changed by `f`. -/
def setFault (l : LaneIx) (f : LaneFault → LaneFault) (s : State) : State :=
  { s with owner := s.owner.map fun o => { o with faults := updAt o.faults l f } }

/-- The owner side changed by `f`, its messages offered. -/
def ownerRuns (f : Owner → Owner × List Outgoing) (s : State) : State :=
  match s.owner with
  | some o =>
    let r := f o
    offerAll r.2 { s with owner := some r.1 }
  | none => s

/-- LANE_FAULT_INPUT_CHANGE (R157): the debounce starts at a level other than the one taken, and ends at a return to
it. -/
def execLaneFaultInputChange (l : LaneIx) (asserted : Bool) (s : State) : Host.Outcome State Fault Refusal :=
  simpleEvent s ((faultInput s l).any fun x => x.raw != asserted) (setFault l fun x =>
    { x with raw := asserted, timer := if asserted != x.level then some (s.now + Config.laneFaultPeriod) else none })

/-- Whether a lane's fault input has held a new level for 10 ms (R157). -/
def faultHeld (s : State) (l : LaneIx) (level : Bool) : Bool :=
  (faultInput s l).any fun x => timerDue x.timer s.now && x.raw == level && x.level != level

/-- LANE_FAULT_ASSERTED (R157). -/
def execLaneFaultAsserted (l : LaneIx) (s : State) : Host.Outcome State Fault Refusal :=
  simpleEvent s (faultHeld s l true) fun s =>
    ownerRuns (faultLane l.val) (setFault l (fun x => { x with level := true, timer := none }) s)

/-- LANE_FAULT_CLEARED (R157). -/
def execLaneFaultCleared (l : LaneIx) (s : State) : Host.Outcome State Fault Refusal :=
  simpleEvent s (faultHeld s l false) fun s =>
    ownerRuns (fun o => (clearLane l.val o, [])) (setFault l (fun x => { x with level := false, timer := none }) s)

/-- The `k`-th latch of the owner, if its discard timer has run out (R161). -/
def staleLatch (s : State) (k : Nat) : Option Latch :=
  (s.owner.bind fun o => o.latches[k]?).filter fun l => l.discard ≤ s.now

/-- LATCH_DISCARD (R161). -/
def execLatchDiscard (k : Nat) (s : State) : Host.Outcome State Fault Refusal :=
  simpleEvent s (staleLatch s k).isSome fun s =>
    match staleLatch s k with
    | some l => ownerRuns (fun o => (discardLatch l o, [])) s
    | none => s

/-! ### The timers of a port lane record -/

/-- REPRESENT_TIMER_EXPIRY (R167). -/
def execRepresentTimerExpiry (i : SlotIx) (p : PortIx) (s : State) : Host.Outcome State Fault Refusal :=
  simpleEvent s ((portOf s i p).state.asks && timerDue (portOf s i p).timer s.now) (representPort i p)

/-- UNPLACED_TIMER_EXPIRY (R169). -/
def execUnplacedTimerExpiry (i : SlotIx) (p : PortIx) (s : State) : Host.Outcome State Fault Refusal :=
  simpleEvent s ((portOf s i p).state == .unplaced && timerDue (portOf s i p).timer s.now) (placePort i p)

/-- LOST_TIMER_EXPIRY (R170). -/
def execLostTimerExpiry (i : SlotIx) (p : PortIx) (s : State) : Host.Outcome State Fault Refusal :=
  simpleEvent s ((portOf s i p).state == .lost && timerDue (portOf s i p).timer s.now) (placePort i p)

end Sys2Proof.Machine
end

