-- ==== Sys2Proof/Machine/MeterCommands.lean ====
section
/-! DEFINITION. The meanings of the samples, of the supply channels' inputs and of the inlet readings (chapters Metering
and supply channels; Cooling control). -/

namespace Sys2Proof.Machine

/-! ### The millisecond sample -/

/-- Draining ends at a current sample below the stuck threshold, at or after the end of the shutdown write (R54). -/
def Bay.drained (b : Bay) : Bool := b.draining && b.seq.shutdownEnded && b.meter.amp < b.cfg.stuckThreshold

/-- The sequencer acts on the sample (R47, R54). -/
def sampleActs (i : SlotIx) (w : Work) : Work :=
  let b := w.st.bays[i]
  let now := w.st.now
  if b.seq.state == .ramp && powerGood b.meter.volt w.st.stationVolt then
    modBay .fault i (fun b => b.toRunning now w.st.tst) w
  else if b.drained then modBay .fault i (fun b => b.endDraining now) w
  else w

/-- A meter with the latest sample gathered, its window ended where it is full (R92, R93). -/
def Bay.gathered (b : Bay) (window : Nat) : Bay :=
  let m := b.meter.gather
  { b with meter := if window ≤ m.count then m.endWindow window else m }

/-- The compliance check at a window end (R83, R84, R85). -/
def complianceCheck (i : SlotIx) (w : Work) : Work :=
  if w.st.bays[i].overdraws then
    if w.st.census.isNone && w.st.budget.deficit then powerOff i .noncompliant w
    else modBay .fault i Bay.acceptOverdraw w
  else w

/-- The sample gathered, and the check where a window ends with it (R92, R94). -/
def sampleGathers (i : SlotIx) (w : Work) : Work :=
  if w.st.bays[i].seq.state == .empty then w
  else
    let n := windowLength w.st
    let ends := n ≤ w.st.bays[i].meter.count + 1
    let t := w.map (setBay i fun b => b.gathered n)
    if ends then complianceCheck i t else t

/-- One fitted slot's part of a sample (R90). -/
def sampleSlot (i : SlotIx) (w : Work) : Work :=
  if w.st.bays[i].fitted then flush (sampleGathers i (flush (sampleActs i w))) else w

/-- Channel `c` changed by `f`. -/
def setSupply (c : ChanIx) (f : Supply → Supply) (s : State) : State :=
  { s with supplies := updAt s.supplies c f }

/-- The state of a channel derived afresh; a change is set, told to the budget unit and then alarmed (R101, R102). -/
def deriveSupply (c : ChanIx) (w : Work) : Work :=
  let p := w.st.supplies[c]
  let st := p.derived
  if st == p.state then w
  else
    let t := flush (recompute (w.map (setSupply c fun x => { x with state := st })))
    if alarmed p.state st then t.map (offer (.supplyAlarm c st t.st.settings.supplies[c].rated)) else t

/-- One supply channel's part of a sample (R100). -/
def sampleSupply (m : Sample) (c : ChanIx) (w : Work) : Work :=
  if supplyFitted w.st c then
    let t := w.map (setSupply c fun p =>
      p.gather (ampCode m.outputs[c]) w.st.stationVolt w.st.settings.supplies[c].senseScale)
    if Config.outputBlockLength ≤ t.st.supplies[c].blockCount then
      deriveSupply c (t.map (setSupply c fun p => p.endBlock w.st.settings.supplies[c].rated))
    else t
  else w

/-- One whole sample: every latest value first, then each slot, then each supply channel (R90)
(DESIGN CHOICE, notes/assumptions/6). -/
def takeSample (m : Sample) (w : Work) : Work :=
  let t := w.map fun s => takeLatest m { s with meterDue := s.meterDue + 1 }
  sampleSupply m 1 (sampleSupply m 0 (sampleSlot 3 (sampleSlot 2 (sampleSlot 1 (sampleSlot 0 t)))))

/-- METER_SAMPLE (R90): due every 1 ms. -/
def execMeterSample (m : Sample) (s : State) : Host.Outcome State Fault Refusal :=
  event s (s.meterDue ≤ s.now) (takeSample m)

/-- Whether the next sample ends a slot's window (R93). -/
def windowEnds (s : State) (i : SlotIx) : Bool :=
  s.bays[i].fitted && s.bays[i].seq.state != .empty && windowLength s ≤ s.bays[i].meter.count + 1

/-- METER_WINDOW_END (R93, R94): the sample that ends slot `i`'s window (DESIGN CHOICE, notes/assumptions/6). -/
def execMeterWindowEnd (i : SlotIx) (m : Sample) (s : State) : Host.Outcome State Fault Refusal :=
  event s (s.meterDue ≤ s.now && windowEnds s i) (takeSample m)

/-- Whether the next sample ends a channel's output block (R100). -/
def blockEnds (s : State) (c : ChanIx) : Bool :=
  supplyFitted s c && Config.outputBlockLength ≤ s.supplies[c].blockCount + 1

/-- OUTPUT_BLOCK_END (R100, R101): the sample that ends channel `c`'s output block
(DESIGN CHOICE, notes/assumptions/6). -/
def execOutputBlockEnd (c : ChanIx) (m : Sample) (s : State) : Host.Outcome State Fault Refusal :=
  event s (s.meterDue ≤ s.now && blockEnds s c) (takeSample m)

/-! ### The inputs of a supply channel -/

/-- A timer that runs while a level differs from the one held (R99). -/
def debounce (level held : Bool) (now period : Nat) : Due := if level != held then some (now + period) else none

/-- The level of an input before conditioning. -/
def Supply.raw (p : Supply) : SupplyInput → Bool
  | .presence => p.presentRaw
  | .powerGood => p.goodRaw
  | .warning => p.warnedRaw

/-- An input's level changed, its timer started or stopped (R99). -/
def Supply.inputChanged (p : Supply) (now : Nat) (which : SupplyInput) (level : Bool) : Supply :=
  match which with
  | .presence =>
    { p with presentRaw := level, presentTimer := debounce level p.present now Config.supplyPresencePeriod }
  | .powerGood => { p with goodRaw := level, goodTimer := debounce level p.good now Config.supplyGoodPeriod }
  | .warning => { p with warnedRaw := level, warnedTimer := debounce level p.warned now Config.supplyWarningPeriod }

/-- SUPPLY_INPUT_CHANGE (R99). -/
def execSupplyInputChange (c : ChanIx) (which : SupplyInput) (asserted : Bool) (s : State) :
    Host.Outcome State Fault Refusal :=
  simpleEvent s (supplyFitted s c && s.supplies[c].raw which != asserted)
    (setSupply c fun p => p.inputChanged s.now which asserted)

/-- SUPPLY_PRESENCE_DEBOUNCED (R99, R101). -/
def execSupplyPresenceDebounced (c : ChanIx) (s : State) : Host.Outcome State Fault Refusal :=
  event s (supplyFitted s c && timerDue s.supplies[c].presentTimer s.now) fun w =>
    deriveSupply c (w.map (setSupply c fun p => { p with present := p.presentRaw, presentTimer := none }))

/-- SUPPLY_POWER_GOOD_LOST (R99, R101). -/
def execSupplyPowerGoodLost (c : ChanIx) (s : State) : Host.Outcome State Fault Refusal :=
  event s (supplyFitted s c && timerDue s.supplies[c].goodTimer s.now && !s.supplies[c].goodRaw) fun w =>
    deriveSupply c (w.map (setSupply c fun p => { p with good := false, goodTimer := none }))

/-- SUPPLY_POWER_GOOD_RECOVERED (R99, R101). -/
def execSupplyPowerGoodRecovered (c : ChanIx) (s : State) : Host.Outcome State Fault Refusal :=
  event s (supplyFitted s c && timerDue s.supplies[c].goodTimer s.now && s.supplies[c].goodRaw) fun w =>
    deriveSupply c (w.map (setSupply c fun p => { p with good := true, goodTimer := none }))

/-- SUPPLY_WARNING_DEBOUNCED (R99, R101). -/
def execSupplyWarningDebounced (c : ChanIx) (s : State) : Host.Outcome State Fault Refusal :=
  event s (supplyFitted s c && timerDue s.supplies[c].warnedTimer s.now) fun w =>
    deriveSupply c (w.map (setSupply c fun p => { p with warned := p.warnedRaw, warnedTimer := none }))

/-! ### The inlet sensor -/

/-- INLET_READING (R147): due every Tst (DESIGN CHOICE, notes/assumptions/28). -/
def execInletReading (reading : Option Int) (s : State) : Host.Outcome State Fault Refusal :=
  simpleEvent s (timerDue s.cooling.inletTimer s.now) fun s =>
    takeInlet reading { s with cooling := { s.cooling with inletTimer := s.cooling.inletTimer.map (· + s.tst) } }

end Sys2Proof.Machine
end

