-- ==== Sys2Proof/Machine/OrderCommands.lean ====
section
/-! DEFINITION. The meanings of the twelve order rows: an ORDER whose action list holds the row's action at its own place
(chapter Operator orders and attention). -/

namespace Sys2Proof.Machine

/-- What stands at the row's own place in the action list: the action of the row, an action of unknown code, or
nothing (R176) (DESIGN CHOICE, notes/assumptions/11). -/
def ownActions (a : Action) (own : OwnAction) : List OrderAction :=
  match own with
  | .act target value => [⟨a.code, target, value⟩]
  | .unknownCode beyond target value => [⟨12 + beyond, target, value⟩]
  | .absent => []

/-- The ORDER of an order row (R20). -/
def orderOf (h : OrderHead) (a : Action) (before : List OrderAction) (own : OwnAction) (after : List OrderAction) :
    OrderMsg :=
  ⟨h.cond, h.pattern, before ++ ownActions a own ++ after⟩

/-- The station after an ORDER delivered to it, and the warm restart where its ANSWER was refused (R178). -/
def orderOutcome (src : Addr) (m : OrderMsg) (w : Work) : State :=
  let r := takeOrder src m w
  let t := finish r.1
  if r.2 then beginWarm t else t

/-- An ORDER received (R4, R174): taken where it is destined for this station. -/
def order (s : State) (h : OrderHead) (m : OrderMsg) : Host.Outcome State Fault Refusal :=
  if s.run == .running && h.route.src != s.address && h.route.dst == s.address then
    .next (orderOutcome h.route.src m (flush (hearOnly h.route.src ⟨s, []⟩)))
  else received s h.route.src (hearOnly h.route.src)

/-- SLOT_ON (R62). -/
def execSlotOn (h : OrderHead) (before : List OrderAction) (own : OwnAction) (after : List OrderAction)
    (s : State) : Host.Outcome State Fault Refusal :=
  order s h (orderOf h .slotOn before own after)

/-- SLOT_OFF (R62). -/
def execSlotOff (h : OrderHead) (before : List OrderAction) (own : OwnAction) (after : List OrderAction)
    (s : State) : Host.Outcome State Fault Refusal :=
  order s h (orderOf h .slotOff before own after)

/-- SLOT_CYCLE (R56, R62). -/
def execSlotCycle (h : OrderHead) (before : List OrderAction) (own : OwnAction) (after : List OrderAction)
    (s : State) : Host.Outcome State Fault Refusal :=
  order s h (orderOf h .slotCycle before own after)

/-- SET_CEILING (R137). -/
def execSetCeiling (h : OrderHead) (before : List OrderAction) (own : OwnAction) (after : List OrderAction)
    (s : State) : Host.Outcome State Fault Refusal :=
  order s h (orderOf h .setCeiling before own after)

/-- CLEAR_CEILING (R138). -/
def execClearCeiling (h : OrderHead) (before : List OrderAction) (own : OwnAction) (after : List OrderAction)
    (s : State) : Host.Outcome State Fault Refusal :=
  order s h (orderOf h .clearCeiling before own after)

/-- CLEAR_LATCH (R63). -/
def execClearLatch (h : OrderHead) (before : List OrderAction) (own : OwnAction) (after : List OrderAction)
    (s : State) : Host.Outcome State Fault Refusal :=
  order s h (orderOf h .clearLatch before own after)

/-- REIDENTIFY (R87). -/
def execReidentify (h : OrderHead) (before : List OrderAction) (own : OwnAction) (after : List OrderAction)
    (s : State) : Host.Outcome State Fault Refusal :=
  order s h (orderOf h .reidentify before own after)

/-- CLEAR_PEAKS (R95). -/
def execClearPeaks (h : OrderHead) (before : List OrderAction) (own : OwnAction) (after : List OrderAction)
    (s : State) : Host.Outcome State Fault Refusal :=
  order s h (orderOf h .clearPeaks before own after)

/-- SET_PRIORITY (R177). -/
def execSetPriority (h : OrderHead) (before : List OrderAction) (own : OwnAction) (after : List OrderAction)
    (s : State) : Host.Outcome State Fault Refusal :=
  order s h (orderOf h .setPriority before own after)

/-- FORGET_STATION (R37). -/
def execForgetStation (h : OrderHead) (before : List OrderAction) (own : OwnAction) (after : List OrderAction)
    (s : State) : Host.Outcome State Fault Refusal :=
  order s h (orderOf h .forgetStation before own after)

/-- CLEAR_ATTENTION (R181). -/
def execClearAttention (h : OrderHead) (before : List OrderAction) (own : OwnAction) (after : List OrderAction)
    (s : State) : Host.Outcome State Fault Refusal :=
  order s h (orderOf h .clearAttention before own after)

/-- RESTART (R178). -/
def execRestart (h : OrderHead) (before : List OrderAction) (own : OwnAction) (after : List OrderAction)
    (s : State) : Host.Outcome State Fault Refusal :=
  order s h (orderOf h .restart before own after)

end Sys2Proof.Machine
end

