-- ==== Sys2Proof/Machine/PeerCommands.lean ====
section
/-! DEFINITION. The meanings of the frames that peers send to every station, and of the peer view's ages (chapter Peer
view). A field out of its range discards the frame after counting (R190). -/

namespace Sys2Proof.Machine

/-- ROLL_CALL_RECEIVED (R28) (DEDUCED, notes/assumptions/10). -/
def execRollCallReceived (src : Addr) (m : RollCall) (s : State) : Host.Outcome State Fault Refusal :=
  received s src (if m.inRange then takeRollCall src m else hearOnly src)

/-- STANDING_RECEIVED (R27) (DEDUCED, notes/assumptions/10). -/
def execStandingReceived (src : Addr) (m : Standing) (s : State) : Host.Outcome State Fault Refusal :=
  received s src (if m.inRange then takeStanding src m else hearOnly src)

/-- PEER_CLAIM_RECEIVED (R32) (DEDUCED, notes/assumptions/10). -/
def execPeerClaimReceived (src : Addr) (m : ClaimMsg) (s : State) : Host.Outcome State Fault Refusal :=
  received s src (if m.inRange then takeClaim src m else hearOnly src)

/-- CLAIM_DROP_RECEIVED (R15, R33) (DEDUCED, notes/assumptions/10). -/
def execClaimDropReceived (src : Addr) (m : ClaimDropMsg) (s : State) : Host.Outcome State Fault Refusal :=
  received s src (if m.inRange then takeClaimDrop src m else hearOnly src)

/-- SUPPLY_ALARM_RECEIVED (R31). -/
def execSupplyAlarmReceived (src : Addr) (m : AlarmMsg) (s : State) : Host.Outcome State Fault Refusal :=
  received s src (takeAlarm src m)

/-- ANSWER_RECEIVED (R4, R19): counted and dropped, wherever it is destined. -/
def execAnswerReceived (r : Route) (_m : AnswerMsg) (s : State) : Host.Outcome State Fault Refusal :=
  received s r.src (hearOnly r.src)

/-- Whether an entry other than the station's own is in a state and of an age (R26). -/
def ages (s : State) (a : Addr) (st : PeerState) (n : Nat) : Bool :=
  a != s.address && s.peers[a].state == st && agePasses s a n

/-- PEER_ENTERS_STALE (R26). -/
def execPeerEntersStale (a : Addr) (s : State) : Host.Outcome State Fault Refusal :=
  event s (ages s a .live Config.staleAge) (enterStale a)

/-- PEER_ENTERS_SILENT (R26, R163, R171). -/
def execPeerEntersSilent (a : Addr) (s : State) : Host.Outcome State Fault Refusal :=
  event s (ages s a .stale Config.silentAge) (enterSilent a)

/-- Whether an entry's pending claim has reached its age limit (R33). -/
def claimAged (s : State) (a : Addr) : Bool :=
  match s.peers[a].pending with
  | some c => a != s.address && c.since + Config.pendingClaimAge * s.tst ≤ s.now
  | none => false

/-- PENDING_CLAIM_AGE_EXPIRY (R33). -/
def execPendingClaimAgeExpiry (a : Addr) (s : State) : Host.Outcome State Fault Refusal :=
  event s (claimAged s a) (dropAged a)

/-- REFUSAL_BAR_LIFT (R122): one Tst has passed since the refusal and the raised mark is set. -/
def execRefusalBarLift (s : State) : Host.Outcome State Fault Refusal := simpleEvent s true liftBar

end Sys2Proof.Machine
end

