-- ==== Sys2Proof/Machine/ResetCommands.lean ====
section
/-! DEFINITION. The meanings of the resets and of the end of the census (chapter Start-up and restart). -/

namespace Sys2Proof.Machine

/-- POWER_ON_RESET (R184): whatever the station was doing. -/
def execPowerOnReset (s : State) : Host.Outcome State Fault Refusal := .next (beginPowerOn s)

/-- POWER_ON_RESET_END (R182, R183, R187) (DESIGN CHOICE, notes/assumptions/14). -/
def execPowerOnResetEnd (straps : Addr) (inp : ResetInputs) (s : State) : Host.Outcome State Fault Refusal :=
  .next (if inPowerOn s then endPowerOn straps inp s else s)

/-- RESTART_INPUT_ASSERT (R185). -/
def execRestartInputAssert (s : State) : Host.Outcome State Fault Refusal := .next (assertRestart s)

/-- WARM_RESTART_END (R185, R186, R187) (DESIGN CHOICE, notes/assumptions/14). -/
def execWarmRestartEnd (inp : ResetInputs) (s : State) : Host.Outcome State Fault Refusal :=
  .next (if inWarmRestart s then endWarm inp s else s)

/-- CENSUS_END (R189). -/
def execCensusEnd (s : State) : Host.Outcome State Fault Refusal := event s (timerDue s.census s.now) endCensus

end Sys2Proof.Machine
end

