-- ==== Sys2Proof/Machine/SidebandCommands.lean ====
section
/-! DEFINITION. The meanings of the sideband link's events (chapter Sideband and inventory). -/

namespace Sys2Proof.Machine

/-- SIDEBAND_TRANSACTION_START (R70): the next transaction of the ready item of highest rank. -/
def execSidebandTransactionStart (i : SlotIx) (s : State) : Host.Outcome State Fault Refusal :=
  simpleEvent s (s.bays[i].canStart s.now) (setBay i fun b => b.start s.now)

/-! ### Ends of transactions -/

/-- An inventory READ ended: its item advanced, and the outcome handled where the whole read ends with it (R73, R76). An
entry for held figures is withdrawn before the new figures of a REIDENTIFY are applied (R88). -/
def endInventoryRead (i : SlotIx) (r : Option (List Byte)) (w : Work) : Work :=
  let x := w.st.bays[i].link.inventoryEnd r
  let t := w.map (setBay i fun b => { b with link := x.1 })
  match x.2 with
  | none => t
  | some (p, rec) =>
    let u := if p == .reidentify && (entryOf t.st i).any (·.purpose == .heldFigures) then
        leaveQueue i (t.map (setBay i fun b => { b with link := { b.link with held := none } }))
      else t
    modBay .fault i (fun b => b.endRead w.st.now p rec) u

/-- The bytes of a READ that completed. -/
def readBytes {n : Nat} (r : ReadResult n) : Option (List Byte) :=
  match r with
  | .complete v => some v.toList
  | .notAcknowledged => none

/-- A cap WRITE ended (R80). -/
def endCapWrite (i : SlotIx) (completed : Bool) (s : State) : State :=
  setBay i (fun b =>
    match b.link.kind with
    | some (.capWrite figure live) => { b with link := b.link.capEnd s.now figure live completed }
    | _ => b) s

/-- The blade asks to be switched off, in a slot that is RUNNING (R79). -/
def asksOff (b : Bay) (r : Option StatusRead) : Bool :=
  b.seq.state == .running && r.any fun x => x.state == .softOffRequest

/-- A status read ended, with the soft-off request it may show (R78, R79). -/
def Bay.endStatusRead (b : Bay) (now : Nat) (r : Option StatusRead) : Bay :=
  let c : Bay := { b with link := b.link.statusEnd now r }
  if asksOff b r then c.toDraining now .bladeRequest .off false else c

/-- Whether the transaction in flight is of a kind that `p` picks. -/
def inFlightIs (s : State) (i : SlotIx) (p : TxnKind → Bool) : Bool := s.bays[i].link.kind.any p

def TxnKind.isCap : TxnKind → Bool
  | .capWrite _ _ => true
  | .inventory | .confirm | .shutdown | .status => false

def TxnKind.isStatus : TxnKind → Bool
  | .confirm | .status => true
  | .inventory | .capWrite _ _ | .shutdown => false

/-- SIDEBAND_READ_END (R73): an inventory READ completed or was not acknowledged. -/
def execSidebandReadEnd (i : SlotIx) (r : ReadResult 24) (s : State) : Host.Outcome State Fault Refusal :=
  event s (inFlightIs s i (· == .inventory)) (endInventoryRead i (readBytes r))

/-- CAP_WRITE_END (R80). -/
def execCapWriteEnd (i : SlotIx) (completed : Bool) (s : State) : Host.Outcome State Fault Refusal :=
  simpleEvent s (inFlightIs s i TxnKind.isCap) (endCapWrite i completed)

/-- STATUS_READ_END (R78, R79, R81): a status read completed or was not acknowledged. -/
def execStatusReadEnd (i : SlotIx) (r : ReadResult 8) (s : State) : Host.Outcome State Fault Refusal :=
  event s (inFlightIs s i TxnKind.isStatus) (modBay .stop i fun b => b.endStatusRead s.now ((readBytes r).bind decodeStatus))

/-- SHUTDOWN_WRITE_END (R82): complete or failed, its end is reported alike. -/
def execShutdownWriteEnd (i : SlotIx) (_completed : Bool) (s : State) : Host.Outcome State Fault Refusal :=
  simpleEvent s (inFlightIs s i (· == .shutdown)) (setBay i Bay.shutdownEnd)

/-- A transaction held for more than 25 ms in total (R69) (DESIGN CHOICE, notes/assumptions/2). -/
def heldTooLong (s : State) (i : SlotIx) : Bool :=
  s.bays[i].link.inFlight.any fun t => t.started + Config.holdLimit ≤ s.now

/-- The failure of the transaction in flight, by its kind (R69). -/
def failTransaction (i : SlotIx) (w : Work) : Work :=
  match w.st.bays[i].link.kind with
  | some .inventory => endInventoryRead i none w
  | some (.capWrite _ _) => w.map (endCapWrite i false)
  | some .shutdown => w.map (setBay i Bay.shutdownEnd)
  | some .confirm | some .status => modBay .stop i (fun b => b.endStatusRead w.st.now none) w
  | none => w

/-- TRANSACTION_HELD_TOO_LONG (R69). -/
def execTransactionHeldTooLong (i : SlotIx) (s : State) : Host.Outcome State Fault Refusal :=
  event s (heldTooLong s i) (failTransaction i)

/-! ### Timers -/

/-- CAP_CONFIRM_READY (R80): a confirmation read becomes ready. -/
def execCapConfirmReady (i : SlotIx) (s : State) : Host.Outcome State Fault Refusal :=
  simpleEvent s (s.bays[i].link.confirmDue s.now)
    (setBay i fun b => { b with link := { b.link with cap := b.link.cap.map CapItem.ready } })

/-- CAP_CONFIRM_TIMEOUT (R80). -/
def execCapConfirmTimeout (i : SlotIx) (s : State) : Host.Outcome State Fault Refusal :=
  simpleEvent s (s.bays[i].link.confirmOver s.now) (setBay i fun b => { b with link := b.link.unacked })

/-- HEARTBEAT_EXPIRY (R77). -/
def execHeartbeatExpiry (i : SlotIx) (s : State) : Host.Outcome State Fault Refusal :=
  simpleEvent s (timerDue s.bays[i].link.heartbeat s.now)
    (setBay i fun b => { b with link := b.link.beat (b.link.heartbeat.getD s.now) s.tst })

/-- Whether the compliance hold has run its second (R83). -/
def holdOver (b : Bay) (now : Nat) : Bool :=
  match b.link.hold with
  | .running due => due ≤ now
  | .stopped | .ended => false

/-- COMPLIANCE_HOLD_END (R83). -/
def execComplianceHoldEnd (i : SlotIx) (s : State) : Host.Outcome State Fault Refusal :=
  simpleEvent s (holdOver s.bays[i] s.now) (setBay i fun b => { b with link := { b.link with hold := .ended } })

end Sys2Proof.Machine
end

