-- ==== Sys2Proof/Machine/SlotCommands.lean ====
section
/-! DEFINITION. The meanings of the slot lines and of the slot sequencer's timers (chapter Slot sequencing). -/

namespace Sys2Proof.Machine

/-- The sequencer of slot `i` changed by `f`, with no report. -/
def setSeq (i : SlotIx) (f : Seq → Seq) (s : State) : State := setBay i (fun b => { b with seq := f b.seq }) s

/-! ### Presence -/

/-- PRESENCE_ASSERT (R41, R60): in EMPTY the presence timer starts. -/
def execPresenceAssert (i : SlotIx) (s : State) : Host.Outcome State Fault Refusal :=
  simpleEvent s (s.bays[i].fitted && !s.bays[i].seq.presence) (setSeq i fun q =>
    { q with
      presence := true
      presenceTimer := if q.state == .empty then some (s.now + Config.presenceDebounce) else q.presenceTimer })

/-- SEATING (R41): presence held for 50 ms in EMPTY. -/
def execSeating (i : SlotIx) (s : State) : Host.Outcome State Fault Refusal :=
  event s (s.bays[i].seq.state == .empty && timerDue s.bays[i].seq.presenceTimer s.now)
    (modBay .fault i fun b => b.seat s.now)

/-- PRESENCE_DROP_BEFORE_SEATING (R41). -/
def execPresenceDropBeforeSeating (i : SlotIx) (s : State) : Host.Outcome State Fault Refusal :=
  simpleEvent s (s.bays[i].fitted && s.bays[i].seq.presence && s.bays[i].seq.state == .empty)
    (setSeq i fun q => { q with presence := false, presenceTimer := none })

/-- A presence loss outside EMPTY (R58, R60). -/
def Bay.presenceLost (b : Bay) (now : Nat) : Bay :=
  if b.seq.state == .stuck then b.removeStuck else b.remove now

/-- SURPRISE_REMOVAL (R58, R60). -/
def execSurpriseRemoval (i : SlotIx) (s : State) : Host.Outcome State Fault Refusal :=
  event s (s.bays[i].fitted && s.bays[i].seq.presence && s.bays[i].seq.state != .empty)
    (modBay .fault i fun b => b.presenceLost s.now)

/-! ### Ejector -/

/-- EJECTOR_INPUT_CHANGE (R42): the debounce starts at a level other than the one held, and ends at a return to it. -/
def execEjectorInputChange (i : SlotIx) (opened : Bool) (s : State) : Host.Outcome State Fault Refusal :=
  simpleEvent s (s.bays[i].fitted && s.bays[i].seq.ejectorRaw != opened) (setSeq i fun q =>
    { q with
      ejectorRaw := opened
      ejectorTimer := if opened != q.ejectorOpen then some (s.now + Config.ejectorDebounce) else none })

/-- The ejector's level taken after debounce. -/
def Bay.withEjector (b : Bay) (opened : Bool) : Bay :=
  { b with seq := { b.seq with ejectorOpen := opened, ejectorTimer := none } }

/-- A debounced opening, by state (R55, R57). -/
def Bay.opened (b : Bay) (now : Nat) : Bay :=
  match b.seq.state with
  | .off => b.openedInOff
  | .waitPower | .retryWait | .shedOff => b.toOff now true
  | .ramp => ((b.cut now).toOff now true).setCause .operator
  | .running => b.toDraining now .operator .unseat false
  | .stopping => if b.draining then b.openedInDraining else b
  | .empty | .identify | .latched | .stuck => b

/-- EJECTOR_OPENING (R42, R57). -/
def execEjectorOpening (i : SlotIx) (s : State) : Host.Outcome State Fault Refusal :=
  event s (timerDue s.bays[i].seq.ejectorTimer s.now && s.bays[i].seq.ejectorRaw && !s.bays[i].seq.ejectorOpen)
    (modBay .stop i fun b => (b.withEjector true).opened s.now)

/-- A debounced closing, by state (R42, R54): in OFF with the hold mark the mark is cleared, and under AUTO the slot
enters WAIT_POWER; in the unseating phase the slot enters OFF. -/
def Bay.closed (b : Bay) (now : Nat) : Bay :=
  match b.seq.state with
  | .off =>
    if b.seq.ejectorHold then
      match b.cfg.startPolicy with
      | .auto => b.enter now .waitPower none
      | .hold => { b with seq := { b.seq with ejectorHold := false } }
    else b
  | .stopping => if b.seq.phase == some .unseating then b.toOff now false else b
  | .empty | .identify | .waitPower | .ramp | .running | .retryWait | .latched | .shedOff | .stuck => b

/-- EJECTOR_CLOSING (R42, R54). -/
def execEjectorClosing (i : SlotIx) (s : State) : Host.Outcome State Fault Refusal :=
  event s (timerDue s.bays[i].seq.ejectorTimer s.now && !s.bays[i].seq.ejectorRaw && s.bays[i].seq.ejectorOpen)
    (modBay .fault i fun b => (b.withEjector false).closed s.now)

/-! ### Comparators and faults -/

/-- The overcurrent timer as the in-limit comparator changes (R48): it counts while the slot is powered and the comparator
is asserted, and holds otherwise. -/
def Seq.inLimitChanged (q : Seq) (now : Nat) (powered asserted : Bool) : Seq :=
  if powered then
    { q with
      inLimit := asserted
      ocCount := q.ocAt now
      ocSince := if asserted then some now else none
      gateFreeTimer := if asserted then none else some (now + Config.gateFreePeriod) }
  else { q with inLimit := asserted }

/-- IN_LIMIT_CHANGE (R48). -/
def execInLimitChange (i : SlotIx) (asserted : Bool) (s : State) : Host.Outcome State Fault Refusal :=
  simpleEvent s (s.bays[i].fitted && s.bays[i].seq.inLimit != asserted)
    (setBay i fun b => { b with seq := b.seq.inLimitChanged s.now b.powered asserted })

/-- GATE_FREE_RESET (R48): the count is 0 after each second without the comparator
(DESIGN CHOICE, notes/assumptions/28). -/
def execGateFreeReset (i : SlotIx) (s : State) : Host.Outcome State Fault Refusal :=
  simpleEvent s (timerDue s.bays[i].seq.gateFreeTimer s.now) (setSeq i fun q =>
    { q with ocCount := 0, gateFreeTimer := q.gateFreeTimer.map (· + Config.gateFreePeriod) })

/-- Whether the overcurrent count has reached the fault time (R48). A deassertion taken first at that very instant leaves
no fault until the next assertion (DESIGN CHOICE, notes/assumptions/36). -/
def overcurrentReached (s : State) (i : SlotIx) : Bool :=
  s.bays[i].powered && s.bays[i].seq.ocSince.isSome && s.bays[i].cfg.faultTime ≤ s.bays[i].seq.ocAt s.now

/-- OVERCURRENT_FAULT (R48, R50, R51, R55). -/
def execOvercurrentFault (i : SlotIx) (s : State) : Host.Outcome State Fault Refusal :=
  event s (overcurrentReached s i) (modBay .fault i fun b => b.fault s.now .overcurrent)

/-- SEVERE_OVERCURRENT (R49, R185): a fault of a powered slot; in a warm restart the gate of a slot whose gate is on. -/
def execSevereOvercurrent (i : SlotIx) (s : State) : Host.Outcome State Fault Refusal :=
  if inWarmRestart s then
    .next (cutDuringRestart i s)
  else event s s.bays[i].powered (modBay .fault i fun b => b.fault s.now .severeOc)

/-- RAMP_TIMEOUT (R47, R50). -/
def execRampTimeout (i : SlotIx) (s : State) : Host.Outcome State Fault Refusal :=
  event s (s.bays[i].seq.state == .ramp && timerDue s.bays[i].seq.rampTimer s.now)
    (modBay .fault i fun b => b.fault s.now .rampTimeout)

/-! ### Timers -/

/-- RETRY_TIMER_EXPIRY (R52). -/
def execRetryTimerExpiry (i : SlotIx) (s : State) : Host.Outcome State Fault Refusal :=
  event s (s.bays[i].seq.state == .retryWait && timerDue s.bays[i].seq.retryTimer s.now)
    (modBay .fault i fun b => b.enter s.now .waitPower none)

/-- RETRY_CLEAR_EXPIRY (R51). -/
def execRetryClearExpiry (i : SlotIx) (s : State) : Host.Outcome State Fault Refusal :=
  simpleEvent s (timerDue s.bays[i].seq.retryClearTimer s.now)
    (setSeq i fun q => { q with retryCount := 0, retryClearTimer := none })

/-- GRACEFUL_EXPIRY (R54). -/
def execGracefulExpiry (i : SlotIx) (s : State) : Host.Outcome State Fault Refusal :=
  event s (s.bays[i].draining && timerDue s.bays[i].seq.gracefulTimer s.now)
    (modBay .fault i fun b => b.endDraining s.now)

/-- The end of a stuck check (R59). -/
def Bay.endStuckCheck (b : Bay) (now : Nat) : Bay :=
  let c : Bay := { b with seq := { b.seq with stuckTimer := none } }
  if b.cfg.stuckThreshold < b.meter.amp then c.toStuck now else c

/-- STUCK_CHECK_END (R59). -/
def execStuckCheckEnd (i : SlotIx) (s : State) : Host.Outcome State Fault Refusal :=
  event s (timerDue s.bays[i].seq.stuckTimer s.now) (modBay .stuck i fun b => b.endStuckCheck s.now)

/-- CYCLE_TIMER_EXPIRY (R56). -/
def execCycleTimerExpiry (i : SlotIx) (s : State) : Host.Outcome State Fault Refusal :=
  event s (s.bays[i].seq.state == .off && timerDue s.bays[i].seq.cycleTimer s.now)
    (modBay .fault i fun b => b.enter s.now .waitPower none)

end Sys2Proof.Machine
end

