-- ==== Sys2Proof/Machine/Dispatch.lean ====
section
/-! DEFINITION. One arm per command: each is one direct call of its meaning. -/

namespace Sys2Proof.Machine

/-- The effect of a command on everything but the queue. -/
def exec (i : Instr) (s : State) : Host.Outcome State Fault Refusal :=
  match i with
  | .busIdle others tach0 tach1 => Sys2Proof.Machine.execBusIdle others tach0 tach1 s
  | .readbackMismatchStop => Sys2Proof.Machine.execReadbackMismatchStop s
  | .messageSent ownCheckGood => Sys2Proof.Machine.execMessageSent ownCheckGood s
  | .badCrcFrame => Sys2Proof.Machine.execBadCrcFrame s
  | .foreignFrame => Sys2Proof.Machine.execForeignFrame s
  | .malformedFrame src => Sys2Proof.Machine.execMalformedFrame src s
  | .rollCallReceived src m => Sys2Proof.Machine.execRollCallReceived src m s
  | .standingReceived src m => Sys2Proof.Machine.execStandingReceived src m s
  | .peerClaimReceived src m => Sys2Proof.Machine.execPeerClaimReceived src m s
  | .ownClaimReceipt => Sys2Proof.Machine.execOwnClaimReceipt s
  | .ownClaimBadReceipt => Sys2Proof.Machine.execOwnClaimBadReceipt s
  | .claimDropReceived src m => Sys2Proof.Machine.execClaimDropReceived src m s
  | .supplyAlarmReceived src m => Sys2Proof.Machine.execSupplyAlarmReceived src m s
  | .answerReceived r m => Sys2Proof.Machine.execAnswerReceived r m s
  | .laneBidReceived r m => Sys2Proof.Machine.execLaneBidReceived r m s
  | .laneReturnReceived r m => Sys2Proof.Machine.execLaneReturnReceived r m s
  | .laneOfferReceived r m => Sys2Proof.Machine.execLaneOfferReceived r m s
  | .laneDeferReceived r m => Sys2Proof.Machine.execLaneDeferReceived r m s
  | .laneRefuseReceived r m => Sys2Proof.Machine.execLaneRefuseReceived r m s
  | .laneWithdrawReceived r m => Sys2Proof.Machine.execLaneWithdrawReceived r m s
  | .askInventory r a => Sys2Proof.Machine.execAskInventory r a s
  | .askSlot r a => Sys2Proof.Machine.execAskSlot r a s
  | .askMeter r a => Sys2Proof.Machine.execAskMeter r a s
  | .askSupply r a => Sys2Proof.Machine.execAskSupply r a s
  | .askStation r a => Sys2Proof.Machine.execAskStation r a s
  | .askCounters r a => Sys2Proof.Machine.execAskCounters r a s
  | .askRoll r a => Sys2Proof.Machine.execAskRoll r a s
  | .slotOn h before own after => Sys2Proof.Machine.execSlotOn h before own after s
  | .slotOff h before own after => Sys2Proof.Machine.execSlotOff h before own after s
  | .slotCycle h before own after => Sys2Proof.Machine.execSlotCycle h before own after s
  | .setCeiling h before own after => Sys2Proof.Machine.execSetCeiling h before own after s
  | .clearCeiling h before own after => Sys2Proof.Machine.execClearCeiling h before own after s
  | .clearLatch h before own after => Sys2Proof.Machine.execClearLatch h before own after s
  | .reidentify h before own after => Sys2Proof.Machine.execReidentify h before own after s
  | .clearPeaks h before own after => Sys2Proof.Machine.execClearPeaks h before own after s
  | .setPriority h before own after => Sys2Proof.Machine.execSetPriority h before own after s
  | .forgetStation h before own after => Sys2Proof.Machine.execForgetStation h before own after s
  | .clearAttention h before own after => Sys2Proof.Machine.execClearAttention h before own after s
  | .restart h before own after => Sys2Proof.Machine.execRestart h before own after s
  | .standingTimerExpiry => Sys2Proof.Machine.execStandingTimerExpiry s
  | .crcWindowEnd => Sys2Proof.Machine.execCrcWindowEnd s
  | .refusedReofferTimer k => Sys2Proof.Machine.execRefusedReofferTimer k s
  | .foreignFrameWindowEnd => Sys2Proof.Machine.execForeignFrameWindowEnd s
  | .peerEntersStale a => Sys2Proof.Machine.execPeerEntersStale a s
  | .peerEntersSilent a => Sys2Proof.Machine.execPeerEntersSilent a s
  | .pendingClaimAgeExpiry a => Sys2Proof.Machine.execPendingClaimAgeExpiry a s
  | .refusalBarLift => Sys2Proof.Machine.execRefusalBarLift s
  | .presenceAssert x => Sys2Proof.Machine.execPresenceAssert x s
  | .seating x => Sys2Proof.Machine.execSeating x s
  | .surpriseRemoval x => Sys2Proof.Machine.execSurpriseRemoval x s
  | .ejectorInputChange x opened => Sys2Proof.Machine.execEjectorInputChange x opened s
  | .ejectorOpening x => Sys2Proof.Machine.execEjectorOpening x s
  | .ejectorClosing x => Sys2Proof.Machine.execEjectorClosing x s
  | .meterSample m => Sys2Proof.Machine.execMeterSample m s
  | .meterWindowEnd x m => Sys2Proof.Machine.execMeterWindowEnd x m s
  | .inLimitChange x asserted => Sys2Proof.Machine.execInLimitChange x asserted s
  | .gateFreeReset x => Sys2Proof.Machine.execGateFreeReset x s
  | .overcurrentFault x => Sys2Proof.Machine.execOvercurrentFault x s
  | .severeOvercurrent x => Sys2Proof.Machine.execSevereOvercurrent x s
  | .rampTimeout x => Sys2Proof.Machine.execRampTimeout x s
  | .retryTimerExpiry x => Sys2Proof.Machine.execRetryTimerExpiry x s
  | .retryClearExpiry x => Sys2Proof.Machine.execRetryClearExpiry x s
  | .gracefulExpiry x => Sys2Proof.Machine.execGracefulExpiry x s
  | .stuckCheckEnd x => Sys2Proof.Machine.execStuckCheckEnd x s
  | .cycleTimerExpiry x => Sys2Proof.Machine.execCycleTimerExpiry x s
  | .sidebandTransactionStart x => Sys2Proof.Machine.execSidebandTransactionStart x s
  | .transactionHeldTooLong x => Sys2Proof.Machine.execTransactionHeldTooLong x s
  | .sidebandReadEnd x r => Sys2Proof.Machine.execSidebandReadEnd x r s
  | .capWriteEnd x completed => Sys2Proof.Machine.execCapWriteEnd x completed s
  | .capConfirmReady x => Sys2Proof.Machine.execCapConfirmReady x s
  | .capConfirmTimeout x => Sys2Proof.Machine.execCapConfirmTimeout x s
  | .statusReadEnd x r => Sys2Proof.Machine.execStatusReadEnd x r s
  | .shutdownWriteEnd x completed => Sys2Proof.Machine.execShutdownWriteEnd x completed s
  | .heartbeatExpiry x => Sys2Proof.Machine.execHeartbeatExpiry x s
  | .complianceHoldEnd x => Sys2Proof.Machine.execComplianceHoldEnd x s
  | .outputBlockEnd c m => Sys2Proof.Machine.execOutputBlockEnd c m s
  | .supplyInputChange c which asserted => Sys2Proof.Machine.execSupplyInputChange c which asserted s
  | .supplyPresenceDebounced c => Sys2Proof.Machine.execSupplyPresenceDebounced c s
  | .supplyPowerGoodLost c => Sys2Proof.Machine.execSupplyPowerGoodLost c s
  | .supplyPowerGoodRecovered c => Sys2Proof.Machine.execSupplyPowerGoodRecovered c s
  | .supplyWarningDebounced c => Sys2Proof.Machine.execSupplyWarningDebounced c s
  | .inletReading reading => Sys2Proof.Machine.execInletReading reading s
  | .laneFaultInputChange l asserted => Sys2Proof.Machine.execLaneFaultInputChange l asserted s
  | .laneFaultAsserted l => Sys2Proof.Machine.execLaneFaultAsserted l s
  | .laneFaultCleared l => Sys2Proof.Machine.execLaneFaultCleared l s
  | .latchDiscard k => Sys2Proof.Machine.execLatchDiscard k s
  | .representTimerExpiry x p => Sys2Proof.Machine.execRepresentTimerExpiry x p s
  | .unplacedTimerExpiry x p => Sys2Proof.Machine.execUnplacedTimerExpiry x p s
  | .lostTimerExpiry x p => Sys2Proof.Machine.execLostTimerExpiry x p s
  | .powerOnReset => Sys2Proof.Machine.execPowerOnReset s
  | .powerOnResetEnd straps inp => Sys2Proof.Machine.execPowerOnResetEnd straps inp s
  | .restartInputAssert => Sys2Proof.Machine.execRestartInputAssert s
  | .warmRestartEnd inp => Sys2Proof.Machine.execWarmRestartEnd inp s
  | .censusEnd => Sys2Proof.Machine.execCensusEnd s
  | .presenceDropBeforeSeating x => Sys2Proof.Machine.execPresenceDropBeforeSeating x s

end Sys2Proof.Machine
end

