-- ==== Sys2Proof/Machine/Step.lean ====
section
/-! DEFINITION. One step: the command at the front of the queue, or, on an empty queue, one millisecond of time. -/

namespace Sys2Proof.Machine

/-- The queue replaced. -/
def State.withQueue (s : State) (q : List Instr) : State := { s with pending := q }

/-- One step of the block (DESIGN CHOICE, notes/assumptions/1). -/
def step (s : State) : Host.Outcome State Fault Refusal :=
  match s.pending with
  | [] => .next (tick s)
  | c :: rest => exec c (s.withQueue rest)

/-- The command a word spells put at the front of the queue. No row of the table has bits, so no word spells one, and the
state is unchanged (DESIGN CHOICE, notes/assumptions/26). -/
def State.withFetchWord (s : State) (nbits w : Nat) : State :=
  match decodeTableWord nbits w with
  | some c => s.withQueue (c :: s.pending)
  | none => s

end Sys2Proof.Machine
end

