-- ==== Sys2Proof/WellFormed.lean ====
section
/-! DEFINITION. Well-formed commands: every number fits the field that carries it on the wire (chapter 12), every list fits
its count field, and an ORDER's list holds what its frame can carry. The values themselves may still be out of the
range a rule gives: such frames are commands like any other (R190). -/

namespace Sys2Proof

/-- A number that fits one byte. -/
def fits8 (n : Nat) : Bool := n < 256

/-- A number that fits two bytes. -/
def fits16 (n : Nat) : Bool := n < 65536

/-- A number that fits four bits. -/
def fits4 (n : Nat) : Bool := n < 16

def TrunkRole.wellFormed (t : TrunkRole) : Bool := fits4 t.lanes

/-- Counts of two bits; the lists are as long as their counts say, at most 3. -/
def RollCall.wellFormed (m : RollCall) : Bool :=
  fits8 m.roles.slotCount && m.roles.fans.length < 4 && m.roles.supplies.length < 4 &&
    m.roles.trunk.all TrunkRole.wellFormed && fits16 m.digest

def SupplyRecord.wellFormed (r : SupplyRecord) : Bool := fits16 r.rated && fits16 r.output

def TrunkSummary.wellFormed (t : TrunkSummary) : Bool := fits4 t.lanes && fits8 t.free

/-- Counts of three, two and two bits; the payload holds at most 32 bytes. -/
def Standing.wellFormed (m : Standing) : Bool :=
  fits16 m.committed && fits16 m.ceiling && m.zones.length < 8 && m.fans.length < 4 && m.supplies.length < 4 &&
    m.zones.all (fun z => fits8 z.zone && fits8 z.demand) && m.supplies.all SupplyRecord.wellFormed &&
    m.trunk.all TrunkSummary.wellFormed &&
    9 + 2 * m.zones.length + m.fans.length + 5 * m.supplies.length + (if m.trunk.isSome then 2 else 0) ≤ 32

def ClaimMsg.wellFormed (m : ClaimMsg) : Bool := fits16 m.watts && fits4 m.slot && fits4 m.kind

def ClaimDropMsg.wellFormed (m : ClaimDropMsg) : Bool := fits8 m.reason

def AlarmMsg.wellFormed (m : AlarmMsg) : Bool := fits16 m.rated

def BidMsg.wellFormed (m : BidMsg) : Bool := fits8 m.lanes

def OfferMsg.wellFormed (m : OfferMsg) : Bool := fits8 m.module && fits8 m.first && fits8 m.lanes

def DeferMsg.wellFormed (m : DeferMsg) : Bool := fits8 m.module

def RefuseMsg.wellFormed (m : RefuseMsg) : Bool := fits8 m.module && fits8 m.reason

def ReturnMsg.wellFormed (m : ReturnMsg) : Bool := fits8 m.module && fits8 m.first && fits8 m.lanes

def WithdrawMsg.wellFormed (m : WithdrawMsg) : Bool :=
  fits8 m.module && fits8 m.first && fits8 m.lanes && fits8 m.reason

def AskMsg.wellFormed (m : AskMsg) : Bool := fits8 m.topic && fits8 m.selector && fits8 m.chunk

def AnswerMsg.wellFormed (m : AnswerMsg) : Bool := fits4 m.topic && m.data.length ≤ 31

def OrderAction.wellFormed (x : OrderAction) : Bool := fits8 x.code && fits8 x.target && fits16 x.value

/-- A payload of at most 32 bytes carries at most seven actions (R190). -/
def OrderMsg.wellFormed (m : OrderMsg) : Bool := m.actions.length ≤ 7 && m.actions.all OrderAction.wellFormed

def AskOperands.wellFormed (a : AskOperands) : Bool := fits8 a.selector && fits8 a.chunk

/-- How many actions stand at an order row's own place. -/
def OwnAction.length : OwnAction → Nat
  | .act _ _ | .unknownCode _ _ _ => 1
  | .absent => 0

def OwnAction.wellFormed : OwnAction → Bool
  | .act target value => fits8 target && fits16 value
  | .unknownCode beyond target value => beyond + 12 < 256 && fits8 target && fits16 value
  | .absent => true

/-- An order row's list: at most seven actions, each well formed; with nothing at the row's own place the list is
empty. -/
def orderListWellFormed (before : List OrderAction) (own : OwnAction) (after : List OrderAction) : Bool :=
  before.length + own.length + after.length ≤ 7 && before.all OrderAction.wellFormed &&
    after.all OrderAction.wellFormed && own.wellFormed &&
    (own.length == 1 || (before.isEmpty && after.isEmpty))

/-- Well-formedness of a command. -/
def Instr.wellFormed (i : Instr) : Bool :=
  match i with
  | .busIdle _ _ _ => true
  | .readbackMismatchStop => true
  | .messageSent _ => true
  | .badCrcFrame => true
  | .foreignFrame => true
  | .malformedFrame _ => true
  | .rollCallReceived _ m => m.wellFormed
  | .standingReceived _ m => m.wellFormed
  | .peerClaimReceived _ m => m.wellFormed
  | .ownClaimReceipt => true
  | .ownClaimBadReceipt => true
  | .claimDropReceived _ m => m.wellFormed
  | .supplyAlarmReceived _ m => m.wellFormed
  | .answerReceived _ m => m.wellFormed
  | .laneBidReceived _ m => m.wellFormed
  | .laneReturnReceived _ m => m.wellFormed
  | .laneOfferReceived _ m => m.wellFormed
  | .laneDeferReceived _ m => m.wellFormed
  | .laneRefuseReceived _ m => m.wellFormed
  | .laneWithdrawReceived _ m => m.wellFormed
  | .askInventory _ a => a.wellFormed
  | .askSlot _ a => a.wellFormed
  | .askMeter _ a => a.wellFormed
  | .askSupply _ a => a.wellFormed
  | .askStation _ a => a.wellFormed
  | .askCounters _ a => a.wellFormed
  | .askRoll _ a => a.wellFormed
  | .slotOn _ b o a => orderListWellFormed b o a
  | .slotOff _ b o a => orderListWellFormed b o a
  | .slotCycle _ b o a => orderListWellFormed b o a
  | .setCeiling _ b o a => orderListWellFormed b o a
  | .clearCeiling _ b o a => orderListWellFormed b o a
  | .clearLatch _ b o a => orderListWellFormed b o a
  | .reidentify _ b o a => orderListWellFormed b o a
  | .clearPeaks _ b o a => orderListWellFormed b o a
  | .setPriority _ b o a => orderListWellFormed b o a
  | .forgetStation _ b o a => orderListWellFormed b o a
  | .clearAttention _ b o a => orderListWellFormed b o a
  | .restart _ b o a => orderListWellFormed b o a
  | .standingTimerExpiry => true
  | .crcWindowEnd => true
  | .refusedReofferTimer _ => true
  | .foreignFrameWindowEnd => true
  | .peerEntersStale _ => true
  | .peerEntersSilent _ => true
  | .pendingClaimAgeExpiry _ => true
  | .refusalBarLift => true
  | .presenceAssert _ => true
  | .seating _ => true
  | .surpriseRemoval _ => true
  | .ejectorInputChange _ _ => true
  | .ejectorOpening _ => true
  | .ejectorClosing _ => true
  | .meterSample _ => true
  | .meterWindowEnd _ _ => true
  | .inLimitChange _ _ => true
  | .gateFreeReset _ => true
  | .overcurrentFault _ => true
  | .severeOvercurrent _ => true
  | .rampTimeout _ => true
  | .retryTimerExpiry _ => true
  | .retryClearExpiry _ => true
  | .gracefulExpiry _ => true
  | .stuckCheckEnd _ => true
  | .cycleTimerExpiry _ => true
  | .sidebandTransactionStart _ => true
  | .transactionHeldTooLong _ => true
  | .sidebandReadEnd _ _ => true
  | .capWriteEnd _ _ => true
  | .capConfirmReady _ => true
  | .capConfirmTimeout _ => true
  | .statusReadEnd _ _ => true
  | .shutdownWriteEnd _ _ => true
  | .heartbeatExpiry _ => true
  | .complianceHoldEnd _ => true
  | .outputBlockEnd _ _ => true
  | .supplyInputChange _ _ _ => true
  | .supplyPresenceDebounced _ => true
  | .supplyPowerGoodLost _ => true
  | .supplyPowerGoodRecovered _ => true
  | .supplyWarningDebounced _ => true
  | .inletReading _ => true
  | .laneFaultInputChange _ _ => true
  | .laneFaultAsserted _ => true
  | .laneFaultCleared _ => true
  | .latchDiscard _ => true
  | .representTimerExpiry _ _ => true
  | .unplacedTimerExpiry _ _ => true
  | .lostTimerExpiry _ _ => true
  | .powerOnReset => true
  | .powerOnResetEnd _ _ => true
  | .restartInputAssert => true
  | .warmRestartEnd _ => true
  | .censusEnd => true
  | .presenceDropBeforeSeating _ => true

end Sys2Proof
end

