-- ==== Sys2Proof/Machine/Layouts.lean ====
section
/-! DEFINITION. The peer bus frame byte by byte: payloads, CRC, the check of form, and the command that a frame spells
(sections 12.1 and 12.2, R190). A frame is the list of its bytes from byte 0 onward. -/

namespace Sys2Proof.Machine

/-! ### Messages -/

/-- The fourteen kinds, in the order of their codes (section 1.4). -/
inductive MsgKind where
  | rollCall | standing | claim | claimDrop | supplyAlarm | laneBid | laneOffer | laneDefer | laneRefuse
  | laneReturn | laneWithdraw | ask | answer | order
  deriving DecidableEq, Repr

/-- A message's content. -/
inductive Message where
  | rollCall (m : RollCall)
  | standing (m : Standing)
  | claim (m : ClaimMsg)
  | claimDrop (m : ClaimDropMsg)
  | supplyAlarm (m : AlarmMsg)
  | laneBid (m : BidMsg)
  | laneOffer (m : OfferMsg)
  | laneDefer (m : DeferMsg)
  | laneRefuse (m : RefuseMsg)
  | laneReturn (m : ReturnMsg)
  | laneWithdraw (m : WithdrawMsg)
  | ask (m : AskMsg)
  | answer (m : AnswerMsg)
  | order (m : OrderMsg)
  deriving DecidableEq, Repr

/-- Code of a kind (section 12.1). -/
def MsgKind.code : MsgKind → Nat
  | .rollCall => 0
  | .standing => 1
  | .claim => 2
  | .claimDrop => 3
  | .supplyAlarm => 4
  | .laneBid => 5
  | .laneOffer => 6
  | .laneDefer => 7
  | .laneRefuse => 8
  | .laneReturn => 9
  | .laneWithdraw => 10
  | .ask => 11
  | .answer => 12
  | .order => 13

/-- The kind of a code; 14 and 15 are none (R190). -/
def kindOf : Nat → Option MsgKind
  | 0 => some .rollCall
  | 1 => some .standing
  | 2 => some .claim
  | 3 => some .claimDrop
  | 4 => some .supplyAlarm
  | 5 => some .laneBid
  | 6 => some .laneOffer
  | 7 => some .laneDefer
  | 8 => some .laneRefuse
  | 9 => some .laneReturn
  | 10 => some .laneWithdraw
  | 11 => some .ask
  | 12 => some .answer
  | 13 => some .order
  | _ => none

def Message.kind : Message → MsgKind
  | .rollCall _ => .rollCall
  | .standing _ => .standing
  | .claim _ => .claim
  | .claimDrop _ => .claimDrop
  | .supplyAlarm _ => .supplyAlarm
  | .laneBid _ => .laneBid
  | .laneOffer _ => .laneOffer
  | .laneDefer _ => .laneDefer
  | .laneRefuse _ => .laneRefuse
  | .laneReturn _ => .laneReturn
  | .laneWithdraw _ => .laneWithdraw
  | .ask _ => .ask
  | .answer _ => .answer
  | .order _ => .order

/-- Class of a kind (section 1.4). -/
def MsgKind.cls : MsgKind → MsgClass
  | .supplyAlarm => .urgent
  | .rollCall | .standing | .ask | .answer => .routine
  | .claim | .claimDrop | .laneBid | .laneOffer | .laneDefer | .laneRefuse | .laneReturn | .laneWithdraw | .order =>
    .control

/-- Whether a kind carries a destination (section 1.4). -/
def MsgKind.destined : MsgKind → Bool
  | .rollCall | .standing | .claim | .claimDrop | .supplyAlarm => false
  | .laneBid | .laneOffer | .laneDefer | .laneRefuse | .laneReturn | .laneWithdraw | .ask | .answer | .order => true

/-- Well-formedness of a message: every number fits its field. -/
def Message.wellFormed : Message → Bool
  | .rollCall m => m.wellFormed
  | .standing m => m.wellFormed
  | .claim m => m.wellFormed
  | .claimDrop m => m.wellFormed
  | .supplyAlarm m => m.wellFormed
  | .laneBid m => m.wellFormed
  | .laneOffer m => m.wellFormed
  | .laneDefer m => m.wellFormed
  | .laneRefuse m => m.wellFormed
  | .laneReturn m => m.wellFormed
  | .laneWithdraw m => m.wellFormed
  | .ask m => m.wellFormed
  | .answer m => m.wellFormed
  | .order m => m.wellFormed

/-! ### Codes and their readings -/

def feedOf (n : Nat) : Feed := if n % 2 = 0 then .a else .b

def supplyStateOf (n : Nat) : SupplyState :=
  match n % 4 with
  | 0 => .absent
  | 1 => .ok
  | 2 => .degraded
  | _ => .failed

def answerStatusCode : AnswerStatus → Nat
  | .ok => 0
  | .notYet => 1
  | .noSuch => 2
  | .refused => 3

def answerStatusOf (n : Nat) : AnswerStatus :=
  match n % 4 with
  | 0 => .ok
  | 1 => .notYet
  | 2 => .noSuch
  | _ => .refused

def condSourceCode : CondSource → Nat
  | .none => 0
  | .deficit => 1
  | .coolingDegraded => 2
  | .redundancyLost => 3

def condSourceOf (n : Nat) : CondSource :=
  match n % 4 with
  | 0 => .none
  | 1 => .deficit
  | 2 => .coolingDegraded
  | _ => .redundancyLost

/-- `n` entries of `size` bytes each, from the front of a list. -/
def entriesOf (size : Nat) : Nat → List Byte → List (List Byte)
  | 0, _ => []
  | n + 1, l => l.take size :: entriesOf size n (l.drop size)

/-! ### Payloads written (section 12.2) -/

def fanRoleBytes (f : FanRole) : List Byte := [byteOf (128 * f.channel.val + f.zone.val)]

def supplyRoleBytes (f : SupplyRole) : List Byte := [byteOf (128 * f.channel.val + f.feed.code)]

def trunkRoleBytes (t : TrunkRole) : List Byte := [byteOf (64 * t.module.val + t.lanes)]

def rollCallBytes (m : RollCall) : List Byte :=
  [m.epoch, byteOf m.roles.slotCount,
    byteOf (flagBit 7 m.roles.operator + flagBit 6 m.roles.trunk.isSome + 4 * m.roles.fans.length +
      m.roles.supplies.length)] ++
    m.roles.fans.flatMap fanRoleBytes ++ m.roles.supplies.flatMap supplyRoleBytes ++
    m.roles.trunk.toList.flatMap trunkRoleBytes ++ be16 m.digest

def zoneBytes (z : ZoneDemand) : List Byte := [byteOf z.zone, byteOf z.demand]

def fanEntryBytes (f : FanEntry) : List Byte := [byteOf (2 * f.zone.val + (if f.health = .failed then 1 else 0))]

def summaryBytes (t : TrunkSummary) : List Byte := [byteOf (64 * t.module.val + t.lanes), byteOf t.free]

def standingBytes (m : Standing) : List Byte :=
  [m.epoch, m.sequence] ++ be16 m.committed ++ be16 m.ceiling ++
    [m.folded, byteOf (flagBit 2 m.deficit + flagBit 1 m.redundancyLost + flagBit 0 m.coolingDegraded),
      byteOf (32 * m.zones.length + 8 * m.fans.length + 2 * m.supplies.length + flagBit 0 m.trunk.isSome)] ++
    m.zones.flatMap zoneBytes ++ m.fans.flatMap fanEntryBytes ++ m.supplies.flatMap supplyBytes ++
    m.trunk.toList.flatMap summaryBytes

def claimBytes (m : ClaimMsg) : List Byte := [m.number] ++ be16 m.watts ++ [byteOf (16 * m.slot + m.kind)]

def claimDropBytes (m : ClaimDropMsg) : List Byte := [m.number, byteOf m.reason]

def alarmBytes (m : AlarmMsg) : List Byte := byteOf (128 * m.channel.val + m.state.code) :: be16 m.rated

def bidBytes (m : BidMsg) : List Byte :=
  [byteOf (64 * m.module.val + 16 * m.slot.val + 4 * m.port.val), byteOf m.lanes, m.tag]

def offerBytes (m : OfferMsg) : List Byte := [byteOf m.module, m.tag, byteOf m.first, byteOf m.lanes]

def deferBytes (m : DeferMsg) : List Byte := [byteOf m.module, m.tag]

def refuseBytes (m : RefuseMsg) : List Byte := [byteOf m.module, m.tag, byteOf m.reason]

def returnBytes (m : ReturnMsg) : List Byte := [byteOf m.module, byteOf m.first, byteOf m.lanes]

def withdrawBytes (m : WithdrawMsg) : List Byte := [byteOf m.module, byteOf m.first, byteOf m.lanes, byteOf m.reason]

def askBytes (m : AskMsg) : List Byte := [byteOf m.topic, byteOf m.selector, byteOf m.chunk]

def answerBytes (m : AnswerMsg) : List Byte := byteOf (16 * m.topic + answerStatusCode m.status) :: m.data

def actionBytes (x : OrderAction) : List Byte := [byteOf x.code, byteOf x.target] ++ be16 x.value

def orderBytes (m : OrderMsg) : List Byte :=
  [byteOf (64 * condSourceCode m.cond + m.pattern.toNat), byteOf m.actions.length] ++ m.actions.flatMap actionBytes

/-- The payload of a message. -/
def payloadOf : Message → List Byte
  | .rollCall m => rollCallBytes m
  | .standing m => standingBytes m
  | .claim m => claimBytes m
  | .claimDrop m => claimDropBytes m
  | .supplyAlarm m => alarmBytes m
  | .laneBid m => bidBytes m
  | .laneOffer m => offerBytes m
  | .laneDefer m => deferBytes m
  | .laneRefuse m => refuseBytes m
  | .laneReturn m => returnBytes m
  | .laneWithdraw m => withdrawBytes m
  | .ask m => askBytes m
  | .answer m => answerBytes m
  | .order m => orderBytes m

/-! ### Payloads read; `none` where the length is not the one the layout gives for the counts carried (R190)
(DEDUCED, notes/assumptions/27) -/
def fanRoleOf (l : List Byte) : FanRole := ⟨indexOf 1 (natAt l 0 / 128), indexOf 3 (natAt l 0 % 4)⟩

def supplyRoleOf (l : List Byte) : SupplyRole := ⟨indexOf 1 (natAt l 0 / 128), feedOf (natAt l 0)⟩

def trunkRoleOf (l : List Byte) : TrunkRole := ⟨indexOf 3 (natAt l 0 / 64), natAt l 0 % 16⟩

def rollCallOf (l : List Byte) : Option RollCall :=
  let c := natAt l 2
  let fans := c / 4 % 4
  let supplies := c % 4
  let trunk := c / 64 % 2
  if l.length = 5 + fans + supplies + trunk then
    let afterFans := (l.drop 3).drop fans
    let afterSupplies := afterFans.drop supplies
    some {
      epoch := l.getD 0 0
      roles := {
        slotCount := natAt l 1
        fans := (entriesOf 1 fans (l.drop 3)).map fanRoleOf
        supplies := (entriesOf 1 supplies afterFans).map supplyRoleOf
        trunk := if trunk = 1 then some (trunkRoleOf afterSupplies) else none
        operator := c / 128 == 1 }
      digest := be16At (afterSupplies.drop trunk) 0 }
  else none

def zoneDemandOf (l : List Byte) : ZoneDemand := ⟨natAt l 0, natAt l 1⟩

def fanEntryOf (l : List Byte) : FanEntry :=
  ⟨indexOf 3 (natAt l 0 / 2 % 4), if natAt l 0 % 2 = 1 then .failed else .ok⟩

def supplyRecordOf (l : List Byte) : SupplyRecord :=
  ⟨feedOf (natAt l 0 / 128), supplyStateOf (natAt l 0), be16At l 1, be16At l 3⟩

def summaryOf (l : List Byte) : TrunkSummary := ⟨indexOf 3 (natAt l 0 / 64), natAt l 0 % 16, natAt l 1⟩

def standingOf (l : List Byte) : Option Standing :=
  let flags := natAt l 7
  let c := natAt l 8
  let zones := c / 32
  let fans := c / 8 % 4
  let supplies := c / 2 % 4
  let trunk := c % 2
  if 9 ≤ l.length ∧ l.length = 9 + 2 * zones + fans + 5 * supplies + 2 * trunk then
    let afterZones := (l.drop 9).drop (2 * zones)
    let afterFans := afterZones.drop fans
    let afterSupplies := afterFans.drop (5 * supplies)
    some {
      epoch := l.getD 0 0
      sequence := l.getD 1 0
      committed := be16At l 2
      ceiling := be16At l 4
      folded := l.getD 6 0
      deficit := flags / 4 % 2 == 1
      redundancyLost := flags / 2 % 2 == 1
      coolingDegraded := flags % 2 == 1
      zones := (entriesOf 2 zones (l.drop 9)).map zoneDemandOf
      fans := (entriesOf 1 fans afterZones).map fanEntryOf
      supplies := (entriesOf 5 supplies afterFans).map supplyRecordOf
      trunk := if trunk = 1 then some (summaryOf afterSupplies) else none }
  else none

def claimOf (l : List Byte) : Option ClaimMsg :=
  if l.length = 4 then some ⟨l.getD 0 0, be16At l 1, natAt l 3 / 16, natAt l 3 % 16⟩ else none

def claimDropOf (l : List Byte) : Option ClaimDropMsg :=
  if l.length = 2 then some ⟨l.getD 0 0, natAt l 1⟩ else none

def alarmOf (l : List Byte) : Option AlarmMsg :=
  if l.length = 3 then some ⟨indexOf 1 (natAt l 0 / 128), supplyStateOf (natAt l 0), be16At l 1⟩ else none

def bidOf (l : List Byte) : Option BidMsg :=
  if l.length = 3 then
    some ⟨indexOf 3 (natAt l 0 / 64), indexOf 3 (natAt l 0 / 16 % 4), indexOf 3 (natAt l 0 / 4 % 4), natAt l 1,
      l.getD 2 0⟩
  else none

def offerMsgOf (l : List Byte) : Option OfferMsg :=
  if l.length = 4 then some ⟨natAt l 0, l.getD 1 0, natAt l 2, natAt l 3⟩ else none

def deferMsgOf (l : List Byte) : Option DeferMsg :=
  if l.length = 2 then some ⟨natAt l 0, l.getD 1 0⟩ else none

def refuseMsgOf (l : List Byte) : Option RefuseMsg :=
  if l.length = 3 then some ⟨natAt l 0, l.getD 1 0, natAt l 2⟩ else none

def returnMsgOf (l : List Byte) : Option ReturnMsg :=
  if l.length = 3 then some ⟨natAt l 0, natAt l 1, natAt l 2⟩ else none

def withdrawMsgOf (l : List Byte) : Option WithdrawMsg :=
  if l.length = 4 then some ⟨natAt l 0, natAt l 1, natAt l 2, natAt l 3⟩ else none

def askMsgOf (l : List Byte) : Option AskMsg :=
  if l.length = 3 then some ⟨natAt l 0, natAt l 1, natAt l 2⟩ else none

def answerMsgOf (l : List Byte) : Option AnswerMsg :=
  match l with
  | b :: data => if data.length ≤ 31 then some ⟨b.toNat / 16, answerStatusOf b.toNat, data⟩ else none
  | [] => none

def actionEntryOf (l : List Byte) : OrderAction := ⟨natAt l 0, natAt l 1, be16At l 2⟩

def orderMsgOf (l : List Byte) : Option OrderMsg :=
  if 2 ≤ l.length ∧ l.length = 2 + 4 * natAt l 1 then
    some ⟨condSourceOf (natAt l 0 / 64), BitVec.ofNat 4 (natAt l 0 % 16),
      (entriesOf 4 (natAt l 1) (l.drop 2)).map actionEntryOf⟩
  else none

/-- The message that a payload of a kind spells. -/
def messageOf (k : MsgKind) (l : List Byte) : Option Message :=
  match k with
  | .rollCall => (rollCallOf l).map .rollCall
  | .standing => (standingOf l).map .standing
  | .claim => (claimOf l).map .claim
  | .claimDrop => (claimDropOf l).map .claimDrop
  | .supplyAlarm => (alarmOf l).map .supplyAlarm
  | .laneBid => (bidOf l).map .laneBid
  | .laneOffer => (offerMsgOf l).map .laneOffer
  | .laneDefer => (deferMsgOf l).map .laneDefer
  | .laneRefuse => (refuseMsgOf l).map .laneRefuse
  | .laneReturn => (returnMsgOf l).map .laneReturn
  | .laneWithdraw => (withdrawMsgOf l).map .laneWithdraw
  | .ask => (askMsgOf l).map .ask
  | .answer => (answerMsgOf l).map .answer
  | .order => (orderMsgOf l).map .order

/-! ### The CRC (section 12.1) -/

/-- One bit entered, with the generator x^16 + x^12 + x^5 + 1. -/
def crcBit (c : BitVec 16) (b : Bool) : BitVec 16 := if c.msb != b then (c <<< 1) ^^^ 0x1021#16 else c <<< 1

/-- One byte entered, its most significant bit first. -/
def crcByte (c : BitVec 16) (b : Byte) : BitVec 16 :=
  [7, 6, 5, 4, 3, 2, 1, 0].foldl (fun c k => crcBit c (b.getLsbD k)) c

/-- The CRC of a list of bytes: initial value 0xFFFF, no inversion. -/
def crcOf (l : List Byte) : BitVec 16 := l.foldl crcByte 0xFFFF#16

/-! ### The frame (section 12.1) -/

/-- Bytes 0 to 2 and the payload. -/
def frameBody (src : Addr) (dst : Option Addr) (m : Message) : List Byte :=
  [byteOf (64 * classRank m.kind.cls + 4 * src.val + flagBit 1 dst.isSome),
    byteOf (16 * (dst.map (·.val)).getD 0 + m.kind.code), byteOf (payloadOf m).length] ++ payloadOf m

/-- The bytes of a frame. -/
def frameBytes (src : Addr) (dst : Option Addr) (m : Message) : List Byte :=
  let body := frameBody src dst m
  body ++ be16 (crcOf body).toNat

/-- The source address that a frame's byte 0 carries. -/
def frameSource (l : List Byte) : Addr := indexOf 15 (natAt l 0 / 4 % 16)

/-- The destination that a frame carries, `none` when it is absent. -/
def frameDestination (l : List Byte) : Option Addr :=
  if natAt l 0 / 2 % 2 = 1 then some (indexOf 15 (natAt l 1 / 16)) else none

/-- A frame passes its check when the CRC computed on receipt equals the one received; a frame that ended before its CRC
fails, and so does one with bytes after it (DEDUCED, notes/assumptions/27). -/
def framePasses (l : List Byte) : Bool :=
  l.length == natAt l 2 + 5 && be16At (l.drop (natAt l 2 + 3)) 0 == (crcOf (l.take (natAt l 2 + 3))).toNat

/-- The message of a frame that has passed its check, or `none` when the frame is malformed (R190): its kind code names no
kind, its length is above 32, its class or its destination presence is not its kind's, or its length is not the one the
layout gives. Bit 0 of byte 0, and the destination nibble of a frame without a destination, are ignored
(DEDUCED, notes/assumptions/27). -/
def frameMessage (l : List Byte) : Option Message :=
  match kindOf (natAt l 1 % 16) with
  | some k =>
    if natAt l 2 ≤ 32 ∧ natAt l 0 / 64 = classRank k.cls ∧ (frameDestination l).isSome = k.destined then
      messageOf k ((l.drop 3).take (natAt l 2))
    else none
  | none => none

/-! ### The command that a frame spells -/

/-- The command of an ASK: the row of its topic, or, for a topic that is none of the seven, the first ASK row with its
unknown-topic case (R18) (DESIGN CHOICE, notes/assumptions/27). -/
def askCommand (r : Route) (m : AskMsg) : Instr :=
  let a : AskOperands := ⟨6 < m.topic, m.selector, m.chunk⟩
  match m.topic with
  | 1 => .askSlot r a
  | 2 => .askMeter r a
  | 3 => .askSupply r a
  | 4 => .askStation r a
  | 5 => .askCounters r a
  | 6 => .askRoll r a
  | _ => .askInventory r a

/-- The command of an ORDER: the row of its first action, with the rest of its list behind; an unknown code or an empty
list stands in the first order row (R174, R176) (DESIGN CHOICE, notes/assumptions/27). -/
def orderCommand (r : Route) (m : OrderMsg) : Instr :=
  let h : OrderHead := ⟨r, m.cond, m.pattern⟩
  match m.actions with
  | [] => .slotOn h [] .absent []
  | x :: rest =>
    let own : OwnAction := .act x.target x.value
    match actionOf x.code with
    | some .slotOn => .slotOn h [] own rest
    | some .slotOff => .slotOff h [] own rest
    | some .slotCycle => .slotCycle h [] own rest
    | some .setCeiling => .setCeiling h [] own rest
    | some .clearCeiling => .clearCeiling h [] own rest
    | some .clearLatch => .clearLatch h [] own rest
    | some .reidentify => .reidentify h [] own rest
    | some .clearPeaks => .clearPeaks h [] own rest
    | some .setPriority => .setPriority h [] own rest
    | some .forgetStation => .forgetStation h [] own rest
    | some .clearAttention => .clearAttention h [] own rest
    | some .restart => .restart h [] own rest
    | none => .slotOn h [] (.unknownCode (x.code - 12) x.target x.value) rest

/-- The command of a message received from `src`. -/
def commandOf (src : Addr) (dst : Option Addr) (m : Message) : Instr :=
  let r : Route := ⟨src, dst.getD 0⟩
  match m with
  | .rollCall m => .rollCallReceived src m
  | .standing m => .standingReceived src m
  | .claim m => .peerClaimReceived src m
  | .claimDrop m => .claimDropReceived src m
  | .supplyAlarm m => .supplyAlarmReceived src m
  | .laneBid m => .laneBidReceived r m
  | .laneOffer m => .laneOfferReceived r m
  | .laneDefer m => .laneDeferReceived r m
  | .laneRefuse m => .laneRefuseReceived r m
  | .laneReturn m => .laneReturnReceived r m
  | .laneWithdraw m => .laneWithdrawReceived r m
  | .ask m => askCommand r m
  | .answer m => .answerReceived r m
  | .order m => orderCommand r m

/-- The command that a frame from another sender spells (R3, R190). -/
def frameCommand (l : List Byte) : Instr :=
  if framePasses l then
    match frameMessage l with
    | some m => commandOf (frameSource l) (frameDestination l) m
    | none => .malformedFrame (frameSource l)
  else .badCrcFrame

/-! ### The station's own frames -/

/-- Destination and content of a message whose fields were fixed when it was offered; the kinds whose content is fixed at
the win have none here (R8). -/
def outgoingMessage : Outgoing → Option (Option Addr × Message)
  | .rollCall | .standing | .claim .. => none
  | .claimDrop number reason => some (none, .claimDrop ⟨number, reason.code⟩)
  | .supplyAlarm channel state rated => some (none, .supplyAlarm ⟨channel, state, rated⟩)
  | .laneBid dst m => some (some dst, .laneBid m)
  | .laneOffer dst m => some (some dst, .laneOffer m)
  | .laneDefer dst m => some (some dst, .laneDefer m)
  | .laneRefuse dst m => some (some dst, .laneRefuse m)
  | .laneReturn dst m => some (some dst, .laneReturn m)
  | .laneWithdraw dst m => some (some dst, .laneWithdraw m)
  | .askRoll dst => some (some dst, .ask ⟨6, 0, 0⟩)
  | .answer dst m _ => some (some dst, .answer m)

/-- Destination and content of the message that has won the bus. -/
def onBusMessage : OnBus → Option (Option Addr × Message)
  | .rollCall m => some (none, .rollCall m)
  | .standing m => some (none, .standing m)
  | .claim m => some (none, .claim m)
  | .fixed m => outgoingMessage m

/-- The bytes of the frame that the station is sending. -/
def sentFrame (s : State) : Option (List Byte) :=
  s.bus.onBus.bind fun x => (onBusMessage x.2).map fun y => frameBytes s.address y.1 y.2

end Sys2Proof.Machine
end

