-- ==== Sys2Proof/Safety.lean ====
section
/-! DEFINITION. The terms the claims use: what the delivery of reports may not touch, and what holds of the block in
every state that a run reaches. -/

namespace Sys2Proof.Machine

/-! ### What the neighbours' part of a command leaves alone -/

/-- What a move of one bay that a neighbour asks for leaves alone. A bay that is not powered keeps its whole slot record,
but for the operator ceiling where a setting waits for it. -/
structure BayKept (a b : Bay) : Prop where
  fitted : b.fitted = a.fitted
  cfg : b.cfg = a.cfg
  meter : b.meter = a.meter
  record : b.link.record = a.link.record
  inventory : b.link.inventory = a.link.inventory
  health : b.link.health = a.link.health
  failures : b.link.failures = a.link.failures
  margin : b.link.margin = a.link.margin
  bladeState : b.link.bladeState = a.link.bladeState
  lastCap : b.link.lastCap = a.link.lastCap
  capUnacked : b.link.capUnacked = a.link.capUnacked
  presence : b.seq.presence = a.seq.presence
  standby : b.seq.standby = a.seq.standby
  ejectorRaw : b.seq.ejectorRaw = a.seq.ejectorRaw
  ejectorOpen : b.seq.ejectorOpen = a.seq.ejectorOpen
  inLimit : b.seq.inLimit = a.seq.inLimit
  retryCount : b.seq.retryCount = a.seq.retryCount
  priority : b.seq.priority = a.seq.priority
  seated : b.seq.state = .empty ↔ a.seq.state = .empty
  unpowered : a.powered = false →
    (a.seq.pendingOp = none → b.seq = a.seq) ∧ ∃ c p, b.seq = { a.seq with opCeiling := c, pendingOp := p }

/-- What the bus port keeps while CONTROL messages are offered and withdrawn. -/
structure BusKept (a b : BusPort) : Prop where
  urgent : b.urgent = a.urgent
  routine : b.routine = a.routine
  onBus : b.onBus = a.onBus
  lastServed : b.lastServed = a.lastServed
  sequence : b.sequence = a.sequence
  standingDue : b.standingDue = a.standingDue
  crcCount : b.crcCount = a.crcCount
  crcDue : b.crcDue = a.crcDue
  busFaults : b.busFaults = a.busFaults
  foreignUntil : b.foreignUntil = a.foreignUntil
  good : b.good = a.good
  crcDrops : b.crcDrops = a.crcDrops
  ordersRefused : b.ordersRefused = a.ordersRefused

/-- Every slot flag that is set stays set. -/
def SlotFlags.grows (a b : SlotFlags) : Prop :=
  (a.latched = true → b.latched = true) ∧ (a.stuck = true → b.stuck = true) ∧
    (a.noncompliant = true → b.noncompliant = true)

/-- Every station flag that is set stays set. -/
def StationFlags.grows (a b : StationFlags) : Prop :=
  (a.deficit = true → b.deficit = true) ∧ (a.redundancyLost = true → b.redundancyLost = true) ∧
    (a.fanFailed = true → b.fanFailed = true) ∧ (a.configMismatch = true → b.configMismatch = true) ∧
    (a.startDefaults = true → b.startDefaults = true) ∧ (a.busFaults = true → b.busFaults = true)

/-- Every cause flag that is set stays set. -/
def Attention.grows (a b : Attention) : Prop :=
  (∀ i : SlotIx, a.slots[i].grows b.slots[i]) ∧ a.station.grows b.station

/-- What the cooling unit keeps while its zones are derived afresh. -/
structure CoolingKept (a b : Cooling) : Prop where
  inletDemand : b.inletDemand = a.inletDemand
  inletTimer : b.inletTimer = a.inletTimer
  judging : b.judging = a.judging
  fans : ∀ c : ChanIx, ∃ x, b.fans[c] = { a.fans[c] with target := x }

/-- What the delivery of reports leaves alone in the station. -/
structure Kept (s t : State) : Prop where
  pending : t.pending = s.pending
  now : t.now = s.now
  run : t.run = s.run
  address : t.address = s.address
  settings : t.settings = s.settings
  startDefaults : t.startDefaults = s.startDefaults
  self : t.self = s.self
  census : t.census = s.census
  peers : t.peers = s.peers
  stationVolt : t.stationVolt = s.stationVolt
  meterDue : t.meterDue = s.meterDue
  supplies : t.supplies = s.supplies
  owner : t.owner = s.owner
  restartOwed : t.attention.restartOwed = s.attention.restartOwed
  flags : s.settings.lineMode = .latched → s.attention.grows t.attention
  nextNumber : t.budget.nextNumber = s.budget.nextNumber
  folded : t.budget.folded = s.budget.folded
  own : s.budget.own.state = .admitted ∨ s.budget.own.state = .onBus → t.budget.own = s.budget.own
  bus : BusKept s.bus t.bus
  cooling : CoolingKept s.cooling t.cooling
  bays : ∀ i : SlotIx, BayKept s.bays[i] t.bays[i]

/-- Everything but bay `i` is as `Kept` says. -/
def KeptBut (i : SlotIx) (s t : State) : Prop := Kept (setBay i (fun _ => t.bays[i]) s) t

/-- Slot `i`'s own change leaves the rest of the station as `Kept` says, with an ORDER's ANSWER offered. -/
structure OrderKept (i : SlotIx) (s t : State) : Prop where
  others : ∀ j : SlotIx, j ≠ i → BayKept s.bays[j] t.bays[j]
  peers : t.peers = s.peers
  settings : t.settings = s.settings
  address : t.address = s.address
  supplies : t.supplies = s.supplies
  owner : t.owner = s.owner
  census : t.census = s.census
  run : t.run = s.run
  urgent : t.bus.urgent = s.bus.urgent
  good : t.bus.good = satInc s.bus.good

/-- The ANSWER of an ORDER's outcomes waits at the ROUTINE FIFO's tail, where the FIFO had room (R18, R176). -/
def Answered (dst : Addr) (codes : List Byte) (s t : State) : Prop :=
  s.bus.routine.length < 4 → t.bus.routine = s.bus.routine ++ [.answer dst ⟨7, .ok, codes⟩ false]

/-- An ORDER of one action that the station takes: it runs, the ORDER is destined for it and comes from an operator, and it
names no condition (R174, R175). -/
structure OrderReady (s : State) (h : OrderHead) : Prop where
  running : s.run = .running
  foreign : h.route.src ≠ s.address
  own : h.route.dst = s.address
  operator : s.peers[h.route.src].operatorRole = true
  unconditional : h.cond = .none

/-! ### Frames that arrive -/

/-- The bus port at the send of a message of class `c`: the head of that class's FIFO has gone, the other FIFOs stay, the
bus is idle, and last served follows (R1, R7). -/
def BusPort.sent (b : BusPort) (c : MsgClass) : BusPort :=
  { b with
    onBus := none
    urgent := if c = .urgent then b.urgent.drop 1 else b.urgent
    control := if c = .control then b.control.drop 1 else b.control
    routine := if c = .routine then b.routine.drop 1 else b.routine
    lastServed := match c with
      | .urgent => b.lastServed
      | .control => .control
      | .routine => .routine }

/-- Command `c` brings the station a good frame from `src`: it is the receipt `recv` of a known source's frame, or the
send of the own message `m`, which the station takes itself (R3, R4). In `u` the frame is counted, and an own message has
gone from its FIFO; nothing has acted on it yet. -/
def Arrives (recv : Instr) (m : Outgoing) (src : Addr) (c : Instr) (s u : State) : Prop :=
  s.run = .running ∧
    ((c = recv ∧ src ≠ s.address ∧ s.peers[src].state ≠ .unknown ∧ u = countGood s) ∨
      (c = .messageSent true ∧ src = s.address ∧
        ∃ k, s.bus.onBus = some (k, .fixed m) ∧ u = countGood { s with bus := s.bus.sent k }))

/-! ### Reports and charges -/

/-- The charge of slot `i` that the budget unit holds once the reports that wait are delivered (R66). -/
def Work.told (w : Work) (i : SlotIx) : Nat :=
  w.reports.foldl (fun c r => match r with
    | .charge j x => if j = i then x else c
    | .entered _ | .left _ | .check _ | .admission _ | .settle _ => c) w.st.budget.reported[i]

/-- Every charge told, or on its way to the budget unit, is its slot's (R66). -/
def Work.tied (w : Work) : Prop := ∀ i : SlotIx, w.told i = w.st.bays[i].charge

/-! ### The claim queue -/

/-- Entries in the order of their slots' priorities, highest first, and of equal priority by arrival (R113). -/
def Ordered (s : State) (l : List Entry) : Prop :=
  l.Pairwise fun x y =>
    prio s y.slot < prio s x.slot ∨ (prio s x.slot = prio s y.slot ∧ x.arrival ≤ y.arrival)

/-- The sending check's conditions hold of the head entry `e`, the own claim's state apart (R6, R116). -/
structure HeadFits (s : State) (e : Entry) : Prop where
  head : s.budget.queue.head? = some e
  census : s.census = none
  deficit : s.budget.deficit = false
  bar : s.budget.bar = none
  fits : (e.watts : Int) ≤ s.budget.ha
  offerable : e.arrival ∉ s.budget.blocked

/-! ### The owner record -/

/-- The owner record with the latches `p` picks gone, and their reserved lanes and the lanes of the holders `q` picks
FREE. -/
def Owner.without (o : Owner) (p : Latch → Bool) (q : Holder → Bool) : Owner :=
  { o with
    latches := o.latches.filter fun l => !p l
    lanes := o.lanes.map fun
      | .held h => if q h then .free else .held h
      | .reserved k => if o.latches.any fun l => p l && l.created == k then .free else .reserved k
      | .free => .free
      | .fenced => .fenced }

/-! ### Kinds of commands -/

/-- The twelve order rows. -/
def isOrder (c : Instr) : Bool :=
  match c with
  | .slotOn _ _ _ _ | .slotOff _ _ _ _ | .slotCycle _ _ _ _ | .setCeiling _ _ _ _ | .clearCeiling _ _ _ _
  | .clearLatch _ _ _ _ | .reidentify _ _ _ _ | .clearPeaks _ _ _ _ | .setPriority _ _ _ _ | .forgetStation _ _ _ _
  | .clearAttention _ _ _ _ | .restart _ _ _ _ => true
  | _ => false

/-- The order rows of one ORDER, each with the action it stands for. -/
def orderRows (h : OrderHead) (b : List OrderAction) (o : OwnAction) (a : List OrderAction) : List (Instr × Action) :=
  [(.slotOn h b o a, .slotOn), (.slotOff h b o a, .slotOff), (.slotCycle h b o a, .slotCycle),
    (.setCeiling h b o a, .setCeiling), (.clearCeiling h b o a, .clearCeiling), (.clearLatch h b o a, .clearLatch),
    (.reidentify h b o a, .reidentify), (.clearPeaks h b o a, .clearPeaks), (.setPriority h b o a, .setPriority),
    (.forgetStation h b o a, .forgetStation), (.clearAttention h b o a, .clearAttention), (.restart h b o a, .restart)]

/-- The ends of the two resets. -/
def endsReset (c : Instr) : Bool :=
  match c with
  | .powerOnResetEnd _ _ | .warmRestartEnd _ => true
  | _ => false

/-! ### Invariants -/

/-- No FIFO holds more messages than its capacity (R5). -/
def BusPort.withinCapacity (b : BusPort) : Prop :=
  b.urgent.length ≤ Config.urgentCapacity ∧ b.control.length ≤ Config.controlCapacity ∧
    b.routine.length ≤ Config.routineCapacity

/-- The bus counters stay at or below 65535, where they hold (R22). -/
def BusPort.countersHold (b : BusPort) : Prop :=
  b.good ≤ Config.counterMax ∧ b.crcDrops ≤ Config.counterMax ∧ b.overflows ≤ Config.counterMax ∧
    b.ordersRefused ≤ Config.counterMax

/-- What the bus port keeps at every step (R5, R22). -/
structure BusInv (s : State) : Prop where
  capacity : s.bus.withinCapacity
  counters : s.bus.countersHold

/-- The attention line is asserted exactly while the station runs and some flag of an enabled cause is set (R180). -/
def LineInv (s : State) : Prop := s.attention.line = (s.run == .running && lineOf s.settings s.attention)

/-- While the station runs, every cause whose condition holds has its flag set, and in LIVE mode no other cause has
(R179, R180). -/
structure FlagsInv (s : State) : Prop where
  slots : s.run = .running → ∀ i : SlotIx, (slotConditions s.bays[i]).grows s.attention.slots[i]
  station : s.run = .running → (stationConditions s).grows s.attention.station
  live : s.run = .running → s.settings.lineMode = .live →
    (∀ i : SlotIx, s.attention.slots[i] = slotConditions s.bays[i]) ∧ s.attention.station = stationConditions s

/-- While the station runs, a slot's main switch is on exactly while the slot is powered, and a slot whose stuck check
runs has its switch off (section 3.2, R59). -/
def SwitchInv (s : State) : Prop :=
  s.run = .running → ∀ i : SlotIx,
    (s.bays[i].seq.gate ≠ .off ↔ s.bays[i].powered = true) ∧
      (s.bays[i].seq.stuckTimer.isSome = true → s.bays[i].seq.gate = .off)

/-- The fan health entries that stand for the chassis (R109). -/
def chassisFans (s : State) : List FanEntry := ownFans s ++ (peerList s).flatMap Peer.fanList

/-- The figures the budget unit holds are those of the supply records, fan health and peer charges as they stand, and of
the slot charges reported to it (R107, R109, R110). -/
structure FiguresInv (s : State) : Prop where
  base : s.budget.base = (baseOf s.settings.constants.mode (counts s)).1
  redundancyLost : s.budget.redundancyLost = (baseOf s.settings.constants.mode (counts s)).2
  failedFans : s.budget.failedFans = largestFailed (chassisFans s)
  factor : s.budget.factor = 16 - min 8 (2 * s.budget.failedFans)
  coolingDegraded : s.budget.coolingDegraded = decide (s.budget.factor < 16)
  usable : s.budget.usable = s.budget.base * s.budget.factor / 16
  committed : s.budget.committed =
    s.budget.reported[0] + s.budget.reported[1] + s.budget.reported[2] + s.budget.reported[3]
  ha : s.budget.ha =
    (s.budget.usable : Int) - s.settings.constants.guardBand - admissionCharges s - s.budget.committed
  hs : s.budget.hs = (s.budget.usable : Int) - supplyCharges s - s.budget.committed

end Sys2Proof.Machine
end

