-- ==== Sys2Proof/Certificates/Slice0/Obligations.lean ====
section
/-! DEFINITION. The statements for the provers. In each, `exec c s = .next t` is the effect of one command on everything but
the queue; `Kept u t` says that `t` differs from `u` only in what the neighbours' reports may change (Safety.lean), so that
`Kept` after a written-out change is the frame of a command. -/

open Sys2Proof Sys2Proof.Machine

/-! ### The step -/

/-- A step takes the command at the front of the queue and runs it with the queue's rest; on an empty queue one
millisecond passes and nothing else changes, which is the model's choice (notes/assumptions/1). -/
def Obligations.StepRunsTheFrontCommand : Prop :=
  (∀ (s : State) (c : Instr) (rest : List Instr), s.pending = c :: rest → step s = exec c (s.withQueue rest)) ∧
    ∀ s : State, s.pending = [] → step s = .next { s with now := s.now + 1 }

/-- No command ends in a fault or a refusal, and none touches the queue or the clock. That a command whose event
cannot occur answers the state unchanged is the model's choice (notes/assumptions/3). -/
def Obligations.EveryCommandCompletes : Prop :=
  ∀ (c : Instr) (s : State), ∃ t, exec c s = .next t ∧ t.pending = s.pending ∧ t.now = s.now

/-- Address, settings and the SELF entry change only at the end of a reset (R24, R182, R183). -/
def Obligations.OnlyResetEndsChangeTheStation : Prop :=
  ∀ (c : Instr) (s t : State), (∀ a inp, c ≠ .powerOnResetEnd a inp) → (∀ inp, c ≠ .warmRestartEnd inp) →
    exec c s = .next t →
      t.address = s.address ∧ t.settings = s.settings ∧ t.startDefaults = s.startDefaults ∧ t.self = s.self

/-- In LATCHED mode a set flag stays set under every command but the orders, which may hold CLEAR ATTENTION, and the
ends of the resets (R180, R181). -/
def Obligations.LatchedFlagsStaySet : Prop :=
  ∀ (c : Instr) (s t : State), s.settings.lineMode = .latched → isOrder c = false → endsReset c = false →
    exec c s = .next t → s.attention.grows t.attention

/-! ### Invariants of every step -/

/-- The attention line is asserted exactly while the station runs and an enabled cause is set (R180). While the station
runs, every cause whose condition holds has its flag set, and in LIVE mode the flags that are set are exactly those of
the conditions that hold (R108, R180). The conditions are those of R179. -/
def Obligations.EveryStepKeepsTheAttentionLine : Prop :=
  (∀ s t : State, LineInv s → step s = .next t → LineInv t) ∧
  (∀ s t : State, FlagsInv s → step s = .next t → FlagsInv t) ∧
  (∀ b : Bay,
    let c := slotConditions b
    (c.latched = true ↔ b.fitted = true ∧ b.seq.state = .latched) ∧
    (c.stuck = true ↔ b.fitted = true ∧ b.seq.state = .stuck) ∧
    (c.noncompliant = true ↔ b.fitted = true ∧ b.seq.state = .shedOff ∧ b.seq.cause = .noncompliant)) ∧
  ∀ s : State,
    let c := stationConditions s
    (c.deficit = true ↔ s.budget.deficit = true) ∧ (c.redundancyLost = true ↔ s.budget.redundancyLost = true) ∧
    (c.fanFailed = true ↔ ∃ k : ChanIx, k.val < s.settings.fanCount ∧ s.cooling.fans[k].health = .failed) ∧
    (c.configMismatch = true ↔ (∃ a : Addr, s.peers[a].mismatch = true) ∨ s.bus.foreignUntil.isSome = true) ∧
    (c.startDefaults = true ↔ s.startDefaults = true) ∧ (c.busFaults = true ↔ s.bus.busFaults = true)

/-- The figures the budget unit holds follow the supply records, the fan health, the peer charges and the charges
reported to it (R107, R109, R110). A slot's active ceiling is the least of its ceilings and not below its floor, and its
charge is that of its state (R64, R65). Every change of a slot reports the charge it leaves, and no delivery of a report
loses one, so that the budget unit holds each slot's charge once no report waits (R66). That the draining charge of an
adopted slot with an operator ceiling is that of R64 and R65 is the model's reading (notes/assumptions/44). -/
def Obligations.EveryStepKeepsTheFigures : Prop :=
  (∀ s t : State, FiguresInv s → step s = .next t → FiguresInv t) ∧
  (∀ b : Bay,
    let q := b.seq
    let c := b.activeCeiling
    (q.allowance = none → c = 0) ∧
    (∀ a, q.allowance = some a →
      let l := a :: (q.opCeiling.toList ++ q.shedCeiling.toList)
      q.floor.getD 0 ≤ c ∧ (∀ y ∈ l, c ≤ max y (q.floor.getD 0)) ∧ (c = q.floor.getD 0 ∨ c ∈ l)) ∧
    (q.state ∈ [SlotState.empty, .identify, .off, .waitPower, .retryWait, .latched, .shedOff] → b.charge = 0) ∧
    (q.state = .stuck → b.charge = b.cfg.worstCase) ∧
    (q.state = .ramp ∨ q.state = .running → b.charge =
      if q.adopted = true ∨ b.recordValid = false then b.cfg.worstCase else max c (q.overdraw.getD 0)) ∧
    (q.state = .stopping → q.phase = some .unseating → b.charge = 0) ∧
    (q.state = .stopping → q.phase = some .draining →
      b.charge = if b.recordValid = true then max c (q.overdraw.getD 0) else c)) ∧
  (∀ (o : StepOrder) (i : SlotIx) (f : Bay → Bay) (w : Work), w.tied → (modBay o i f w).tied) ∧
  (∀ (w : Work) (r : Report) (l : List Report), w.reports = r :: l → w.tied → (deliver r { w with reports := l }).tied) ∧
  ∀ w : Work, w.tied → (flush w).reports = [] →
    ∀ i : SlotIx, (flush w).st.budget.reported[i] = (flush w).st.bays[i].charge

/-- The main switch of a slot is on exactly while the slot is powered (sections 3.2 to 3.9). While the station runs
this holds of every slot, and a slot whose stuck check runs has its switch off. That a slot in STOPPING is powered in
its draining phase alone is the model's reading (notes/assumptions/31). -/
def Obligations.EveryStepKeepsTheSwitches : Prop :=
  ∀ s t : State, SwitchInv s → step s = .next t → SwitchInv t

/-- No FIFO holds more than its capacity and no bus counter passes 65535 (R5, R22). -/
def Obligations.EveryStepKeepsTheBusPort : Prop :=
  ∀ s t : State, BusInv s → step s = .next t → BusInv t

/-- The state after reset meets the five invariants. State.reset holds values that the model chooses
(notes/assumptions/25). -/
def Obligations.ResetMeetsTheInvariants : Prop :=
  LineInv State.reset ∧ FlagsInv State.reset ∧ FiguresInv State.reset ∧ SwitchInv State.reset ∧ BusInv State.reset

/-! ### Frames and payloads, byte by byte -/

/-- A well-formed message is read back from the payload written for it: no field of any of the fourteen layouts is
lost (section 12.2). -/
def Obligations.PayloadsReadBack : Prop :=
  ∀ m : Message, m.wellFormed = true → messageOf m.kind (payloadOf m) = some m

/-- A frame written for a well-formed message passes its check and spells that message's command (section 12.1). Which
row an ORDER of several actions or an ASK of an unknown topic spells is the model's choice (notes/assumptions/27). -/
def Obligations.FramesSpellTheirCommand : Prop :=
  ∀ (src : Addr) (dst : Option Addr) (m : Message), m.wellFormed = true → dst.isSome = m.kind.destined →
    frameCommand (frameBytes src dst m) = commandOf src dst m

/-- A frame that passes its check is malformed when its kind code is 14 or 15, its length is above 32, its class or
its destination presence is not its kind's, or its length is not its layout's; a frame that fails its check is dropped
whatever its form (R190). That a frame which ends before its CRC fails is the
model's reading (notes/assumptions/27). -/
def Obligations.MalformedFramesAreTold : Prop :=
  (∀ l : List Byte, framePasses l = false → frameCommand l = .badCrcFrame) ∧
    ∀ l : List Byte, framePasses l = true →
      (14 ≤ natAt l 1 % 16 ∨ 32 < natAt l 2 ∨
        (∃ k, kindOf (natAt l 1 % 16) = some k ∧
          (natAt l 0 / 64 ≠ classRank k.cls ∨ (frameDestination l).isSome ≠ k.destined ∨
            messageOf k ((l.drop 3).take (natAt l 2)) = none))) →
      frameCommand l = .malformedFrame (frameSource l)

/-! ### The bus port -/

/-- A frame that fails its check gains the CRC drop counter and the window's count one each, and the eighth of a
window sets BUS_FAULTS (R3, R23); a good frame that bears the own address while the station is not sending is counted
and sets CONFIG_MISMATCH (R3, R179). Nothing but the bus port and the cause flags with their line changes. -/
def Obligations.DamagedAndForeignFrames : Prop :=
  ∀ s : State, s.run = .running →
    (∃ t, exec .badCrcFrame s = .next t ∧ t = { s with bus := t.bus, attention := t.attention } ∧
      t.bus = { s.bus with
        crcDrops := satInc s.bus.crcDrops, crcCount := s.bus.crcCount + 1
        busFaults := s.bus.busFaults || s.bus.crcCount + 1 == 8 } ∧
      (s.bus.crcCount + 1 = 8 → t.attention.station.busFaults = true)) ∧
    (s.bus.onBus = none → ∃ t, exec .foreignFrame s = .next t ∧
      t = { s with bus := t.bus, attention := t.attention } ∧
      t.bus = { s.bus with good := satInc s.bus.good, foreignUntil := some (s.now + 10 * s.tst) } ∧
      t.attention.station.configMismatch = true)

/-- A malformed frame, an ANSWER, a broadcast with a field out of its range, and every destined frame for another
station or with a field out of its range, from a source that is known, is counted as a good message, and nothing else
changes but what settling the flags changes (R4, R17, R18, R190). From a source that is UNKNOWN each of them moves its
entry to LIVE with the age at 0, and changes nothing else but by the notification; so does every lane message and every
ASK, wherever it is destined (R25). That a field out of its range discards the whole frame after it is counted and heard
is the model's reading (notes/assumptions/10). -/
def Obligations.UndeliveredFramesAreCounted : Prop :=
  (∀ (s : State) (src : Addr), s.run = .running → src ≠ s.address → s.peers[src].state = .unknown →
    let heardOnly (c : Instr) : Prop := ∃ t, exec c s = .next t ∧
      Kept (setPeer src (fun p => { p with state := .live, ageFrom := some s.now }) (countGood s)) t
    heardOnly (.malformedFrame src) ∧
    (∀ m : RollCall, m.inRange = false → heardOnly (.rollCallReceived src m)) ∧
    (∀ m : Standing, m.inRange = false → heardOnly (.standingReceived src m)) ∧
    (∀ m : ClaimMsg, m.inRange = false → heardOnly (.peerClaimReceived src m)) ∧
    (∀ m : ClaimDropMsg, m.inRange = false → heardOnly (.claimDropReceived src m)) ∧
    ∀ dst : Addr, let r : Route := ⟨src, dst⟩
      (∀ m : AnswerMsg, heardOnly (.answerReceived r m)) ∧
      (∀ m : OfferMsg, m.inRange = false → heardOnly (.laneOfferReceived r m)) ∧
      (∀ m : RefuseMsg, m.inRange = false → heardOnly (.laneRefuseReceived r m)) ∧
      (∀ m : WithdrawMsg, m.inRange = false → heardOnly (.laneWithdrawReceived r m)) ∧
      (dst ≠ s.address → ∀ (h : OrderHead) (b : List OrderAction) (o : OwnAction) (a : List OrderAction), h.route = r →
        ∀ c ∈ orderRows h b o a, heardOnly c.1) ∧
      ∀ (m1 : BidMsg) (m2 : ReturnMsg) (m3 : OfferMsg) (m4 : DeferMsg) (m5 : RefuseMsg) (m6 : WithdrawMsg)
        (a : AskOperands),
        ∀ c ∈ [Instr.laneBidReceived r m1, .laneReturnReceived r m2, .laneOfferReceived r m3, .laneDeferReceived r m4,
          .laneRefuseReceived r m5, .laneWithdrawReceived r m6, .askInventory r a, .askSlot r a, .askMeter r a,
          .askSupply r a, .askStation r a, .askCounters r a, .askRoll r a],
        ∃ t, exec c s = .next t ∧ t.bus.good = satInc s.bus.good ∧
          t.peers = updAt s.peers src (fun p => { p with state := .live, ageFrom := some s.now }) ∧
          (dst ≠ s.address → heardOnly c)) ∧
  ∀ (s : State) (r : Route), s.run = .running → r.src ≠ s.address → s.peers[r.src].state ≠ .unknown →
    let countedOnly (c : Instr) : Prop := exec c s = .next (settleFlags (countGood s))
    countedOnly (.malformedFrame r.src) ∧
    (∀ m, countedOnly (.answerReceived r m)) ∧
    (∀ m : RollCall, m.inRange = false → countedOnly (.rollCallReceived r.src m)) ∧
    (∀ m : Standing, m.inRange = false → countedOnly (.standingReceived r.src m)) ∧
    (∀ m : ClaimMsg, m.inRange = false → countedOnly (.peerClaimReceived r.src m)) ∧
    (∀ m : ClaimDropMsg, m.inRange = false → countedOnly (.claimDropReceived r.src m)) ∧
    (∀ m : OfferMsg, m.inRange = false → countedOnly (.laneOfferReceived r m)) ∧
    (∀ m : RefuseMsg, m.inRange = false → countedOnly (.laneRefuseReceived r m)) ∧
    (∀ m : WithdrawMsg, m.inRange = false → countedOnly (.laneWithdrawReceived r m)) ∧
    (r.dst ≠ s.address →
      (∀ m, countedOnly (.laneBidReceived r m)) ∧
      (∀ m, countedOnly (.laneReturnReceived r m)) ∧
      (∀ m, countedOnly (.laneOfferReceived r m)) ∧
      (∀ m, countedOnly (.laneDeferReceived r m)) ∧
      (∀ m, countedOnly (.laneRefuseReceived r m)) ∧
      (∀ m, countedOnly (.laneWithdrawReceived r m)) ∧
      (∀ a, ∀ c ∈ [Instr.askInventory r a, .askSlot r a, .askMeter r a, .askSupply r a, .askStation r a,
          .askCounters r a, .askRoll r a], countedOnly c) ∧
      ∀ h b o a, h.route = r → ∀ c ∈ orderRows h b o a, countedOnly c.1)

/-- The message offered at a bus idle is URGENT's head, else the head of the one FIFO that is not empty, else the head
of the FIFO other than the one last served (R7). It wins where no key is lower, and its content is fixed as it then
stands: a ROLL CALL's epoch, role set and digest, a CLAIM's number, and the whole of a STANDING, whose ceiling sums the
slot ceilings (R1, R8, R125, R149, R154, R164). The own claim of a CLAIM that wins is ON_BUS with its number (R115,
R117). A STANDING that wins outside the census is the update instant of the fans: each channel's tach is judged, its
health follows and its duty moves toward its target (R151, R153). Where another key is lower the message waits and
nothing changes; a stop after the win queues it again, unsent (R1, R2). What BUS_IDLE carries, and that an equal key of
another sender does not beat the own, are the model's choices (notes/assumptions/7). -/
def Obligations.WinsLossesAndStops : Prop :=
  (∀ (b : BusPort) (m x : Outgoing) (l k : List Outgoing),
    (b.urgent = m :: l → chooseNext b = some m) ∧
    (b.urgent = [] → b.control = m :: l → b.routine = [] → chooseNext b = some m) ∧
    (b.urgent = [] → b.control = [] → b.routine = m :: l → chooseNext b = some m) ∧
    (b.urgent = [] → b.control = m :: l → b.routine = x :: k →
      chooseNext b = some (match b.lastServed with
        | .routine => m
        | .control => x))) ∧
  (∀ s : State,
    fixContent s .rollCall = .rollCall ⟨s.self.epoch, s.self.roles, s.self.digest⟩ ∧
    (∀ (w : Nat) (i : SlotIx) (k : ClaimKind),
      fixContent s (.claim w i k) = .claim ⟨s.budget.nextNumber, w, i.val, k.code⟩) ∧
    (∀ m : Outgoing, m ≠ .rollCall → m ≠ .standing → isClaim m = false → fixContent s m = .fixed m) ∧
    ∃ x : Standing, fixContent s .standing = .standing x ∧
      x.epoch = s.self.epoch ∧ x.sequence = s.bus.sequence ∧ x.committed = s.budget.committed ∧
      x.folded = s.budget.folded ∧ x.deficit = s.budget.deficit ∧ x.redundancyLost = s.budget.redundancyLost ∧
      x.coolingDegraded = s.budget.coolingDegraded ∧
      x.ceiling = s.bays[0].slotCeiling + s.bays[1].slotCeiling + s.bays[2].slotCeiling + s.bays[3].slotCeiling ∧
      x.zones.Pairwise (fun a b => a.zone < b.zone) ∧ (∀ e ∈ x.zones, e.zone < 4) ∧
      (∀ (z : ZoneIx) (d : Nat), ⟨z.val, d⟩ ∈ x.zones ↔ s.cooling.reported[z] = some d) ∧
      x.fans.length = min 2 s.settings.fanCount ∧
      (∀ c : ChanIx, c.val < s.settings.fanCount →
        x.fans[c.val]? = some ⟨s.settings.fans[c].zone, s.cooling.fans[c].health⟩) ∧
      x.supplies.length = min 2 s.settings.supplyCount ∧
      (∀ c : ChanIx, c.val < s.settings.supplyCount → x.supplies[c.val]? = some ⟨s.settings.supplies[c].feed,
        s.supplies[c].state, s.settings.supplies[c].rated, min s.supplies[c].output 65535⟩) ∧
      x.trunk = s.owner.map fun o => ⟨o.module, o.lanes.length, (o.lanes.filter (· == .free)).length⟩) ∧
  (∀ b : Bay,
    let q := b.seq
    let a := q.allowance.getD 0
    (q.state = .running → q.adopted = true → b.slotCeiling = b.cfg.worstCase) ∧
    (q.state = .stuck → b.slotCeiling = b.cfg.worstCase) ∧
    (q.state = .ramp ∨ (q.state = .running ∧ q.adopted = false) ∨ (q.state = .stopping ∧ q.phase = some .draining) →
      b.slotCeiling = max a b.charge) ∧
    (q.state = .waitPower ∨ q.state = .retryWait ∨ q.state = .shedOff → b.slotCeiling = a) ∧
    (q.state ∈ [SlotState.empty, .identify, .off, .latched] ∨ (q.state = .stopping ∧ q.phase = some .unseating) →
      b.slotCeiling = 0)) ∧
  (∀ (s : State) (others : List ArbKey) (a b : Nat) (m : Outgoing), s.run = .running → s.bus.onBus = none →
    chooseNext s.bus = some m → winsContention m.cls s.address others = true →
    let own : OwnClaim :=
      if isClaim m then { s.budget.own with state := .onBus, number := some s.budget.nextNumber } else s.budget.own
    let u : State := { s with
      bus := { s.bus with onBus := some (m.cls, fixContent s m) }, budget := { s.budget with own := own } }
    (m ≠ .standing ∨ s.census.isSome = true → exec (.busIdle others a b) s = .next (settleFlags u)) ∧
    (m = .standing → s.census = none →
      ∃ t, exec (.busIdle others a b) s = .next t ∧ t.bus.onBus = some (.routine, fixContent s .standing) ∧
        t.bus.urgent = s.bus.urgent ∧ t.bus.routine = s.bus.routine ∧ t.bus.lastServed = s.bus.lastServed ∧
        t.bus.sequence = s.bus.sequence ∧ t.budget.nextNumber = s.budget.nextNumber ∧ t.peers = s.peers ∧
        (∀ c : ChanIx,
          let f := s.cooling.fans[c]
          let g := t.cooling.fans[c]
          let reading := if c = 0 then a else b
          let expected := s.settings.fans[c].fullRpm * f.duty / 100
          let low := if 10 * reading < 4 * expected then min 3 (f.low + 1) else 0
          let good := if 6 * expected ≤ 10 * reading then min 3 (f.good + 1) else 0
          let moved (target : Nat) : Nat :=
            if f.duty ≤ target then target else max target (f.duty - s.settings.rampStep)
          (s.settings.fanCount ≤ c.val → g = f) ∧
          (c.val < s.settings.fanCount →
            (s.cooling.judging = false → g.low = f.low ∧ g.good = f.good ∧ g.health = f.health) ∧
            (s.cooling.judging = true → g.low = low ∧ g.good = good ∧ g.health = (match f.health with
              | .ok => if low = 3 then .failed else .ok
              | .failed => if good = 3 then .ok else .failed)) ∧
            (f.health = .ok → g.health = .failed → t.attention.station.fanFailed = true) ∧
            (∃ target, g.duty = moved target) ∧
            (c = 1 ∨ t.cooling.fans[1].health = s.cooling.fans[1].health → g.duty = moved g.target))) ∧
        ((∀ c : ChanIx, t.cooling.fans[c].health = s.cooling.fans[c].health) →
          t = settleFlags { u with cooling := { s.cooling with fans := t.cooling.fans } } ∧
          ∀ c : ChanIx, t.cooling.fans[c].target = s.cooling.fans[c].target))) ∧
  (∀ (s : State) (others : List ArbKey) (a b : Nat) (m : Outgoing), s.run = .running →
    chooseNext s.bus = some m → winsContention m.cls s.address others = false →
    exec (.busIdle others a b) s = .next s) ∧
  ∀ s : State, s.run = .running → s.bus.onBus.isSome = true →
    exec .readbackMismatchStop s = .next (settleFlags { s with
      bus := { s.bus with onBus := none }
      budget := { s.budget with own :=
        if s.budget.own.state = .onBus then { s.budget.own with state := .queued, number := none }
        else s.budget.own } })

/-- A send, good or failed at its own receipt, frees the bus and counts once; a STANDING consumes its sequence, a CLAIM
its number, and no other message a number; unless the send begins a warm restart, a CONTROL or ROUTINE message is then
the one last served (R3, R7, R8, R13). The send of a STANDING that folds the own claim ADMITTED moves it to NONE, and
the sending check offers the next CLAIM where the head fits; any other STANDING leaves the own claim as it is (R118).
At the send the head of the sent class's FIFO goes and the other FIFOs stay, before the own receipt acts (R1). The
station takes its own lane message or ASK ROLL where it is destined for the station itself, as it takes a peer's: a
LANE BID and a LANE RETURN on the owner side, the four others on the requester side, and an ASK ROLL is answered by the
own ROLL CALL; one destined for another station, and every message of another kind but a CLAIM, is only counted (R4,
R18, R190). A CLAIM's own receipt is the command of the claim's receipt (R119, R123). The send of the ANSWER that owes
a restart, whether or not its receipt passes, begins the warm restart, as an assertion of the restart input then would
(R178). That one command is the whole send and the station's own receipt is the model's choice
(notes/assumptions/5). -/
def Obligations.SendsConsumeTheirNumbers : Prop :=
  (∀ (s : State) (good : Bool) (c : MsgClass) (x : OnBus), s.run = .running → s.bus.onBus = some (c, x) →
    ∃ t, exec (.messageSent good) s = .next t ∧ t.bus.onBus = none ∧
      t.bus.good = (if good then satInc s.bus.good else s.bus.good) ∧
      t.bus.crcDrops = (if good then s.bus.crcDrops else satInc s.bus.crcDrops) ∧
      t.bus.sequence = (match x with
        | .standing _ => s.bus.sequence + 1
        | .rollCall _ | .claim _ | .fixed _ => s.bus.sequence) ∧
      t.budget.nextNumber = (match x with
        | .claim _ => s.budget.nextNumber + 1
        | .rollCall _ | .standing _ | .fixed _ => s.budget.nextNumber) ∧
      (owesRestart x = false → t.bus.lastServed = match c with
        | .urgent => s.bus.lastServed
        | .control => .control
        | .routine => .routine)) ∧
  (∀ (s : State) (good : Bool) (c : MsgClass) (x : OnBus), s.run = .running → s.bus.onBus = some (c, x) →
    let v : State := consume x { s with bus := s.bus.sent c }
    let u : State := finish (if good then selfReceive x ⟨countGood v, []⟩ else ⟨selfFail x (countCrcDrop v), []⟩)
    (owesRestart x = false → exec (.messageSent good) s = .next u) ∧
    (owesRestart x = true → u.run = .running ∧ exec (.messageSent good) s = exec .restartInputAssert u ∧
      ∃ t, exec (.messageSent good) s = .next t ∧ t.run = .warmRestart s.now ∧ t.bus.routine = []) ∧
    (owesRestart x = true ↔ ∃ a m, x = .fixed (.answer a m true)) ∧
    ∀ m, x = .claim m →
      exec (.messageSent good) s = if good then exec .ownClaimReceipt s else exec .ownClaimBadReceipt s) ∧
  (∀ s : State,
    (∀ m, consume (.rollCall m) s = s) ∧ (∀ m, consume (.fixed m) s = s) ∧
    (∀ m, consume (.claim m) s = { s with budget := { s.budget with nextNumber := s.budget.nextNumber + 1 } }) ∧
    (∀ m : Standing,
      let t : State := { s with bus := { s.bus with sequence := s.bus.sequence + 1 } }
      consume (.standing m) s = if s.budget.own.state = .admitted ∧ s.budget.own.number = some m.folded then
        sendingCheck { t with budget := { t.budget with own := OwnClaim.idle } } else t) ∧
    (∀ x : OnBus, (∀ m, x ≠ .claim m) → selfFail x s = s) ∧
    (∀ m, selfReceive (.rollCall m) ⟨s, []⟩ = ⟨s, []⟩) ∧ ∀ m, selfReceive (.standing m) ⟨s, []⟩ = ⟨s, []⟩) ∧
  (∀ (s : State) (k : MsgClass) (x : Outgoing), s.run = .running → s.bus.onBus = some (k, .fixed x) →
    let own := s.address
    let acts (f : State → State) : Prop :=
      exec (.messageSent true) s = .next (settleFlags (f (countGood { s with bus := s.bus.sent k })))
    (∀ m, x = .laneBid own m → acts (ownerActs m.module.val (takeBid s.now own m))) ∧
    (∀ m, x = .laneReturn own m → acts (ownerActs m.module fun o => (takeReturn own m o, []))) ∧
    (∀ m, x = .laneOffer own m → acts (if m.inRange = true then takeOffer own m else id)) ∧
    (∀ m, x = .laneDefer own m → acts (takeDefer m)) ∧
    (∀ m, x = .laneRefuse own m → acts (if m.inRange = true then takeRefuse m else id)) ∧
    (∀ m, x = .laneWithdraw own m → acts (if m.inRange = true then takeWithdraw m else id)) ∧
    (x = .askRoll own → acts (offer .rollCall)) ∧
    (∀ d : Addr, d ≠ own →
      (∃ m, x = .laneBid d m) ∨ (∃ m, x = .laneReturn d m) ∨ (∃ m, x = .laneOffer d m) ∨ (∃ m, x = .laneDefer d m) ∨
        (∃ m, x = .laneRefuse d m) ∨ (∃ m, x = .laneWithdraw d m) ∨ x = .askRoll d → acts id) ∧
    ((∃ n r, x = .claimDrop n r) ∨ (∃ c st w, x = .supplyAlarm c st w) ∨ (∃ d m, x = .answer d m false) → acts id)) ∧
  ∀ (s : State) (good : Bool) (m : Standing), s.run = .running → s.bus.onBus = some (.routine, .standing m) →
    ∃ t, exec (.messageSent good) s = .next t ∧ t.bus.routine = s.bus.routine.drop 1 ∧
      (s.budget.own.state = .admitted → s.budget.own.number = some m.folded →
        ((∀ e, ¬HeadFits s e) → t.budget = { s.budget with own := OwnClaim.idle } ∧ t.bus.control = s.bus.control) ∧
        (∀ e, HeadFits s e → s.bus.control.length < 6 →
          t.budget = { s.budget with own := ⟨.queued, some e.arrival, e.slot, e.purpose.kind, e.watts, none⟩ } ∧
          t.bus.control = s.bus.control ++ [.claim e.watts e.slot e.purpose.kind])) ∧
      (s.budget.own.state ≠ .admitted ∨ s.budget.own.number ≠ some m.folded →
        t.budget = s.budget ∧ t.bus.control = s.bus.control)

/-- A message offered is absorbed by a waiting STANDING, takes the place of a waiting SUPPLY ALARM of its channel,
joins the tail of its class's FIFO, or is refused by a full FIFO and counted (R5). A refused CLAIM DROP, LANE RETURN or
LANE WITHDRAW is owed a further offer one Tst later, refused ROLL CALLs are owed one between them, and a refusal of any
other kind leaves what is owed as it was; an own CLAIM that is taken abandons every CLAIM DROP still owed (R6). That a
message waits until it wins the bus is the model's reading (notes/assumptions/8), and that a new alarm takes the place
of both where two of its channel wait is its choice (notes/assumptions/42). -/
def Obligations.OffersJoinMergeOrAreRefused : Prop :=
  ∀ (b : BusPort) (m : Outgoing) (now tst : Nat),
    (merges b m = true →
      (m = .standing → b.offer m now tst = b) ∧
      (∀ c st w, m = .supplyAlarm c st w →
        (b.offer m now tst).waiting .urgent = (b.waiting .urgent).map fun o => if isAlarmOf c o then m else o) ∧
      (b.offer m now tst).overflows = b.overflows) ∧
    (merges b m = false → (b.fifo m.cls).length < fifoCapacity m.cls →
      (b.offer m now tst).fifo m.cls = b.fifo m.cls ++ [m] ∧ (b.offer m now tst).overflows = b.overflows) ∧
    (merges b m = false → fifoCapacity m.cls ≤ (b.fifo m.cls).length →
      (∀ c, (b.offer m now tst).fifo c = b.fifo c) ∧ (b.offer m now tst).overflows = satInc b.overflows ∧
      let again : Prop := (∃ n r, m = .claimDrop n r) ∨ (∃ a x, m = .laneReturn a x) ∨ ∃ a x, m = .laneWithdraw a x
      (again → (b.offer m now tst).owed = b.owed ++ [⟨m, now + tst⟩]) ∧
      (m = .rollCall → (∃ o ∈ b.owed, o.msg = .rollCall) → (b.offer m now tst).owed = b.owed) ∧
      (m = .rollCall → (∀ o ∈ b.owed, o.msg ≠ .rollCall) →
        (b.offer m now tst).owed = b.owed ++ [⟨.rollCall, now + tst⟩]) ∧
      (¬again → m ≠ .rollCall → (b.offer m now tst).owed = b.owed)) ∧
    (merges b m = true ∨ (b.fifo m.cls).length < fifoCapacity m.cls →
      (b.offer m now tst).owed = if isClaim m then b.owed.filter fun o => !isClaimDrop o.msg else b.owed)

/-- The bus port's timers: at STANDING's a STANDING is offered (R11), at a CRC window's end the count returns to 0 and
the BUS_FAULTS condition ends unless the window held 8 drops (R23), a refused message owed a further offer is offered
again (R6), and a foreign frame ceases to count (R179). That periodic timers run on from the instant at which they
were due is the model's choice (notes/assumptions/28). -/
def Obligations.BusTimersAct : Prop :=
  ∀ s : State, s.run = .running →
    (s.bus.standingDue ≤ s.now → exec .standingTimerExpiry s = .next (settleFlags (offer .standing
      { s with bus := { s.bus with standingDue := s.bus.standingDue + s.tst } }))) ∧
    (s.bus.crcDue ≤ s.now → exec .crcWindowEnd s = .next (settleFlags { s with bus := { s.bus with
      busFaults := s.bus.busFaults && decide (8 ≤ s.bus.crcCount), crcCount := 0
      crcDue := s.bus.crcDue + s.tst } })) ∧
    (∀ (k : Nat) (o : Owed), s.bus.owed[k]? = some o → o.due ≤ s.now →
      exec (.refusedReofferTimer k) s = .next (settleFlags (offer o.msg
        { s with bus := { s.bus with owed := s.bus.owed.eraseIdx k } }))) ∧
    ∀ u, s.bus.foreignUntil = some u → u ≤ s.now →
      exec .foreignFrameWindowEnd s = .next (settleFlags { s with bus := { s.bus with foreignUntil := none } })

/-! ### The peer view -/

/-- A ROLL CALL with no new epoch is recorded: epoch, role set, digest, and the mismatch flag by comparison with the
own digest; a newly heard peer draws the own ROLL CALL; CONFIG_MISMATCH is set where the flag goes from clear to set
(R28, R29). -/
def Obligations.RollCallsAreRecorded : Prop :=
  ∀ (s : State) (src : Addr) (m : RollCall), s.run = .running → src ≠ s.address → m.inRange = true →
    (s.peers[src].epoch = none ∨ s.peers[src].epoch = some m.epoch) →
    ∃ t, exec (.rollCallReceived src m) s = .next t ∧
      Kept ((if s.peers[src].state = .unknown then offer .rollCall else id)
        (setPeer src (fun p => { p.hear s.now with
          epoch := some m.epoch, roles := some m.roles, digest := some m.digest
          mismatch := !m.roles.operator && m.digest != s.self.digest }) (countGood s))) t ∧
      (s.peers[src].mismatch = false → m.roles.operator = false → m.digest ≠ s.self.digest →
        t.attention.station.configMismatch = true)

/-- A STANDING with no new epoch is recorded: content, age 0, LIVE, and a pending claim that its folded claim number
reaches is cleared; an absent role set draws an ASK ROLL unless one for that station is queued (R27, R33), and the
units are notified (R36). That an ASK ROLL is queued while it has not won the bus is the model's reading
(notes/assumptions/8). -/
def Obligations.StandingsAreRecorded : Prop :=
  ∀ (s : State) (src : Addr) (m : Standing), s.run = .running → src ≠ s.address → m.inRange = true →
    (s.peers[src].epoch = none ∨ s.peers[src].epoch = some m.epoch) →
    let u := (if s.peers[src].roles = none ∧ askRollQueued s src = false then offer (.askRoll src) else id)
      (setPeer src (fun p => { p with
        state := .live, epoch := some m.epoch, standing := some m, ageFrom := some s.now
        pending := p.pending.filter fun c => !(m.folded == c.number || serialAfter m.folded c.number) }) (countGood s))
    exec (.standingReceived src m) s = .next (finish (notifyUnits ⟨u, []⟩)) ∧
      ∃ t, exec (.standingReceived src m) s = .next t ∧ Kept u t

/-- A STANDING or a ROLL CALL with a new epoch is recorded with the new epoch, its content, and the pending claim
discarded, and a ROLL CALL draws the own ROLL CALL (R27, R28, R30). The owner side reclaims from the address: the lanes
of its HELD groups and of its latches become FREE, its latches go, and one reservation runs where lanes became FREE
(R163). The requester side loses each HELD record of an own port at that owner, and no other record in HELD changes but
to NONE, where the notification's shedding takes its slot out of RUNNING (R171). -/
def Obligations.NewEpochsReclaim : Prop :=
  (∀ (s : State) (src : Addr), s.run = .running → src ≠ s.address →
    let loses (t : State) : Prop := ∀ (i : SlotIx) (p : PortIx), (portOf s i p).state = .held →
      (portOf t i p).state = .none ∨ portOf t i p =
        if (portOf s i p).owner = some src then
          { portOf s i p with state := .lost, group := none, cross := none, timer := some (s.now + s.tst) }
        else portOf s i p
    (∀ m : Standing, m.inRange = true → s.peers[src].epoch.isSome = true → s.peers[src].epoch ≠ some m.epoch →
      ∃ t, exec (.standingReceived src m) s = .next t ∧
        t.peers = updAt s.peers src (fun p => { p with
          state := .live, epoch := some m.epoch, standing := some m, ageFrom := some s.now, pending := none }) ∧
        t.owner = s.owner.map (reclaimFrom src) ∧ loses t) ∧
    (∀ m : RollCall, m.inRange = true → s.peers[src].epoch.isSome = true → s.peers[src].epoch ≠ some m.epoch →
      ∃ t, exec (.rollCallReceived src m) s = .next t ∧
        t.peers = updAt s.peers src (fun p => { p.hear s.now with
          epoch := some m.epoch, roles := some m.roles, digest := some m.digest
          mismatch := !m.roles.operator && m.digest != s.self.digest, pending := none }) ∧
        t.owner = s.owner.map (reclaimFrom src) ∧ loses t ∧
        (s.bus.routine.length < 4 → t.bus.routine = s.bus.routine ++ [.rollCall])) ∧
    ∀ (i : SlotIx) (p : PortIx), portOf (ownerRestarted src s) i p =
      if (portOf s i p).state = .held ∧ (portOf s i p).owner = some src then
        { portOf s i p with state := .lost, group := none, cross := none, timer := some (s.now + s.tst) }
      else portOf s i p) ∧
  ∀ (a : Addr) (o : Owner),
    let u := o.without (fun l => l.requester == a) (fun h => h.requester == a)
    reclaimFrom a o = if u.lanes = o.lanes then u else reserve u

/-- A peer's CLAIM becomes or replaces its pending claim (R32), a CLAIM DROP clears the pending claim of its number
(R33), and a SUPPLY ALARM sets state and rating of the channel's record, where there is one (R31). Each of the three
then notifies the units (R36), which changes nothing else but as their rules give. -/
def Obligations.ClaimsDropsAndAlarmsAreRecorded : Prop :=
  ∀ (s : State) (src : Addr), s.run = .running → src ≠ s.address →
    let records (c : Instr) (f : Peer → Peer) : Prop :=
      let u := setPeer src f (countGood s)
      exec c s = .next (finish (notifyUnits ⟨u, []⟩)) ∧ ∃ t, exec c s = .next t ∧ Kept u t
    (∀ m : ClaimMsg, m.inRange = true → records (.peerClaimReceived src m) fun p =>
      { p.hear s.now with pending := some ⟨m.number, m.watts, s.now⟩ }) ∧
    (∀ m : ClaimDropMsg, m.inRange = true → records (.claimDropReceived src m) fun p =>
      { p.hear s.now with pending := p.pending.filter fun c => c.number != m.number }) ∧
    ∀ m : AlarmMsg, records (.supplyAlarmReceived src m) fun p =>
      { p.hear s.now with standing := p.standing.map fun st =>
        { st with supplies := st.supplies.modify m.channel.val fun r => { r with state := m.state, rated := m.rated } } }

/-- The passing of an age limit changes the entry's state alone: STALE after 3 Tst in LIVE, SILENT after 10 Tst in
STALE (R26); a pending claim of 4 Tst is cleared (R33); each notifies the units (R36). Into SILENT the owner side
reclaims from the address and offers a LANE WITHDRAW RECLAIMED for each group it held (R163); every record at that
owner, in whatever state, has its queued bid withdrawn (R9), those that wait for an answer are UNPLACED for 10 Tst, and
the others stay (R167, R171); a record's slot that the notification's shedding takes out of RUNNING has its record in
NONE. That an age passes its limit at the clock instant at which it reaches it is the model's choice
(notes/assumptions/2), which records count as at that owner and that R9 withdraws a bid in every state its readings
(notes/assumptions/19 and 35), and that the withdrawals are offered before the bids are withdrawn its choice
(notes/assumptions/41). -/
def Obligations.AgesPass : Prop :=
  ∀ (s : State) (a : Addr), s.run = .running → a ≠ s.address →
    (∀ f, s.peers[a].state = .live → s.peers[a].ageFrom = some f → f + 3 * s.tst ≤ s.now →
      let u := setPeer a (fun p => { p with state := .stale }) s
      exec (.peerEntersStale a) s = .next (finish (notifyUnits ⟨u, []⟩)) ∧
        ∃ t, exec (.peerEntersStale a) s = .next t ∧ Kept u t) ∧
    (∀ f, s.peers[a].state = .stale → s.peers[a].ageFrom = some f → f + 10 * s.tst ≤ s.now →
      ∃ t, exec (.peerEntersSilent a) s = .next t ∧
        Kept { setPeer a (fun p => { p with state := .silent }) s with owner := s.owner.map (reclaimFrom a) } t ∧
        (∀ o, s.owner = some o → s.bus.control.length + o.lanes.length ≤ 6 → ∀ (k : Nat) (h : Holder),
          o.lanes[k]? = some (.held h) → h.requester = a → h.group.first = k →
          .laneWithdraw a ⟨o.module.val, h.group.first, h.group.lanes, 1⟩ ∈ t.bus.control) ∧
        ∀ (i : SlotIx) (p : PortIx),
          let r := portOf s i p
          let asks : Prop := r.state = .bidding ∨ r.state = .deferred
          ((r.owner = some a ∨ ∃ m, r.chosen = some m ∧ ownerOf s m = some a) →
            bidQueued t i p = false ∧ (asks → (portOf t i p).state = .none ∨
              portOf t i p = { r with state := .unplaced, timer := some (s.now + 10 * s.tst) })) ∧
          (¬asks → (portOf t i p).state = .none ∨ portOf t i p = r)) ∧
    ∀ c, s.peers[a].pending = some c → c.since + 4 * s.tst ≤ s.now →
      let u := setPeer a (fun p => { p with pending := none }) s
      exec (.pendingClaimAgeExpiry a) s = .next (finish (notifyUnits ⟨u, []⟩)) ∧
        ∃ t, exec (.pendingClaimAgeExpiry a) s = .next t ∧ Kept u t

/-! ### Claims -/

/-- An own CLAIM received whole, its entry still queued, no deficit, and its watts within Ha, is admitted: the folded
claim number is the CLAIM's, the entry leaves the queue with the restore entry and a bar that name it, and the own claim
is ADMITTED; then the purpose is carried out, behind the report that the slot has no entry (R119, R142). That one
command is the whole send and the own receipt is the model's choice (notes/assumptions/5), and that the reports wait in
the order of their steps its reading (notes/assumptions/4). -/
def Obligations.ClaimsWithinHeadroomAreAdmitted : Prop :=
  ∀ (s : State) (m : ClaimMsg) (e : Entry), s.run = .running → s.bus.onBus = some (.control, .claim m) →
    s.budget.own.state = .onBus → claimedEntry s = some e → s.budget.deficit = false →
    (m.watts : Int) ≤ s.budget.ha →
    let own := s.budget.own
    let u : State := { s with
      bus := { s.bus with
        control := s.bus.control.drop 1, onBus := none, lastServed := .control, good := satInc s.bus.good }
      budget := { s.budget with
        nextNumber := s.budget.nextNumber + 1, folded := m.number
        queue := s.budget.queue.filter fun x => x.slot != e.slot
        restoreEntry := if s.budget.restoreEntry = some e.slot then none else s.budget.restoreEntry
        bar := s.budget.bar.filter fun b => b.entry != e.arrival
        own := ⟨.admitted, none, own.slot, own.kind, own.watts, some m.number⟩ } }
    exec (.messageSent true) s = exec .ownClaimReceipt s ∧
    exec .ownClaimReceipt s = .next (finish (carryOut e ⟨u, [.settle e.slot]⟩)) ∧
    ∃ t, exec .ownClaimReceipt s = .next t ∧
      t.budget.folded = m.number ∧ t.budget.own = u.budget.own ∧
      t.budget.nextNumber = s.budget.nextNumber + 1 ∧ t.bus.good = satInc s.bus.good ∧ t.peers = s.peers

/-- The sending check offers the head entry's CLAIM where its conditions hold: taken, the own claim is QUEUED with the
head as its claimed entry, and every CLAIM DROP still owed is abandoned; refused by a full FIFO, the CLAIM is counted
and not offered again before a recomputation (R5, R6, R116). Where a condition fails nothing is offered. An own CLAIM
whose watts pass Ha, or that finds a deficit, is refused: its entry stays, the bar records the Ha held, the own claim
is NONE, and a CLAIM DROP with reason REFUSED is offered (R119, R121). Step 3 of a recomputation (CensusEnds) sets the
bar's raised mark where the Ha just computed is above the bar's, and leaves a mark that is set; it lifts a bar with the
mark set once one Tst has passed since the refusal (R111, R122). A bar whose raised mark is set is also lifted at the
expiry of that Tst (R122). Which refused CLAIMs a recomputation frees is the model's reading (notes/assumptions/13),
and that one command is the whole send and the own receipt is its choice (notes/assumptions/5). -/
def Obligations.ClaimsBeyondHeadroomAreRefused : Prop :=
  (∀ (s : State) (e : Entry),
    ((∀ x, ¬HeadFits s x) → sendingCheck s = s) ∧
    (s.budget.own.state ≠ .none → sendingCheck s = s) ∧
    (HeadFits s e → s.budget.own.state = .none → s.bus.control.length < 6 →
      sendingCheck s = { s with
        bus := { s.bus with
          control := s.bus.control ++ [.claim e.watts e.slot e.purpose.kind]
          owed := s.bus.owed.filter fun o => !isClaimDrop o.msg }
        budget := { s.budget with own := ⟨.queued, some e.arrival, e.slot, e.purpose.kind, e.watts, none⟩ } }) ∧
    (HeadFits s e → s.budget.own.state = .none → 6 ≤ s.bus.control.length →
      sendingCheck s = { s with
        bus := { s.bus with overflows := satInc s.bus.overflows }
        budget := { s.budget with blocked := e.arrival :: s.budget.blocked } }) ∧
    (refigure s).budget.blocked = []) ∧
  (∀ s : State, (s.budget.bar = none → markBar s = s) ∧
    ∀ b, s.budget.bar = some b →
      let raised : Prop := b.raised = true ∨ b.ha < s.budget.ha
      let barred (x : Option Bar) : State := { s with budget := { s.budget with bar := x } }
      (¬raised → markBar s = s) ∧
      (raised → s.now < b.at' + s.tst → markBar s = barred (some { b with raised := true })) ∧
      (raised → b.at' + s.tst ≤ s.now → markBar s = barred none)) ∧
  (∀ (s : State) (b : Bar), s.run = .running → s.budget.bar = some b → b.raised = true → b.at' + s.tst ≤ s.now →
    ∃ t, exec .refusalBarLift s = .next t ∧ t.budget.bar = none ∧ t.budget.queue = s.budget.queue ∧ Kept s t) ∧
  ∀ (s : State) (m : ClaimMsg) (e : Entry), s.run = .running → s.bus.onBus = some (.control, .claim m) →
    s.budget.own.state = .onBus → claimedEntry s = some e →
    (s.budget.deficit = true ∨ s.budget.ha < (m.watts : Int)) →
    ∃ t, exec .ownClaimReceipt s = .next t ∧
      t.budget = { s.budget with
        own := OwnClaim.idle, bar := some ⟨e.arrival, s.budget.ha, s.now, false⟩
        nextNumber := s.budget.nextNumber + 1 } ∧
      (s.bus.control.length ≤ 6 →
        t.bus.control = s.bus.control.drop 1 ++ [.claimDrop m.number .refused]) ∧
      t = { s with budget := t.budget, bus := t.bus, attention := t.attention }

/-- An own CLAIM whose own receipt fails is not decided: the number is consumed, the queue and the folded claim number
stay, and a CLAIM DROP with reason BAD_RECEIPT is offered (R123). One whose entry was withdrawn meanwhile is dropped in
the same way with reason WITHDRAWN at its own receipt (R124). The withdrawal of an entry takes it out of the queue,
with the restore entry and a bar that name it; the CLAIM of a claimed entry that waits leaves the CONTROL FIFO and the
own claim is NONE, and an own claim ON_BUS stays (R114, R142); the sending check follows where the head, the own claim
or the bar changed (R113, R115, R122). A change of a slot's state or stop phase reports it to the budget unit's check,
which withdraws the slot's entry where its purpose is not valid in the state, by the table of R112, with the report
that the slot has no entry (R112, R113). That one command is the whole send and the own receipt is the model's choice
(notes/assumptions/5), the order of a change's reports its reading (notes/assumptions/4), and so is when the sending
check is made (notes/assumptions/13). -/
def Obligations.FailedReceiptsDropTheClaim : Prop :=
  (∀ (s : State) (m : ClaimMsg), s.run = .running → s.bus.onBus = some (.control, .claim m) →
    s.budget.own.state = .onBus →
    let drops (c : Instr) (r : DropReason) : Prop :=
      ∃ t, exec c s = .next t ∧ t.budget.queue = s.budget.queue ∧
        t.budget.folded = s.budget.folded ∧ t.budget.nextNumber = s.budget.nextNumber + 1 ∧
        t.budget.own.state ≠ .onBus ∧ t.bays = s.bays ∧
        (s.bus.control.length ≤ 6 → .claimDrop m.number r ∈ t.bus.control) ∧
        t.bus.good = (if r = .withdrawn then satInc s.bus.good else s.bus.good) ∧
        t.bus.crcDrops = (if r = .withdrawn then s.bus.crcDrops else satInc s.bus.crcDrops)
    drops .ownClaimBadReceipt .badReceipt ∧
    (claimedEntry s = none → drops .ownClaimReceipt .withdrawn)) ∧
  (∀ (o : StepOrder) (i : SlotIx) (f : Bay → Bay) (w : Work),
    let a := w.st.bays[i].seq
    let b := (f w.st.bays[i]).seq
    a.state ≠ b.state ∨ a.phase ≠ b.phase → .check i ∈ (modBay o i f w).reports) ∧
  (∀ (w : Work) (i : SlotIx),
    let q := w.st.bays[i].seq
    (entryOf w.st i = none → deliver (.check i) w = w) ∧
    ∀ e, entryOf w.st i = some e →
      let valid : Prop := match e.purpose with
        | .admission => q.state = .waitPower
        | .heldFigures | .operatorRaise =>
          q.state = .ramp ∨ q.state = .running ∨ (q.state = .stopping ∧ q.phase = some .draining)
        | .restorePower => q.state = .shedOff
        | .restoreCeiling => q.state = .running
      (valid → deliver (.check i) w = w) ∧
      (¬valid → deliver (.check i) w = (w.map (withdrawEntry i)).emit [.settle i])) ∧
  ∀ (s : State) (i : SlotIx),
    (entryOf s i = none → withdrawEntry i s = s) ∧
    ∀ e, entryOf s i = some e →
      let b : Budget := { s.budget with
        queue := s.budget.queue.filter fun x => x.slot != i
        restoreEntry := if s.budget.restoreEntry = some i then none else s.budget.restoreEntry
        bar := s.budget.bar.filter fun x => x.entry != e.arrival }
      (s.budget.own.state = .queued ∧ s.budget.own.claimed = some e.arrival →
        withdrawEntry i s =
          sendingCheck { withdrawQueued .control isClaim s with budget := { b with own := OwnClaim.idle } }) ∧
      (¬(s.budget.own.state = .queued ∧ s.budget.own.claimed = some e.arrival) →
        withdrawEntry i s =
          if b.queue.head? = s.budget.queue.head? ∧ b.bar = s.budget.bar then { s with budget := b }
          else sendingCheck { s with budget := b })

/-- The purpose of an admitted entry: ADMIT, and RESTORE of a slot in SHED_OFF, move the slot to RAMP with the switch
on under the limit ISTART × class / 16, the ramp timer started and the stuck check cancelled; RESTORE of a RUNNING slot
removes its shed and saved ceilings and queues a cap write; a RAISE sets the held figures or the waiting setting (R46,
R120, R142). An entry is handed to a slot that has none, and joins the queue in the order of priority and arrival; a
new priority moves it in that order (R112, R113). Restoration runs outside the census and deficit, with Ha at the
restore margin or more and no restore entry: it visits the slots in restore order, passes over those that are not shed
or have an entry, hands the first other one its RESTORE entry, and goes on only where the ceiling falls away with no
claim, after the slot's pending setting is settled at that instant, behind its held figures (R113, R139, R140, R141).
Every entry into WAIT_POWER, from any state, reports the slot's admission, and that report hands the slot's ADMIT entry
with the allowance as its watts while the slot is in WAIT_POWER (R45). The watts for a slot that holds no allowance are
a free value (notes/assumptions/23), and when the sending check is made is the model's reading (notes/assumptions/13),
as is the place of that report among those of its change (notes/assumptions/4). -/
def Obligations.AdmissionsCarryOutTheirPurpose : Prop :=
  (∀ (w : Work) (e : Entry),
    ((e.purpose = .admission ∨ e.purpose = .restorePower) →
      let b := w.st.bays[e.slot]
      let q := (carryOut e w).st.bays[e.slot].seq
      q.state = .ramp ∧ q.gate = .limited (b.cfg.istart * b.startClass / 16) ∧ q.stuckTimer = none ∧
        q.rampTimer = some (w.st.now + b.cfg.rampTime) ∧ q.ocCount = 0 ∧ q.shedCeiling = none) ∧
    (e.purpose = .restoreCeiling →
      let b := (carryOut e w).st.bays[e.slot]
      b.seq = { w.st.bays[e.slot].seq with shedCeiling := none, savedCeiling := none } ∧
        (b.seq.state = .running → b.link.cap = some ⟨b.activeCeiling, .writing, 0⟩)) ∧
    (∀ f, e.purpose = .heldFigures → w.st.bays[e.slot].link.held = some f →
      (carryOut e w).st.bays[e.slot].seq =
          { w.st.bays[e.slot].seq with allowance := some f.allowance, floor := some f.floor } ∧
        (carryOut e w).st.bays[e.slot].link.held = none) ∧
    ∀ x, e.purpose = .operatorRaise → w.st.bays[e.slot].seq.pendingOp = some (.figure x) →
      (carryOut e w).st.bays[e.slot].seq =
        { w.st.bays[e.slot].seq with
          opCeiling := some (max x (w.st.bays[e.slot].seq.floor.getD 0)), pendingOp := none }) ∧
  (∀ (s : State) (e : Entry) (l : List Entry), Ordered s l →
    Ordered s (insertEntry s e l) ∧ (insertEntry s e l).Perm (e :: l)) ∧
  (∀ (s : State) (i : SlotIx) (p : Purpose) (watts : Nat),
    let u : State := { s with budget := { s.budget with
      queue := insertEntry s ⟨i, p, watts, s.budget.nextArrival⟩ s.budget.queue
      nextArrival := s.budget.nextArrival + 1 } }
    ((entryOf s i).isSome = true → handEntry i p watts s = s) ∧
    (entryOf s i = none →
      handEntry i p watts s = if u.budget.queue.head? = s.budget.queue.head? then u else sendingCheck u) ∧
    (∀ a, s.bays[i].seq.allowance = some a → entryWatts s i = a) ∧
    (s.bays[i].seq.allowance = none → 1 ≤ entryWatts s i ∧ entryWatts s i ≤ 16000)) ∧
  (∀ (s : State) (i : SlotIx) (p : Nat),
    let t := setBay i (fun b => { b with seq := { b.seq with priority := p } }) s
    (entryOf s i = none → changePriority i p s = t) ∧
    ∀ e, entryOf s i = some e →
      let u : State := { t with budget := { s.budget with
        queue := insertEntry t e (s.budget.queue.filter fun x => x.slot != i) } }
      changePriority i p s = if u.budget.queue.head? = s.budget.queue.head? then u else sendingCheck u) ∧
  (∀ (o : StepOrder) (i : SlotIx) (f : Bay → Bay) (w : Work), w.st.bays[i].seq.state ≠ .waitPower →
    (f w.st.bays[i]).seq.state = .waitPower → .admission i ∈ (modBay o i f w).reports) ∧
  (∀ (w : Work) (i : SlotIx),
    (w.st.bays[i].seq.state = .waitPower →
      deliver (.admission i) w = w.map (handEntry i .admission (entryWatts w.st i))) ∧
    (w.st.bays[i].seq.state ≠ .waitPower → deliver (.admission i) w = w)) ∧
  (∀ s : State, (restoreOrder s).Perm (List.finRange 4) ∧
    (restoreOrder s).Pairwise fun i j => prio s j < prio s i ∨ (prio s i = prio s j ∧ i < j)) ∧
  ∀ w : Work,
    let s := w.st
    let shed (j : SlotIx) : Prop := s.bays[j].fitted = true ∧
      ((s.bays[j].seq.state = .running ∧ s.bays[j].seq.shedCeiling.isSome = true) ∨
        (s.bays[j].seq.state = .shedOff ∧ s.bays[j].seq.restoreBarred = false ∧
          (s.bays[j].seq.cause = .shed ∨ s.bays[j].seq.cause = .noncompliant)))
    let passed (j : SlotIx) : Prop := ¬shed j ∨ (entryOf s j).isSome = true
    let hands (i : SlotIx) (p : Purpose) (watts : Nat) : Work :=
      w.map fun s => handEntry i p watts { s with budget := { s.budget with restoreEntry := some i } }
    (¬(s.census = none ∧ s.budget.deficit = false ∧ (s.settings.constants.restoreMargin : Int) ≤ s.budget.ha ∧
      s.budget.restoreEntry = none) → restorationStep w = w) ∧
    (s.census = none → s.budget.deficit = false → (s.settings.constants.restoreMargin : Int) ≤ s.budget.ha →
      s.budget.restoreEntry = none → restorationStep w = restoreVisit (restoreOrder s) w) ∧
    (∀ l, (∀ j ∈ l, passed j) → restoreVisit l w = w) ∧
    ∀ (l k : List SlotIx) (i : SlotIx), (∀ j ∈ l, passed j) → ¬passed i →
      let b := s.bays[i]
      (b.seq.state = .shedOff → restoreVisit (l ++ i :: k) w = hands i .restorePower (entryWatts s i)) ∧
      (b.seq.state = .running → b.charge < b.withoutShed.charge →
        restoreVisit (l ++ i :: k) w = hands i .restoreCeiling (b.withoutShed.charge - b.charge)) ∧
      (b.seq.state = .running → b.withoutShed.charge ≤ b.charge →
        restoreVisit (l ++ i :: k) w = restoreVisit k (settlePending i (settleHeld i (modBay .fault i (fun b => { b with
          seq := { b.seq with shedCeiling := none, savedCeiling := none } }) w))))

/-! ### Questions -/

/-- Each ASK of a topic, from a source that is known, is answered at once with that topic's status and data as the
state then stands, ASK ROLL by the own ROLL CALL, and an unknown topic by NO_SUCH with no data (R18, R21, R86, R97,
R104, R126). From a source that is UNKNOWN it is heard first, and then answered alike, on a state that differs from the
heard one only by the notification. The statuses are those of R21's table, and the data are read back field by field
from the layouts of section 12.3; that the bits of an absent need's module, chosen module, bid tag or margin are 0 is
the model's choice (notes/assumptions/51). That an unknown topic can stand in every ASK row is the model's choice
(notes/assumptions/11). -/
def Obligations.AsksAreAnswered : Prop :=
  (∀ (s : State) (r : Route) (a : AskOperands), s.run = .running → r.src ≠ s.address → r.dst = s.address →
    s.peers[r.src].state = .unknown → a.unknownTopic = false →
    let heard := setPeer r.src (fun p => { p with state := .live, ageFrom := some s.now }) (countGood s)
    (∀ x ∈ [(Instr.askInventory r a, 0, fun u => answerInventory u a.selector a.chunk),
        (.askSlot r a, 1, fun u => answerSlot u a.selector), (.askMeter r a, 2, fun u => answerMeter u a.selector),
        (.askSupply r a, 3, fun u => answerSupply u a.selector), (.askStation r a, 4, answerStation),
        (.askCounters r a, 5, answerCounters)],
      ∃ t u, exec x.1 s = .next t ∧ Kept heard u ∧
        Kept (offer (.answer r.src ⟨x.2.1, (x.2.2 u).1, (x.2.2 u).2⟩ false) u) t) ∧
    ∃ t, exec (.askRoll r a) s = .next t ∧ Kept (offer .rollCall heard) t) ∧
  (∀ (s : State) (r : Route) (a : AskOperands), s.run = .running → r.src ≠ s.address → r.dst = s.address →
    s.peers[r.src].state ≠ .unknown →
    let answer (topic : Nat) (x : AnswerStatus × List Byte) : Host.Outcome State Fault Refusal :=
      .next (settleFlags (offer (.answer r.src ⟨topic, x.1, x.2⟩ false) (countGood s)))
    (a.unknownTopic = false →
      exec (.askInventory r a) s = answer 0 (answerInventory s a.selector a.chunk) ∧
      exec (.askSlot r a) s = answer 1 (answerSlot s a.selector) ∧
      exec (.askMeter r a) s = answer 2 (answerMeter s a.selector) ∧
      exec (.askSupply r a) s = answer 3 (answerSupply s a.selector) ∧
      exec (.askStation r a) s = answer 4 (answerStation s) ∧
      exec (.askCounters r a) s = answer 5 (answerCounters (countGood s)) ∧
      exec (.askRoll r a) s = .next (settleFlags (offer .rollCall (countGood s)))) ∧
    (a.unknownTopic = true → ∀ c ∈ [Instr.askInventory r a, .askSlot r a, .askMeter r a, .askSupply r a,
      .askStation r a, .askCounters r a, .askRoll r a], exec c s = answer 15 (.noSuch, []))) ∧
  (∀ (s : State) (n chunk : Nat),
    ((∀ i : SlotIx, i.val = n → s.bays[i].fitted = false) → answerInventory s n chunk = (.noSuch, []) ∧
      answerSlot s n = (.noSuch, []) ∧ answerMeter s n = (.noSuch, [])) ∧
    ((∀ c : ChanIx, c.val = n → s.settings.supplyCount ≤ n) → answerSupply s n = (.noSuch, [])) ∧
    ∀ i : SlotIx, i.val = n → s.bays[i].fitted = true →
      let b := s.bays[i]
      let notYet : Prop :=
        b.seq.state = .identify ∨ b.seq.adopted = true ∨ (b.link.record = none ∧ b.link.inventory.isSome = true)
      let x := answerInventory s n chunk
      (3 < chunk ∨ b.seq.state = .empty → x = (.noSuch, [])) ∧
      (chunk ≤ 3 → b.seq.state ≠ .empty → notYet → x = (.notYet, [])) ∧
      (chunk ≤ 3 → b.seq.state ≠ .empty → ¬notYet →
        (∀ r, b.link.record = some r → r.status ≠ .absent →
          x = (.ok, (r.bytes.drop (24 * chunk)).take 24 ++ [if r.status = .valid then 0 else 1])) ∧
        ((∀ r, b.link.record = some r → r.status = .absent) → x = (.ok, List.replicate 24 0 ++ [2])))) ∧
  (∀ (s : State) (i : SlotIx), s.bays[i].fitted = true → ∃ d, answerSlot s i.val = (.ok, d) ∧ d.length = 31 ∧
    let b := s.bays[i]
    let q := b.seq
    let l := b.link
    let word (k : Nat) (x : Option Nat) : Prop := be16At d k = x.getD 0 % 65536
    natAt d 0 = 16 * q.state.code + q.cause.code ∧ word 1 q.allowance ∧ word 3 q.floor ∧ word 5 q.opCeiling ∧
    word 7 q.shedCeiling ∧ word 9 q.savedCeiling ∧ word 11 (some b.activeCeiling) ∧ word 13 (some b.charge) ∧
    natAt d 15 = (if l.health = .unresponsive then 128 else 0) + (if l.capUnacked = true then 64 else 0) +
      (if l.margin.isSome = true then 32 else 0) + (match l.bladeState with
        | none => 0
        | some .booting => 1
        | some .up => 2
        | some .softOffRequest => 3) ∧
    d[16]? = some (BitVec.ofInt 8 (l.margin.getD 0)) ∧ word 17 l.lastCap ∧
    ∀ p : PortIx,
      let r := b.ports[p]
      let k := 19 + 3 * p.val
      ((∀ n, r.need = some n → n.lanes ∈ [1, 2, 4]) →
        natAt d k = 32 * r.state.code + (match r.need with
          | none => 0
          | some n => 8 * (if n.lanes = 4 then 3 else n.lanes) + (match n.module with
            | some m => m.val
            | none => 4))) ∧
      ((∀ g, r.group = some g → g.lanes ∈ [1, 2, 4] ∧ g.first % g.lanes = 0 ∧ g.first < 8) →
        natAt d (k + 1) = 64 * (r.chosen.map (·.val)).getD 0 + (if r.chosen.isSome = true then 32 else 0) +
          (if r.tag.isSome = true then 16 else 0) + (match r.group with
            | none => 0
            | some g => if g.lanes = 1 then 1 + g.first else if g.lanes = 2 then 9 + g.first / 2 else
                13 + g.first / 4)) ∧
      natAt d (k + 2) = (r.tag.getD 0).toNat) ∧
  ([SlotState.empty, .identify, .off, .waitPower, .ramp, .running, .stopping, .retryWait, .latched, .shedOff,
      .stuck].map (·.code) = List.range 11 ∧
    [ShutdownCause.none, .operator, .overcurrent, .severeOc, .rampTimeout, .surpriseRemoval, .shed, .noncompliant,
      .stuck, .bladeRequest].map (·.code) = List.range 10 ∧
    [PortState.none, .bidding, .deferred, .held, .lost, .unplaced].map (·.code) = List.range 6) ∧
  (∀ (s : State) (i : SlotIx), s.bays[i].fitted = true → ∃ d, answerMeter s i.val = (.ok, d) ∧ d.length = 19 ∧
    let m := s.bays[i].meter
    be16At d 0 * 65536 + be16At d 2 = m.energy % 4294967296 ∧ be16At d 4 = m.rollovers % 65536 ∧
    be16At d 6 * 65536 + be16At d 8 = m.samples % 4294967296 ∧ be16At d 10 = m.voltAvg % 65536 ∧
    be16At d 12 = m.ampAvg % 65536 ∧ be16At d 14 = m.powerAvg % 65536 ∧ be16At d 16 = m.peak % 65536 ∧
    natAt d 18 = if m.overRange = true then 1 else 0) ∧
  (∀ (s : State) (c : ChanIx), c.val < s.settings.supplyCount → ∃ d, answerSupply s c.val = (.ok, d) ∧ d.length = 5 ∧
    natAt d 0 = (if s.settings.supplies[c].feed = .a then 0 else 128) + (match s.supplies[c].state with
      | .absent => 0
      | .ok => 1
      | .degraded => 2
      | .failed => 3) ∧
    be16At d 1 = s.settings.supplies[c].rated % 65536 ∧ be16At d 3 = min s.supplies[c].output 65535) ∧
  ∀ s : State,
    (∃ d, answerStation s = (.ok, d) ∧ d.length = 15 ∧ be16At d 0 = s.budget.committed % 65536 ∧
      ((be16At d 2 * 65536 + be16At d 4 : Nat) : Int) = s.budget.ha % 4294967296 ∧
      ((be16At d 6 * 65536 + be16At d 8 : Nat) : Int) = s.budget.hs % 4294967296 ∧
      (s.budget.factor < 32 → natAt d 10 = (if s.budget.deficit = true then 128 else 0) + s.budget.factor) ∧
      (let a := s.attention
        let any (f : SlotFlags → Bool) : Bool := f a.slots[0] || f a.slots[1] || f a.slots[2] || f a.slots[3]
        (List.range 16).map (be16At d 11).testBit =
          [a.station.busFaults, a.station.startDefaults, a.station.configMismatch, a.station.fanFailed,
            a.station.redundancyLost, a.station.deficit, any (·.noncompliant), any (·.stuck), any (·.latched),
            false, false, false, false, false, false, false] ∧
        ∀ i : SlotIx, (be16At d 13).testBit (3 * i.val) = a.slots[i].noncompliant ∧
          (be16At d 13).testBit (3 * i.val + 1) = a.slots[i].stuck ∧
          (be16At d 13).testBit (3 * i.val + 2) = a.slots[i].latched)) ∧
    ∃ d, answerCounters s = (.ok, d) ∧ d.length = 8 ∧ be16At d 0 = s.bus.good % 65536 ∧
      be16At d 2 = s.bus.crcDrops % 65536 ∧ be16At d 4 = s.bus.overflows % 65536 ∧
      be16At d 6 = s.bus.ordersRefused % 65536

/-! ### The trunk unit -/

/-- A LANE BID for the station's module, of 1, 2 or 4 lanes, is answered by the first case that applies: what it holds
is offered again, and what stands under the same tag is answered as it stands. Any other bid first supersedes what its
port holds under another tag, whose lanes and latches are freed with a reservation where lanes became FREE; it is then
offered its first fit, which it then holds; without a fit it is refused TOO_WIDE where the module has fewer lanes,
deferred with a latch where one is free, and refused LATCHES_FULL otherwise. A bid for another number of lanes is
answered with nothing, and so is one for a module that the station does not own: it is only counted (R17, R159, R160).
All this holds of a source that is known, and of the station's own bid to itself, taken as it is sent (R4); a bid from
an UNKNOWN source changes the owner record as the same bid from a known one. That one command is the whole send and the
own receipt is the model's choice (notes/assumptions/5). -/
def Obligations.BidsAreAnsweredByTheFirstCase : Prop :=
  (∀ (s : State) (r : Route) (m : BidMsg) (o : Owner), s.run = .running → r.src ≠ s.address → r.dst = s.address →
    s.peers[r.src].state = .unknown → s.owner = some o → o.module = m.module →
    ∃ t u, exec (.laneBidReceived r m) s = .next t ∧ t.owner = u.owner ∧
      exec (.laneBidReceived r m) (setPeer r.src (fun p => { p with state := .live, ageFrom := some s.now }) s) =
        .next u) ∧
  (∀ (src : Addr) (m : BidMsg) (o : Owner),
    let u := o.without (latchOfPort src m) (holderOfPort src m)
    supersede src m o = (if u.lanes = o.lanes then u else reserve u) ∧
    ((∀ l ∈ o.latches, latchOfPort src m l = false) → findHolder (holderOfPort src m) o.lanes = none →
      supersede src m o = o)) ∧
  (∀ (s : State) (r : Route) (m : BidMsg), (∀ o, s.owner = some o → o.module ≠ m.module) →
    (∀ c u, Arrives (.laneBidReceived r m) (.laneBid r.dst m) r.src c s u → exec c s = .next (settleFlags u)) ∧
    (s.run = .running → r.src ≠ s.address → s.peers[r.src].state = .unknown →
      ∃ t, exec (.laneBidReceived r m) s = .next t ∧
        Kept (setPeer r.src (fun p => { p with state := .live, ageFrom := some s.now }) (countGood s)) t)) ∧
  ∀ (s u : State) (c : Instr) (r : Route) (m : BidMsg) (o : Owner),
    Arrives (.laneBidReceived r m) (.laneBid r.dst m) r.src c s u → r.dst = s.address →
    s.owner = some o → o.module = m.module →
    let gives (m : Outgoing) (o : Owner) : Host.Outcome State Fault Refusal :=
      .next (settleFlags (offer m { u with owner := some o }))
    let offered (g : Group) : Outgoing := .laneOffer r.src ⟨m.module.val, m.tag, g.first, g.lanes⟩
    let held (g : Group) : LaneState := .held ⟨r.src, m.slot, m.port, m.tag, g⟩
    (lanesOk m.lanes = false → exec c s = .next (settleFlags u)) ∧
    (∀ h, lanesOk m.lanes = true → findHolder (fun h => holderOfPort r.src m h && h.tag == m.tag) o.lanes = some h →
      exec c s = gives (offered h.group) o) ∧
    (lanesOk m.lanes = true → findHolder (fun h => holderOfPort r.src m h && h.tag == m.tag) o.lanes = none →
      (∀ l, o.latches.find? (fun l => latchOfPort r.src m l && l.tag == m.tag) = some l →
        (∀ g, l.reserved = some g → exec c s = gives (offered g) { o with
          lanes := setGroup o.lanes g (held g), latches := o.latches.filter fun x => x.created != l.created }) ∧
        (l.reserved = none → exec c s = gives (.laneDefer r.src ⟨m.module.val, m.tag⟩) { o with
          latches := o.latches.map fun x =>
            if x.created == l.created then { x with discard := s.now + 1000 } else x })) ∧
      (o.latches.find? (fun l => latchOfPort r.src m l && l.tag == m.tag) = none →
        let x := supersede r.src m o
        (∀ g, firstFit x.lanes m.lanes = some g → exec c s =
          gives (offered g) { x with lanes := setGroup x.lanes g (held g) }) ∧
        (firstFit x.lanes m.lanes = none →
          (x.lanes.length < m.lanes → exec c s =
            gives (.laneRefuse r.src ⟨m.module.val, m.tag, 1⟩) x) ∧
          (m.lanes ≤ x.lanes.length → x.latches.length < 4 → exec c s =
            gives (.laneDefer r.src ⟨m.module.val, m.tag⟩) { x with
              latches := x.latches ++
                [⟨r.src, m.slot, m.port, m.lanes, m.tag, x.nextLatch, none, s.now + 1000⟩]
              nextLatch := x.nextLatch + 1 }) ∧
          (m.lanes ≤ x.lanes.length → 4 ≤ x.latches.length → exec c s =
            gives (.laneRefuse r.src ⟨m.module.val, m.tag, 0⟩) x))))

/-- The first fit for 1, 2 or 4 lanes is the lowest aligned group of FREE lanes below the lane count (R158). -/
def Obligations.FirstFitIsTheLowestFreeGroup : Prop :=
  ∀ (lanes : List LaneState) (n : Nat) (g : Group), lanesOk n = true →
    let free (f : Nat) : Prop := f % n = 0 ∧ f + n ≤ lanes.length ∧ ∀ k, f ≤ k → k < f + n → lanes[k]? = some .free
    (firstFit lanes n = some g ↔ g.lanes = n ∧ free g.first ∧ ∀ f, f < g.first → ¬free f) ∧
      (firstFit lanes n = none ↔ ∀ f, ¬free f)

/-- A LANE RETURN of a group that its source holds frees the group's lanes, and reservation runs; any other LANE
RETURN, one of another module or to a station that owns none among them, changes nothing but the good count (R162),
from a source that is known; from an UNKNOWN one it changes the owner record in the same way. The station's own LANE
RETURN to itself acts alike as it is sent (R4); that one command is the whole send and the own receipt is the model's
choice (notes/assumptions/5). At the expiry of a latch's discard timer the latch is freed with its reserved lanes, and
reservation runs (R161). Reservation is one scan over the latches that have no reservation, from the requester after
the one last served on and by creation within a requester: each latch's first fit becomes RESERVED for it and its
requester is last served, and a latch without a fit is passed over (R160). -/
def Obligations.ReturnsAndDiscardsFreeLanes : Prop :=
  (∀ (s : State) (r : Route) (m : ReturnMsg), s.run = .running → r.src ≠ s.address → r.dst = s.address →
    s.peers[r.src].state = .unknown →
    ∃ t u, exec (.laneReturnReceived r m) s = .next t ∧ t.owner = u.owner ∧
      exec (.laneReturnReceived r m) (setPeer r.src (fun p => { p with state := .live, ageFrom := some s.now }) s) =
        .next u) ∧
  (∀ (s : State) (r : Route) (m : ReturnMsg), (∀ o, s.owner = some o → o.module.val ≠ m.module) →
    (∀ c u, Arrives (.laneReturnReceived r m) (.laneReturn r.dst m) r.src c s u → exec c s = .next (settleFlags u)) ∧
    (s.run = .running → r.src ≠ s.address → s.peers[r.src].state = .unknown →
      ∃ t, exec (.laneReturnReceived r m) s = .next t ∧
        Kept (setPeer r.src (fun p => { p with state := .live, ageFrom := some s.now }) (countGood s)) t)) ∧
  (∀ (s : State) (o : Owner), s.run = .running → s.owner = some o →
    (∀ (u : State) (c : Instr) (r : Route) (m : ReturnMsg),
      Arrives (.laneReturnReceived r m) (.laneReturn r.dst m) r.src c s u → r.dst = s.address → o.module.val = m.module →
      let p (h : Holder) : Bool := h.requester == r.src && h.group.first == m.first && h.group.lanes == m.lanes
      ((findHolder p o.lanes).isSome = true → exec c s = .next (settleFlags { u with
        owner := some (reserve (o.without (fun _ => false) p)) })) ∧
      (findHolder p o.lanes = none → exec c s = .next (settleFlags u))) ∧
    ∀ (k : Nat) (l : Latch), o.latches[k]? = some l → l.discard ≤ s.now →
      exec (.latchDiscard k) s = .next (settleFlags { s with
        owner := some (reserve (o.without (fun x => x.created == l.created) (fun _ => false))) })) ∧
  (∀ o : Owner,
    let place (l : Latch) : Nat := (l.requester.val + 15 - o.lastServed.val) % 16
    (scanOrder o).Perm (o.latches.filter fun l => l.reserved.isNone) ∧
    (scanOrder o).Pairwise (fun x y => place x < place y ∨ (place x = place y ∧ x.created ≤ y.created)) ∧
    reserve o = (scanOrder o).foldl reserveStep o) ∧
  (∀ (o : Owner) (l : Latch),
    (firstFit o.lanes l.lanes = none → reserveStep o l = o) ∧
    ∀ g, firstFit o.lanes l.lanes = some g → reserveStep o l = { o with
      lanes := setGroup o.lanes g (.reserved l.created)
      latches := o.latches.map fun x => if x.created = l.created then { x with reserved := some g } else x
      lastServed := l.requester }) ∧
  ∀ (lanes : List LaneState) (g : Group) (x : LaneState) (k : Nat), (setGroup lanes g x)[k]? =
    if g.first ≤ k ∧ k < g.first + g.lanes ∧ k < lanes.length then some x else lanes[k]?

/-- An answer acts on the record it matches: an OFFER connects a record that asks, and is returned by any other that
does not hold that group; a DEFER defers a BIDDING record; a REFUSE unplaces a record that asks for 10 Tst (R168). A
LANE WITHDRAW of a HELD group loses it for one Tst. A DEFER of a record in any other state, a REFUSE of one that does
not ask, and an answer or a withdrawal that matches no record, that has a field out of its range or that is destined
for another station is only counted (R4, R168, R170, R190). The station's own message to itself acts alike as it is
sent (R4); that one command is the whole send and the own receipt is the model's choice (notes/assumptions/5). That a
HELD record offered another group keeps its own and loses its bid tag is the model's reading (notes/assumptions/20),
and which record a LANE WITHDRAW matches where two hold its group is its choice (notes/assumptions/40), as is the
taking of an offer whose lanes make no aligned group (notes/assumptions/48). -/
def Obligations.LaneAnswersActOnTheirRecord : Prop :=
  (∀ (s u : State) (c : Instr) (r : Route),
    let elsewhere : Prop := r.dst ≠ s.address
    (∀ m : OfferMsg, Arrives (.laneOfferReceived r m) (.laneOffer r.dst m) r.src c s u →
      elsewhere ∨ m.inRange = false ∨ matchAnswer s m.module m.tag = none → exec c s = .next (settleFlags u)) ∧
    (∀ m : DeferMsg, Arrives (.laneDeferReceived r m) (.laneDefer r.dst m) r.src c s u →
      elsewhere ∨ matchAnswer s m.module m.tag = none → exec c s = .next (settleFlags u)) ∧
    (∀ m : RefuseMsg, Arrives (.laneRefuseReceived r m) (.laneRefuse r.dst m) r.src c s u →
      elsewhere ∨ m.inRange = false ∨ matchAnswer s m.module m.tag = none → exec c s = .next (settleFlags u)) ∧
    ∀ m : WithdrawMsg, Arrives (.laneWithdrawReceived r m) (.laneWithdraw r.dst m) r.src c s u →
      elsewhere ∨ m.inRange = false ∨ matchWithdraw s m = none → exec c s = .next (settleFlags u)) ∧
  ∀ (s u : State) (c : Instr) (r : Route) (i : SlotIx) (p : PortIx), r.dst = s.address →
    (∀ m : OfferMsg, Arrives (.laneOfferReceived r m) (.laneOffer r.dst m) r.src c s u → m.inRange = true →
      matchAnswer s m.module m.tag = some (i, p) →
      ((portOf s i p).state = .bidding ∨ (portOf s i p).state = .deferred →
        exec c s = .next (settleFlags (setPort i p (fun x => { x with
          state := .held, group := some ⟨m.first, m.lanes⟩, timer := none
          cross := x.chosen.map fun c => ⟨c, ⟨m.first, m.lanes⟩⟩ }) u))) ∧
      ((portOf s i p).state = .held → (portOf s i p).group = some ⟨m.first, m.lanes⟩ →
        exec c s = .next (settleFlags u)) ∧
      ((portOf s i p).state = .none ∨ (portOf s i p).state = .lost ∨ (portOf s i p).state = .unplaced ∨
          ((portOf s i p).state = .held ∧ (portOf s i p).group ≠ some ⟨m.first, m.lanes⟩) →
        exec c s = .next (settleFlags (setPort i p (fun x => { x with tag := none })
          (offer (.laneReturn r.src ⟨m.module, m.first, m.lanes⟩) u))))) ∧
    (∀ m : DeferMsg, Arrives (.laneDeferReceived r m) (.laneDefer r.dst m) r.src c s u →
      matchAnswer s m.module m.tag = some (i, p) →
      exec c s = .next (settleFlags (if (portOf s i p).state = .bidding then
        setPort i p (fun x => { x with state := .deferred }) u else u))) ∧
    (∀ m : RefuseMsg, Arrives (.laneRefuseReceived r m) (.laneRefuse r.dst m) r.src c s u → m.inRange = true →
      matchAnswer s m.module m.tag = some (i, p) →
      exec c s = .next (settleFlags (if (portOf s i p).state = .bidding ∨ (portOf s i p).state = .deferred then
        setPort i p (fun x => { x with state := .unplaced, timer := some (s.now + 10 * s.tst) }) u else u))) ∧
    ∀ m : WithdrawMsg, Arrives (.laneWithdrawReceived r m) (.laneWithdraw r.dst m) r.src c s u → m.inRange = true →
      matchWithdraw s m = some (i, p) →
      exec c s = .next (settleFlags (setPort i p (fun x => { x with
        state := .lost, group := none, cross := none, timer := some (s.now + s.tst) }) u))

/-- A lane's fault input is debounced for 10 ms; an assertion taken fences a FREE lane, frees the lanes of a RESERVED
one's latch, which goes on without its reservation, and frees a HELD group with a LANE WITHDRAW FENCED to its holder; a
deassertion taken frees a FENCED lane; reservation runs where lanes became FREE (R157). -/
def Obligations.LaneFaultsFenceLanes : Prop :=
  ∀ (s : State) (o : Owner) (l : LaneIx), s.run = .running → s.owner = some o → l.val < o.lanes.length →
    (∀ b, o.faults[l].raw ≠ b → exec (.laneFaultInputChange l b) s = .next (settleFlags { s with
      owner := some { o with faults := updAt o.faults l fun x => { x with
        raw := b, timer := if b = x.level then none else some (s.now + 10) } } })) ∧
    (∀ d, o.faults[l].timer = some d → d ≤ s.now → o.faults[l].raw = true → o.faults[l].level = false →
      let u : Owner := { o with faults := updAt o.faults l fun x => { x with level := true, timer := none } }
      (o.lanes[l.val]? = some .free → exec (.laneFaultAsserted l) s = .next (settleFlags { s with
        owner := some { u with lanes := o.lanes.set l.val .fenced } })) ∧
      (∀ k, o.lanes[l.val]? = some (.reserved k) → exec (.laneFaultAsserted l) s = .next (settleFlags { s with
        owner := some (reserve { u with
          lanes := (o.lanes.map fun x => if x = .reserved k then .free else x).set l.val .fenced
          latches := o.latches.map fun x => if x.created = k then { x with reserved := none } else x }) })) ∧
      (∀ h, o.lanes[l.val]? = some (.held h) → exec (.laneFaultAsserted l) s = .next (settleFlags
        (offer (.laneWithdraw h.requester ⟨o.module.val, h.group.first, h.group.lanes, 0⟩) { s with
          owner := some (reserve { u with
            lanes := (o.lanes.map fun x => if x = .held h then .free else x).set l.val .fenced }) }))) ∧
      (o.lanes[l.val]? = some .fenced → exec (.laneFaultAsserted l) s =
        .next (settleFlags { s with owner := some u }))) ∧
    ∀ d, o.faults[l].timer = some d → d ≤ s.now → o.faults[l].raw = false → o.faults[l].level = true →
      let u : Owner := { o with faults := updAt o.faults l fun x => { x with level := false, timer := none } }
      (o.lanes[l.val]? = some .fenced → exec (.laneFaultCleared l) s = .next (settleFlags { s with
        owner := some (reserve { u with lanes := o.lanes.set l.val .free }) })) ∧
      (o.lanes[l.val]? ≠ some .fenced → exec (.laneFaultCleared l) s =
        .next (settleFlags { s with owner := some u }))

/-- At the expiry of the unplaced timer the record makes the module choice afresh: with a chosen module it makes a new
bid under a tag from the tag counter, which then stands after it, with none it stays UNPLACED and restarts the timer
for 10 Tst; its need stays (R165, R169). The tag is the first from the counter on that no other record in BIDDING,
DEFERRED or HELD holds; any other record that holds its value loses its tag, and nothing else of another record changes
(R165). The choice is the need's module where that is suitable, and for ANY the suitable one with the most free lanes,
of equal ones the lowest: a module is suitable when its owner, the lowest address that announces it, is the station
itself or LIVE, and announces as many lanes as the need (R35, R166). The free lanes of a peer's module are those of its
last STANDING, 0 without one, which is the model's reading (notes/assumptions/22). -/
def Obligations.UnplacedRecordsChooseAfresh : Prop :=
  (∀ (s : State) (i : SlotIx) (p : PortIx) (d : Nat) (n : Need), s.run = .running →
    (portOf s i p).state = .unplaced → (portOf s i p).timer = some d → d ≤ s.now → (portOf s i p).need = some n →
    (∀ m a, chooseModule s n = some (m, a) → ∃ t tag, exec (.unplacedTimerExpiry i p) s = .next t ∧
      (portOf t i p).state = .bidding ∧ (portOf t i p).chosen = some m ∧ (portOf t i p).owner = some a ∧
      (portOf t i p).need = some n ∧ (portOf t i p).tag = some tag ∧ (portOf t i p).timer = some (s.now + s.tst) ∧
      t.tagCounter = tag + 1 ∧ (tagInUse s i p s.tagCounter = false → tag = s.tagCounter) ∧
      tagInUse s i p tag = false ∧
      (∃ k : Nat, tag = s.tagCounter + BitVec.ofNat 8 k ∧
        ∀ j, j < k → tagInUse s i p (s.tagCounter + BitVec.ofNat 8 j) = true) ∧
      (∀ (j : SlotIx) (q : PortIx), (j, q) ≠ (i, p) → portOf t j q =
        if (portOf s j q).tag = some tag then { portOf s j q with tag := none } else portOf s j q) ∧
      t.bus = s.bus.offer (.laneBid a ⟨m, i, p, n.lanes, tag⟩) s.now s.tst) ∧
    (chooseModule s n = none → exec (.unplacedTimerExpiry i p) s =
      .next (settleFlags (setPort i p (fun x => { x with timer := some (s.now + 10 * s.tst) }) s)))) ∧
  (∀ (s : State) (i : SlotIx) (p : PortIx) (tag : Serial),
    tagInUse s i p tag = true ↔ ∃ (j : SlotIx) (q : PortIx), (j, q) ≠ (i, p) ∧ (portOf s j q).tag = some tag ∧
      ((portOf s j q).state = .bidding ∨ (portOf s j q).state = .deferred ∨ (portOf s j q).state = .held)) ∧
  (∀ (s : State) (m : ModuleIx) (a : Addr),
    let announces (b : Addr) : Prop := ∃ r, trunkRoleAt s b = some r ∧ r.module = m
    ownerOf s m = some a ↔ announces a ∧ ∀ b : Addr, b < a → ¬announces b) ∧
  ∀ (s : State) (n : Need),
    let suits (m : ModuleIx) (a : Addr) : Prop := ownerOf s m = some a ∧
      (a = s.address ∨ s.peers[a].state = .live) ∧ ∃ r, trunkRoleAt s a = some r ∧ n.lanes ≤ r.lanes
    let free (m : ModuleIx) (a : Addr) : Nat :=
      if a = s.address then (match s.owner with
        | some o => if o.module = m then (o.lanes.filter (· == .free)).length else 0
        | none => 0)
      else s.peers[a].freeLanes m
    (∀ k m a, n.module = some k → (chooseModule s n = some (m, a) ↔ m = k ∧ suits m a)) ∧
    ∀ m a, n.module = none → (chooseModule s n = some (m, a) ↔ suits m a ∧
      ∀ m' a', suits m' a' → free m' a' < free m a ∨ (free m' a' = free m a ∧ m ≤ m'))

/-- At the expiry of a BIDDING or DEFERRED record's timer its bid is presented again under its tag to the module's
owner, unless one is queued, and the timer runs on (R167); at the expiry of the lost timer the record makes the module
choice, and bids or is UNPLACED (R170). Each new bid takes a tag that no other record in BIDDING, DEFERRED or HELD
holds, any other record that holds its value loses its tag, and the tag counter then stands after it (R165). The report
of a slot's entry into RUNNING takes the needs that its VALID record then lists, and starts its four records in port
order: a port without a need keeps its record, one with a need bids or is UNPLACED (R166). In the census the report
takes the needs alone, and the records start at the census's end on the needs taken (R76, R188). Its leaving RUNNING
ends them: each withdraws its queued bid, whatever its state (R9), a HELD record returns its lanes, and each is in
NONE, without need, group, timer or connection (R172, R173). That the timer runs on from the instant of the expiry's
taking is the model's choice (notes/assumptions/28), that a bid is queued while it has not won the bus its reading
(notes/assumptions/8), that R9 withdraws a bid in every state its reading (notes/assumptions/35), that the four records
end in port order and a bid is withdrawn before lanes are returned its choice (notes/assumptions/46), and that the
needs taken are kept apart from the records its reading (notes/assumptions/49). -/
def Obligations.BidsArePresentedAgain : Prop :=
  let takesTag (s t : State) (i : SlotIx) (p : PortIx) (tag : Serial) : Prop :=
    tagInUse s i p tag = false ∧ ∀ (j : SlotIx) (q : PortIx), (j, q) ≠ (i, p) → portOf t j q =
      if (portOf s j q).tag = some tag then { portOf s j q with tag := none } else portOf s j q
  (∀ (s : State) (i : SlotIx) (p : PortIx) (d : Nat) (n : Need), s.run = .running → (portOf s i p).timer = some d →
    d ≤ s.now → (portOf s i p).need = some n →
    (∀ m a tag, (portOf s i p).state = .bidding ∨ (portOf s i p).state = .deferred →
      (portOf s i p).chosen = some m → (portOf s i p).tag = some tag → ownerOf s m = some a →
      (bidQueued s i p = false → exec (.representTimerExpiry i p) s = .next (settleFlags
        (offer (.laneBid a ⟨m, i, p, n.lanes, tag⟩)
          (setPort i p (fun x => { x with owner := some a, timer := some (s.now + s.tst) }) s)))) ∧
      (bidQueued s i p = true → exec (.representTimerExpiry i p) s = .next (settleFlags
        (setPort i p (fun x => { x with timer := some (s.now + s.tst) }) s)))) ∧
    ((portOf s i p).state = .lost →
      (∀ m a, chooseModule s n = some (m, a) → ∃ t, exec (.lostTimerExpiry i p) s = .next t ∧
        (portOf t i p).state = .bidding ∧ (portOf t i p).chosen = some m ∧ (portOf t i p).owner = some a ∧
        (portOf t i p).timer = some (s.now + s.tst) ∧
        ∃ tag, (portOf t i p).tag = some tag ∧ t.tagCounter = tag + 1 ∧ takesTag s t i p tag ∧
          t.bus = s.bus.offer (.laneBid a ⟨m, i, p, n.lanes, tag⟩) s.now s.tst) ∧
      (chooseModule s n = none → exec (.lostTimerExpiry i p) s = .next (settleFlags (setPort i p (fun x => { x with
        state := .unplaced, timer := some (s.now + 10 * s.tst) }) s))))) ∧
  (∀ (o : StepOrder) (i : SlotIx) (f : Bay → Bay) (w : Work),
    let a := w.st.bays[i].seq
    let b := (f w.st.bays[i]).seq
    (b.state = .running → b.adopted = false → (a.state ≠ .running ∨ a.adopted = true) →
      .entered i ∈ (modBay o i f w).reports) ∧
    (a.state = .running → b.state ≠ .running → .left i ∈ (modBay o i f w).reports)) ∧
  (∀ (w : Work) (i : SlotIx),
    let taken : State → State := setBay i fun b => { b with needs := Vector.ofFn b.needOf }
    (w.st.bays[i].seq.state = .running → w.st.bays[i].seq.adopted = false →
      (w.st.census = none → deliver (.entered i) w = w.map fun s => startPorts i (taken s)) ∧
      (w.st.census.isSome = true → deliver (.entered i) w = w.map taken)) ∧
    (w.st.bays[i].seq.state ≠ .running ∨ w.st.bays[i].seq.adopted = true → deliver (.entered i) w = w) ∧
    deliver (.left i) w = w.map fun s => endPort i (endPort i (endPort i (endPort i s 0) 1) 2) 3) ∧
  (∀ (b : Bay) (p : PortIx),
    (b.recordValid = false → b.needOf p = none) ∧
    ∀ r, b.link.record = some r → r.status = .valid →
      let port (k : Nat) : Nat := natAt r.bytes (26 + 2 * k) / 16
      ((∀ k, k < natAt r.bytes 25 → port k ≠ p.val) → b.needOf p = none) ∧
      ∀ k, k < natAt r.bytes 25 → port k = p.val → (∀ j, j < k → port j ≠ p.val) →
        ∃ n, b.needOf p = some n ∧ n.lanes = natAt r.bytes (26 + 2 * k) % 16 ∧
          ∀ m : ModuleIx, n.module = some m ↔ natAt r.bytes (27 + 2 * k) = m.val) ∧
  (∀ (s : State) (i : SlotIx),
    startPorts i s = startPort i (startPort i (startPort i (startPort i s 0) 1) 2) 3) ∧
  ∀ (s : State) (i : SlotIx) (p : PortIx),
    (s.bays[i].needs[p] = none → startPort i s p = setPort i p (fun r => { r with need := none }) s) ∧
    (∀ n, s.bays[i].needs[p] = some n →
      (chooseModule s n = none → startPort i s p = setPort i p (fun r => { r with
        need := some n, state := .unplaced, timer := some (s.now + 10 * s.tst) }) s) ∧
      (∀ m a, chooseModule s n = some (m, a) →
        let t := startPort i s p
        (portOf t i p).state = .bidding ∧ (portOf t i p).need = some n ∧ (portOf t i p).chosen = some m ∧
          (portOf t i p).owner = some a ∧ (portOf t i p).timer = some (s.now + s.tst) ∧
          ∃ tag, (portOf t i p).tag = some tag ∧ t.tagCounter = tag + 1 ∧ takesTag s t i p tag ∧
            t.bus = s.bus.offer (.laneBid a ⟨m, i, p, n.lanes, tag⟩) s.now s.tst)) ∧
    let r := portOf s i p
    let ended : State → State := setPort i p fun r => { r with
      state := .none, need := none, group := none, timer := none, cross := none }
    (∀ m a g, r.state = .held → r.chosen = some m → r.owner = some a → r.group = some g →
      endPort i s p =
        ended (offer (.laneReturn a ⟨m.val, g.first, g.lanes⟩) (withdrawQueued .control (isBidOf i p) s))) ∧
    (r.state ≠ .held → endPort i s p = ended (withdrawQueued .control (isBidOf i p) s)) ∧
    bidQueued (endPort i s p) i p = false

/-! ### Orders -/

/-- An ORDER from a source without the operator role, or with a list of none or of more than four actions, is refused:
answered REFUSED, counted, and none of its actions carried out (R174). One from an UNKNOWN source with no role set is
heard and then refused alike. Any other is taken: the condition source is sampled once, the actions of the list run in
order, and the ANSWER carries their outcome codes (R175, R176). An action after a RESTART carried out is REJECTED, one
that the condition leaves out is SKIPPED, one of no known code is REJECTED, and every other is carried out with all it
causes before the next is looked at (R175, R176, R178). The order of these tests, and that a warm restart whose ANSWER
is refused begins at once, are the model's readings (notes/assumptions/24), and what an order row's own place may hold
is its choice (notes/assumptions/11). -/
def Obligations.OrdersNotTakenAreRefused : Prop :=
  (∀ (s : State) (h : OrderHead) (b : List OrderAction) (o : OwnAction) (a : List OrderAction), s.run = .running →
    h.route.src ≠ s.address → h.route.dst = s.address → ∀ c ∈ orderRows h b o a,
      (s.peers[h.route.src].state ≠ .unknown →
        (s.peers[h.route.src].operatorRole = false ∨ b.length + o.length + a.length = 0 ∨
          4 < b.length + o.length + a.length) →
        exec c.1 s = .next (settleFlags
          (offer (.answer h.route.src ⟨7, .refused, []⟩ false) (countOrderRefused (countGood s))))) ∧
      (s.peers[h.route.src].state = .unknown → s.peers[h.route.src].roles = none →
        ∃ t, exec c.1 s = .next t ∧ Kept (offer (.answer h.route.src ⟨7, .refused, []⟩ false) (countOrderRefused
          (setPeer h.route.src (fun p => { p with state := .live, ageFrom := some s.now }) (countGood s)))) t) ∧
      (s.peers[h.route.src].operatorRole = true →
        let l := b ++ (match o with
          | .act target value => [⟨c.2.code, target, value⟩]
          | .unknownCode n target value => [⟨12 + n, target, value⟩]
          | .absent => []) ++ a
        let sample := match h.cond with
          | .none => none
          | .deficit => some s.budget.deficit
          | .coolingDegraded => some s.budget.coolingDegraded
          | .redundancyLost => some s.budget.redundancyLost
        let r := listActions sample h.pattern l 0 false ⟨countGood s, []⟩
        let owes := r.2.2 && !s.attention.restartOwed
        let m : Outgoing := .answer h.route.src ⟨7, .ok, r.2.1.map fun x => byteOf x.code⟩ owes
        1 ≤ l.length → l.length ≤ 4 → exec c.1 s = .next (
          if owes = true ∧ takes r.1.st.bus m = false then beginWarm (finish (r.1.map (offer m)))
          else finish (r.1.map (offer m))))) ∧
  (∀ (sample : Option Bool) (pattern : BitVec 4) (k : Nat) (restarted : Bool) (w : Work) (x : OrderAction)
    (l : List OrderAction),
    let r := listAction sample pattern k restarted x w
    let t := listActions sample pattern l (k + 1) (restarted || (x.code == 11 && r.2 == .started)) r.1
    listActions sample pattern [] k restarted w = (w, [], restarted) ∧
    listActions sample pattern (x :: l) k restarted w = (t.1, r.2 :: t.2.1, t.2.2) ∧
    (restarted = true → r = (w, .rejected)) ∧
    (restarted = false → (∃ v, sample = some v ∧ pattern.getLsbD k ≠ v) → r = (w, .skipped)) ∧
    (restarted = false → (∀ v, sample = some v → pattern.getLsbD k = v) →
      (12 ≤ x.code → r = (w, .rejected)) ∧
      ∀ a : Action, x.code = a.code →
        r = (flush (carryAction a x.target x.value w).1, (carryAction a x.target x.value w).2))) ∧
  [Result.done, .started, .skipped, .clamped, .rejected].map (·.code) = List.range 5

/-- SLOT ON, SLOT OFF, SLOT CYCLE and CLEAR LATCH alone in an ORDER, by the slot's state, with their outcomes (R53,
R56, R62, R63). SLOT ON in OFF with an allowance, and in a restore-barred SHED_OFF, moves the slot to WAIT_POWER. SLOT
OFF switches a slot in RAMP off at once, moves one in WAIT_POWER, RETRY_WAIT or SHED_OFF to OFF, stops a cycle in OFF,
and drains one in RUNNING. SLOT CYCLE drains one in RUNNING toward a new start. CLEAR LATCH moves a slot in LATCHED to
OFF with the retry count 0, and releases one in STUCK whose current is below the threshold to OFF, IDENTIFY or EMPTY
with no charge. In every other case the slot is unchanged, and the outcome is DONE or REJECTED by the table; each of
the nine slot actions on a slot that is not fitted is REJECTED. The stop that SLOT OFF and SLOT CYCLE give is that of
any slot in RUNNING, whatever its record, marks and figures: STOPPING in its draining phase with the cause, destination
and cycle mark, the graceful timer started and a shutdown write pending, or one in flight joined, and then the reports
of that change (R53, R66). That a shutdown write queued while one is in flight joins it is the model's reading
(notes/assumptions/18). The purpose that a read in progress takes at the release is the model's reading
(notes/assumptions/34), the order of the reports is another (notes/assumptions/4), and that the release of a STUCK slot
keeps its retry count is its choice (notes/assumptions/43). -/
def Obligations.PowerOrdersMoveTheSlot : Prop :=
  (∀ (s : State) (h : OrderHead) (n v : Nat), OrderReady s h →
    (∀ i : SlotIx, i.val = n → s.bays[i].fitted = false) →
    ∀ c ∈ (orderRows h [] (.act n v) []).take 9,
      exec c.1 s = .next (settleFlags (offer (.answer h.route.src ⟨7, .ok, [4]⟩ false) (countGood s)))) ∧
  (∀ (b : Bay) (now : Nat) (cause : ShutdownCause) (dest : StopDest) (cycle : Bool),
    let x := b.toDraining now cause dest cycle
    x.seq.state = .stopping ∧ x.seq.phase = some .draining ∧ x.seq.dest = some dest ∧ x.seq.cause = cause ∧
      x.seq.cycle = cycle ∧ x.seq.shutdownEnded = false ∧
      x.seq.gracefulTimer = some (now + 1000 * b.cfg.gracefulSeconds) ∧ x.seq.retryClearTimer = none ∧
      x.seq.gate = b.seq.gate ∧ x.seq.adopted = b.seq.adopted ∧ x.seq.allowance = b.seq.allowance ∧
      x.seq.pendingOp = b.seq.pendingOp ∧ x.link.held = b.link.held ∧ x.link.cap = none ∧
      x.link.shutdown = if b.link.shutdown = .inFlight then .inFlight else .pending) ∧
  ∀ (s : State) (h : OrderHead) (i : SlotIx) (v : Nat), OrderReady s h → s.bays[i].fitted = true →
    let b := s.bays[i]
    let q := b.seq
    let on := Instr.slotOn h [] (.act i.val v) []
    let off := Instr.slotOff h [] (.act i.val v) []
    let cycle := Instr.slotCycle h [] (.act i.val v) []
    let clear := Instr.clearLatch h [] (.act i.val v) []
    let stays (c : Instr) (code : Byte) : Prop :=
      exec c s = .next (settleFlags (offer (.answer h.route.src ⟨7, .ok, [code]⟩ false) (countGood s)))
    let does (c : Instr) (code : Byte) (f : Bay → Prop) : Prop :=
      ∃ t, exec c s = .next t ∧ f t.bays[i] ∧ Answered h.route.src [code] s t ∧ OrderKept i s t
    (q.state = .off → q.allowance.isSome = true → does on 1 fun x =>
      x.seq.state = .waitPower ∧ x.seq.ejectorHold = false ∧ x.seq.cycle = false ∧ x.seq.cycleTimer = none ∧
        x.seq.gate = q.gate) ∧
    (q.state = .off → q.allowance = none → stays on 4) ∧
    (q.state = .shedOff → q.restoreBarred = true → does on 1 fun x =>
      x.seq.state = .waitPower ∧ x.seq.restoreBarred = false ∧ x.seq.shedCeiling = none ∧
        x.seq.savedCeiling = none) ∧
    (q.state = .shedOff → q.restoreBarred = false → stays on 4) ∧
    (q.state ∈ [SlotState.waitPower, .ramp, .running, .retryWait] → stays on 0) ∧
    (q.state ∈ [SlotState.empty, .identify, .stopping, .latched, .stuck] → stays on 4) ∧
    (q.state = .off → does off 0 fun x => x.seq.state = .off ∧ x.seq.cycle = false ∧ x.seq.cycleTimer = none) ∧
    (q.state = .ramp → does off 0 fun x =>
      x.seq.state = .off ∧ x.seq.gate = .off ∧ x.seq.cause = .operator ∧ x.seq.ejectorHold = false) ∧
    (q.state = .waitPower ∨ q.state = .retryWait ∨ q.state = .shedOff → does off 0 fun x =>
      x.seq.state = .off ∧ x.seq.cause = q.cause ∧ x.seq.retryTimer = none ∧ x.seq.restoreBarred = false ∧
        x.seq.shedCeiling = none ∧ x.seq.savedCeiling = none) ∧
    (q.state = .stopping ∨ q.state = .latched → stays off 0) ∧
    (q.state ∈ [SlotState.empty, .identify, .stuck] → stays off 4) ∧
    let stops (c : Instr) (mark : Bool) : Prop :=
      exec c s = .next (finish ((flush (modBay .stop i (fun b => b.toDraining s.now .operator .off mark)
        ⟨countGood s, []⟩)).map (offer (.answer h.route.src ⟨7, .ok, [1]⟩ false))))
    (q.state = .running → stops off false ∧ stops cycle true) ∧
    (q.state = .running → b.recordValid = true → q.adopted = false → b.link.held = none → q.pendingOp = none →
      does off 1 (fun x =>
        x.seq.state = .stopping ∧ x.seq.phase = some .draining ∧ x.seq.dest = some .off ∧ x.seq.cause = .operator ∧
          x.seq.cycle = false ∧ x.seq.gracefulTimer = some (s.now + 1000 * b.cfg.gracefulSeconds)) ∧
      does cycle 1 fun x => x.seq.state = .stopping ∧ x.seq.phase = some .draining ∧ x.seq.dest = some .off ∧
        x.seq.cause = .operator ∧ x.seq.cycle = true) ∧
    (q.state ≠ .running → stays cycle 4) ∧
    (q.state = .latched → does clear 0 fun x => x.seq.state = .off ∧ x.seq.retryCount = 0 ∧ x.seq.cause = q.cause) ∧
    (q.state = .stuck → b.cfg.stuckThreshold ≤ b.meter.amp → stays clear 4) ∧
    (q.state = .stuck → b.meter.amp < b.cfg.stuckThreshold →
      (q.presence = true → b.link.record.isSome = true → does clear 0 fun x =>
        x.seq.state = .off ∧ x.seq.cause = q.cause ∧ x.charge = 0) ∧
      (q.presence = true → b.link.record = none → does clear 0 fun x =>
        x.seq.state = .identify ∧ x.seq.standby = true ∧ x.seq.cause = q.cause ∧ x.charge = 0 ∧
          x.link.inventory = some (match b.link.inventory with
            | none => ⟨.release, 0, 0, []⟩
            | some y => { y with purpose := .release })) ∧
      (q.presence = false → does clear 0 fun x =>
        x.seq.state = .empty ∧ x.seq.standby = false ∧ x.seq.cause = q.cause ∧ x.charge = 0)) ∧
    (q.state ≠ .latched → q.state ≠ .stuck → stays clear 0)

/-- SET CEILING and CLEAR CEILING, by the slot's ceilings: REJECTED without an allowance; a setting that is no raise
takes force at once, a figure below the floor held at the floor and CLAMPED; a raise waits as the pending setting while
the slot holds a shed ceiling, waits with an operator-raise entry handed where it needs a claim, and otherwise takes
force at once; an earlier operator-raise entry is withdrawn (R137, R138, R139). A change of a RUNNING slot's active
ceiling queues a cap write and restarts the compliance hold (R64, R80, R83). REIDENTIFY is taken by state, and queues
an inventory read (R87); CLEAR PEAKS sets the peak to 0 (R95); SET PRIORITY sets the priority, held at 7, and moves the
slot's entry (R113, R177). A pending setting is settled at the report that each change of its slot, and each leaving of
its entry, brings, and at once where restoration removes its shed ceiling with no entry, behind the slot's held
figures: where the slot holds no shed ceiling it takes force if it needs no claim, and an operator-raise entry is
handed if it needs one and the slot has none (R113, R139). That the removal of an operator ceiling is always a raise,
also of one at or above the allowance, is the model's choice (notes/assumptions/50). That a raise held at the floor is
CLAMPED where it takes force at once is the model's reading (notes/assumptions/17), that an entry of a setting so
settled stays queued its choice (notes/assumptions/38), and the order of a change's reports its reading
(notes/assumptions/4). -/
def Obligations.SettingOrdersSetTheSlot : Prop :=
  (∀ (s : State) (h : OrderHead) (i : SlotIx) (v : Nat), OrderReady s h → s.bays[i].fitted = true →
    s.bays[i].powered = false → s.bays[i].seq.pendingOp = none → s.bays[i].seq.shedCeiling = none →
    entryOf s i = none →
    let q := s.bays[i].seq
    let done (c : Instr) (code : Byte) (f : Bay → Prop) : Prop :=
      ∃ t, exec c s = .next t ∧ f t.bays[i] ∧ Answered h.route.src [code] s t ∧ OrderKept i s t
    (q.allowance.isSome = true →
      done (.setCeiling h [] (.act i.val v) []) (if v < q.floor.getD 0 then 3 else 0) (fun b =>
        b.seq = { q with opCeiling := some (max v (q.floor.getD 0)) }) ∧
      done (.clearCeiling h [] (.act i.val v) []) 0 fun b => b.seq = { q with opCeiling := none }) ∧
    (q.state = .off → s.bays[i].link.inventory = none →
      done (.reidentify h [] (.act i.val v) []) 1 fun b =>
        b.seq = q ∧ b.link.inventory = some ⟨.reidentify, 0, 0, []⟩) ∧
    (done (.clearPeaks h [] (.act i.val v) []) 0 fun b =>
      b.seq = q ∧ b.meter = { s.bays[i].meter with peak := 0 }) ∧
    done (.setPriority h [] (.act i.val v) []) (if 7 < v then 3 else 0) fun b =>
      b.seq = { q with priority := min v 7 }) ∧
  (∀ (o : StepOrder) (i : SlotIx) (f : Bay → Bay) (w : Work),
    let a := w.st.bays[i]
    let b := (modBay o i f w).st.bays[i]
    a.seq.state = .running → (f a).seq.state = .running → a.activeCeiling ≠ (f a).activeCeiling →
      b.activeCeiling = (f a).activeCeiling ∧ b.link.cap = some ⟨b.activeCeiling, .writing, 0⟩ ∧
        b.link.hold = .running (w.st.now + 1000)) ∧
  (∀ (o : StepOrder) (i : SlotIx) (f : Bay → Bay) (w : Work),
    let b := f w.st.bays[i]
    b.link.held.isSome = true ∨ b.seq.pendingOp.isSome = true → .settle i ∈ (modBay o i f w).reports) ∧
  (∀ (w : Work) (i : SlotIx),
    let b := w.st.bays[i]
    let q := b.seq
    deliver (.settle i) w = settlePending i (settleHeld i w) ∧
    (q.pendingOp = none ∨ q.shedCeiling.isSome = true → settlePending i w = w) ∧
    ∀ o, q.pendingOp = some o → q.shedCeiling = none →
      let after : Bay := { b with seq := { q with
        pendingOp := none
        opCeiling := match o with
          | .figure x => some (max x (q.floor.getD 0))
          | .removal => none } }
      let claims : Prop := b.powered = true ∧ b.charge < after.charge
      (¬claims → settlePending i w = modBay .fault i (fun _ => after) w) ∧
      (claims → (entryOf w.st i).isSome = true → settlePending i w = w) ∧
      (claims → entryOf w.st i = none →
        settlePending i w = w.map (handEntry i .operatorRaise (after.charge - b.charge)))) ∧
  ∀ (s : State) (h : OrderHead) (i : SlotIx) (v : Nat), OrderReady s h → s.bays[i].fitted = true →
    let b := s.bays[i]
    let q := b.seq
    let set := Instr.setCeiling h [] (.act i.val v) []
    let clear := Instr.clearCeiling h [] (.act i.val v) []
    let u := countGood s
    let leaves (c : Instr) (code : Byte) (u : State) : Prop :=
      exec c s = .next (settleFlags (offer (.answer h.route.src ⟨7, .ok, [code]⟩ false) u))
    let waits (o : Option OperatorSetting) : State :=
      setBay i (fun b => { b with seq := { b.seq with pendingOp := o } }) u
    let taken : Prop := b.link.inventory = none ∧ (q.state ∈ [SlotState.off, .retryWait, .latched] ∨
      (q.state = .running ∧ q.adopted = false) ∨ (q.state = .stuck ∧ q.presence = true))
    leaves (.clearPeaks h [] (.act i.val v) []) 0
      (setBay i (fun b => { b with meter := { b.meter with peak := 0 } }) u) ∧
    leaves (.setPriority h [] (.act i.val v) []) (if 7 < v then 3 else 0) (changePriority i (min v 7) u) ∧
    (taken → leaves (.reidentify h [] (.act i.val v) []) 1
      (setBay i (fun b => { b with link := { b.link with inventory := some ⟨.reidentify, 0, 0, []⟩ } }) u)) ∧
    (¬taken → leaves (.reidentify h [] (.act i.val v) []) 4 u) ∧
    (q.allowance = none → leaves set 4 u ∧ leaves clear 4 u) ∧
    (q.allowance.isSome = true →
      (∀ e, entryOf s i = some e → e.purpose = .operatorRaise → e.arrival < s.budget.nextArrival →
        (∃ t, exec set s = .next t ∧ e ∉ t.budget.queue) ∧
        (q.opCeiling.isSome = true ∨ q.pendingOp.isSome = true → ∃ t, exec clear s = .next t ∧ e ∉ t.budget.queue)) ∧
      (q.opCeiling = none → q.pendingOp = none → leaves clear 0 u) ∧
      ((∀ e, entryOf s i = some e → e.purpose ≠ .operatorRaise) →
        (q.opCeiling = none → q.pendingOp.isSome = true → leaves clear 0 (waits none)) ∧
        ∀ (c : Instr) (o : OperatorSetting) (figure : Option Nat) (code : Byte),
          ((c = set ∧ o = .figure (max v (q.floor.getD 0)) ∧ figure = some (max v (q.floor.getD 0)) ∧
              code = if v < q.floor.getD 0 then 3 else 0) ∨
            (c = clear ∧ o = .removal ∧ figure = none ∧ code = 0 ∧ q.opCeiling.isSome = true)) →
          let raise : Prop := ∃ x, q.opCeiling = some x ∧ ∀ y, figure = some y → x < y
          let after : Bay := { b with seq := { q with opCeiling := figure } }
          let sets : Prop := ∃ t, exec c s = .next t ∧ t.bays[i].seq.opCeiling = figure ∧
            t.bays[i].seq.pendingOp = none ∧ Answered h.route.src [code] s t ∧ OrderKept i s t
          (¬raise → sets) ∧
          (raise → q.shedCeiling.isSome = true → leaves c 1 (waits (some o))) ∧
          (raise → q.shedCeiling = none → ¬(b.powered = true ∧ b.charge < after.charge) → sets) ∧
          (raise → q.shedCeiling = none → b.powered = true → b.charge < after.charge →
            ((entryOf s i).isSome = true → leaves c 1 (waits (some o))) ∧
            (entryOf s i = none →
              leaves c 1 (handEntry i .operatorRaise (after.charge - b.charge) (waits (some o)))))))

/-- FORGET STATION returns a peer's entry to UNKNOWN, with the bids of the records at it withdrawn and those that wait
for an answer UNPLACED (R9, R167), and is REJECTED for the own address (R37); CLEAR ATTENTION in LATCHED mode clears
each flag whose condition does not hold, and in LIVE mode changes nothing (R181); RESTART offers its ANSWER and owes
the restart, which begins at once where the FIFO refuses the ANSWER (R178). Which records count as at the peer and that
R9 withdraws a bid in every state are the model's readings (notes/assumptions/19 and 35), as is that the restart begins
at once where its ANSWER is refused (notes/assumptions/24). -/
def Obligations.StationOrdersActOnTheStation : Prop :=
  ∀ (s : State) (h : OrderHead) (v : Nat), OrderReady s h →
    (∀ q : Addr, q ≠ s.address → s.peers[q].state ≠ .unknown → ∃ t,
      exec (.forgetStation h [] (.act q.val v) []) s = .next t ∧
        t.peers = updAt s.peers q (fun _ => Peer.fresh) ∧ t.owner = s.owner ∧ Answered h.route.src [0] s t ∧
        ∀ (i : SlotIx) (p : PortIx),
          let r := portOf s i p
          let asks : Prop := r.state = .bidding ∨ r.state = .deferred
          ((r.owner = some q ∨ ∃ m, r.chosen = some m ∧ ownerOf s m = some q) →
            bidQueued t i p = false ∧ (asks → (portOf t i p).state = .none ∨
              portOf t i p = { r with state := .unplaced, timer := some (s.now + 10 * s.tst) })) ∧
          (¬asks → (portOf t i p).state = .none ∨ portOf t i p = r)) ∧
    (∃ t, exec (.forgetStation h [] (.act s.address.val v) []) s = .next t ∧ t.peers = s.peers ∧
      t.budget = s.budget ∧ Answered h.route.src [4] s t) ∧
    (s.settings.lineMode = .latched → ∀ k, ∃ t, exec (.clearAttention h [] (.act k v) []) s = .next t ∧
      t.attention.station = ⟨s.attention.station.deficit && (stationConditions s).deficit,
        s.attention.station.redundancyLost && (stationConditions s).redundancyLost,
        s.attention.station.fanFailed && (stationConditions s).fanFailed,
        s.attention.station.configMismatch && (stationConditions s).configMismatch,
        s.attention.station.startDefaults && (stationConditions s).startDefaults,
        s.attention.station.busFaults && (stationConditions s).busFaults⟩ ∧
      (∀ i : SlotIx, t.attention.slots[i] = keepHolding s.attention.slots[i] (slotConditions s.bays[i])) ∧
      t.bays = s.bays ∧ Answered h.route.src [0] s t) ∧
    (s.settings.lineMode = .live → ∀ k, exec (.clearAttention h [] (.act k v) []) s =
      .next (settleFlags (offer (.answer h.route.src ⟨7, .ok, [0]⟩ false) (countGood s)))) ∧
    (s.attention.restartOwed = false → ∀ k,
      (s.bus.routine.length < 4 → ∃ t, exec (.restart h [] (.act k v) []) s = .next t ∧
        t.attention.restartOwed = true ∧ t.run = .running ∧ t.bays = s.bays ∧
        t.bus.routine = s.bus.routine ++ [.answer h.route.src ⟨7, .ok, [1]⟩ true]) ∧
      (4 ≤ s.bus.routine.length → ∃ t, exec (.restart h [] (.act k v) []) s = .next t ∧
        t.run = .warmRestart s.now ∧ t.bus.routine = [] ∧ t.bus.ordersRefused = s.bus.ordersRefused))

/-! ### The slot sequencer -/

/-- The slot's inputs and the timers that only clear a count: presence starts and drops the presence timer in EMPTY
(R41), the ejector's debounce starts at a new level and ends at a return (R42), the overcurrent count runs while a
powered slot's comparator is asserted and is 0 after a second without it (R48), and the retry count clears after 60 s
of RUNNING (R51). That the gate-free timer runs on from the instant at which it was due is the model's choice
(notes/assumptions/28). -/
def Obligations.SlotInputsAreTaken : Prop :=
  ∀ (s : State) (i : SlotIx), s.run = .running → s.bays[i].fitted = true →
    let q := s.bays[i].seq
    let becomes (c : Instr) (x : Seq) : Prop :=
      exec c s = .next (settleFlags (setBay i (fun b => { b with seq := x }) s))
    (q.presence = false → q.state = .empty →
      becomes (.presenceAssert i) { q with presence := true, presenceTimer := some (s.now + 50) }) ∧
    (q.presence = false → q.state ≠ .empty → becomes (.presenceAssert i) { q with presence := true }) ∧
    (q.presence = true → q.state = .empty →
      becomes (.presenceDropBeforeSeating i) { q with presence := false, presenceTimer := none }) ∧
    (∀ o, q.ejectorRaw ≠ o → becomes (.ejectorInputChange i o) { q with
      ejectorRaw := o, ejectorTimer := if o = q.ejectorOpen then none else some (s.now + 20) }) ∧
    (s.bays[i].powered = true → q.inLimit = false → becomes (.inLimitChange i true) { q with
      inLimit := true, ocCount := q.ocAt s.now, ocSince := some s.now, gateFreeTimer := none }) ∧
    (s.bays[i].powered = true → q.inLimit = true → becomes (.inLimitChange i false) { q with
      inLimit := false, ocCount := q.ocAt s.now, ocSince := none, gateFreeTimer := some (s.now + 1000) }) ∧
    (∀ b, s.bays[i].powered = false → q.inLimit ≠ b → becomes (.inLimitChange i b) { q with inLimit := b }) ∧
    (∀ d, q.gateFreeTimer = some d → d ≤ s.now →
      becomes (.gateFreeReset i) { q with ocCount := 0, gateFreeTimer := some (d + 1000) }) ∧
    ∀ d, q.retryClearTimer = some d → d ≤ s.now →
      becomes (.retryClearExpiry i) { q with retryCount := 0, retryClearTimer := none }

/-- A seating turns the standby feed on, clears cause, counts, marks, ceilings and meter, and begins the inventory read
in IDENTIFY (R41). A surprise removal cuts the switch, with the stuck check started if it was on, turns the standby
feed off and leaves the slot EMPTY without a record; in STUCK it leaves the slot STUCK (R58, R60). Each is one change
of the slot, whose reports (the charge, the lanes returned, the entry withdrawn) are then delivered (R58, R66); their
order is the model's reading (notes/assumptions/4). That a stuck check which runs at the removal runs on, and the
ejector's debounce stops with the slot's timers, is the model's reading (notes/assumptions/15). -/
def Obligations.SeatingsAndRemovals : Prop :=
  ∀ (s : State) (i : SlotIx), s.run = .running → s.bays[i].fitted = true →
    let b := s.bays[i]
    let changes (c : Instr) (f : Bay → Bay) : Prop := exec c s = .next (finish (modBay .fault i f ⟨s, []⟩))
    (∀ d, b.seq.state = .empty → b.seq.presenceTimer = some d → d ≤ s.now → changes (.seating i) fun b => b.seat s.now) ∧
    (b.seq.presence = true → b.seq.state ≠ .empty → b.seq.state ≠ .stuck →
      changes (.surpriseRemoval i) fun b => b.remove s.now) ∧
    (b.seq.presence = true → b.seq.state = .stuck → changes (.surpriseRemoval i) fun b => { b with
      seq := { b.seq with standby := false, presence := false }
      link := { b.link with
        inFlight := none, inventory := none, cap := none, shutdown := .absent, status := .absent, record := none
        held := none } }) ∧
    (∀ d, b.seq.state = .empty → b.seq.presenceTimer = some d → d ≤ s.now →
      ∃ t, exec (.seating i) s = .next t ∧ KeptBut i s t ∧
        t.bays[i].seq.state = .identify ∧ t.bays[i].seq.standby = true ∧ t.bays[i].seq.gate = b.seq.gate ∧
        t.bays[i].seq.cause = .none ∧ t.bays[i].seq.retryCount = 0 ∧ t.bays[i].seq.opCeiling = none ∧
        t.bays[i].seq.shedCeiling = none ∧ t.bays[i].seq.overdraw = none ∧ t.bays[i].seq.restoreBarred = false ∧
        t.bays[i].link.inventory = some ⟨.seating, 0, 0, []⟩ ∧
        t.bays[i].meter = Meter.cleared b.meter.volt b.meter.amp b.meter.power) ∧
    (b.seq.presence = true → b.seq.state ≠ .empty → b.seq.state ≠ .stuck →
      ∃ t, exec (.surpriseRemoval i) s = .next t ∧ KeptBut i s t ∧
        t.bays[i].seq.state = .empty ∧ t.bays[i].seq.gate = .off ∧ t.bays[i].seq.standby = false ∧
        t.bays[i].seq.presence = false ∧ t.bays[i].link.record = none ∧ t.bays[i].link.inventory = none ∧
        t.bays[i].seq.cause = (if b.seq.gate = .off then b.seq.cause else .surpriseRemoval) ∧
        t.bays[i].seq.stuckTimer = (if b.seq.gate = .off then b.seq.stuckTimer else some (s.now + 50)) ∧
        t.bays[i].meter = Meter.cleared b.meter.volt b.meter.amp b.meter.power) ∧
    (b.seq.presence = true → b.seq.state = .stuck →
      ∃ t, exec (.surpriseRemoval i) s = .next t ∧ KeptBut i s t ∧ t.bays[i].seq.state = .stuck ∧
        t.bays[i].seq.standby = false ∧ t.bays[i].seq.presence = false ∧ t.bays[i].link.record = none)

/-- A debounced ejector opening: OFF takes the hold mark and stops a cycle; WAIT_POWER, RETRY_WAIT and SHED_OFF go to
OFF with the hold mark; RAMP is cut to OFF with cause OPERATOR; RUNNING drains toward unseating; draining turns to
unseating (R55, R57). The stop of a RUNNING slot and the turn of a draining one are those of any such slot, whatever
its record, marks and figures (R53); the stop's fields are those of PowerOrdersMoveTheSlot. A debounced closing: OFF
with the hold mark goes to WAIT_POWER under AUTO and stays under HOLD, and unseating ends in OFF (R42, R54). The order
in which a change's reports are delivered is the model's reading (notes/assumptions/4). -/
def Obligations.EjectorsAct : Prop :=
  ∀ (s : State) (i : SlotIx) (d : Nat), s.run = .running → s.bays[i].seq.ejectorTimer = some d → d ≤ s.now →
    let b := s.bays[i]
    let q := b.seq
    (q.ejectorRaw = true → q.ejectorOpen = false →
      let opens (f : Seq → Prop) : Prop :=
        ∃ t, exec (.ejectorOpening i) s = .next t ∧ KeptBut i s t ∧ t.bays[i].seq.ejectorOpen = true ∧ f t.bays[i].seq
      (q.state = .off → opens fun x =>
        x.state = .off ∧ x.ejectorHold = true ∧ x.cycle = false ∧ x.cycleTimer = none) ∧
      (q.state = .waitPower ∨ q.state = .retryWait ∨ q.state = .shedOff → opens fun x =>
        x.state = .off ∧ x.ejectorHold = true ∧ x.retryTimer = none ∧ x.cause = q.cause) ∧
      (q.state = .ramp → opens fun x =>
        x.state = .off ∧ x.ejectorHold = true ∧ x.gate = .off ∧ x.cause = .operator) ∧
      let acts (f : Bay → Bay) : Prop :=
        exec (.ejectorOpening i) s = .next (finish (modBay .stop i (fun b =>
          f { b with seq := { b.seq with ejectorOpen := true, ejectorTimer := none } }) ⟨s, []⟩))
      (q.state = .running → acts fun b => b.toDraining s.now .operator .unseat false) ∧
      (b.draining = true → acts fun b => { b with seq := { b.seq with dest := some .unseat, cycle := false } }) ∧
      (q.state = .running → b.recordValid = true → q.adopted = false → b.link.held = none → q.pendingOp = none →
        opens fun x => x.state = .stopping ∧ x.phase = some .draining ∧ x.dest = some .unseat ∧ x.cause = .operator) ∧
      (b.draining = true → b.link.held = none → q.pendingOp = none → opens fun x =>
        x.state = .stopping ∧ x.phase = some .draining ∧ x.dest = some .unseat ∧ x.cycle = false) ∧
      (q.state = .identify ∨ q.state = .latched ∨ q.state = .stuck → opens fun x => x.state = q.state)) ∧
    (q.ejectorRaw = false → q.ejectorOpen = true →
      let closes (f : Seq → Prop) : Prop :=
        ∃ t, exec (.ejectorClosing i) s = .next t ∧ KeptBut i s t ∧ t.bays[i].seq.ejectorOpen = false ∧ f t.bays[i].seq
      (q.state = .off → q.ejectorHold = true → b.cfg.startPolicy = .auto → closes fun x =>
        x.state = .waitPower ∧ x.ejectorHold = false) ∧
      (q.state = .off → q.ejectorHold = true → b.cfg.startPolicy = .hold → closes fun x =>
        x.state = .off ∧ x.ejectorHold = false) ∧
      (q.state = .stopping → q.phase = some .unseating → closes fun x =>
        x.state = .off ∧ x.phase = none ∧ x.ejectorHold = false))

/-- A fault of a powered slot cuts the switch at once and starts the stuck check. In RAMP and RUNNING the slot is
LATCHED with a retry count of 1 or more, or at SEVERE_OC under LATCH, and otherwise waits to retry; in draining it is
LATCHED. The cause recorded is the fault's (R47, R48, R49, R50, R51, R55). A fault is one change of the slot, whose
reports are then delivered: the charge, the leaving of RUNNING, the check of its entry, its admission, and what waits
to be settled, each where it applies (R45, R50, R66, R112). The order of the reports of a fault, a stop and an entry
into STUCK is the model's reading (notes/assumptions/4). -/
def Obligations.FaultsCutTheSlot : Prop :=
  (∀ (o : StepOrder) (i : SlotIx) (f : Bay → Bay) (w : Work),
    let a := w.st.bays[i]
    let b := (modBay o i f w).st.bays[i]
    let serves (x : Bay) : Bool := x.seq.state == .running && !x.seq.adopted
    let charge : List Report := if b.charge = a.charge then [] else [.charge i b.charge]
    let trunk : List Report :=
      if serves a = false ∧ serves b = true then [.entered i]
      else if a.seq.state = .running ∧ b.seq.state ≠ .running then [.left i] else []
    let check : List Report := if b.seq.state = a.seq.state ∧ b.seq.phase = a.seq.phase then [] else [.check i]
    let admission : List Report := if a.seq.state ≠ .waitPower ∧ b.seq.state = .waitPower then [.admission i] else []
    let settle : List Report := if b.link.held = none ∧ b.seq.pendingOp = none then [] else [.settle i]
    (modBay o i f w).reports = w.reports ++ (match o with
      | .fault => charge ++ trunk ++ check
      | .stop => trunk ++ charge ++ check
      | .stuck => check ++ charge ++ trunk) ++ admission ++ settle ∧
    b.seq = (f a).seq) ∧
  ∀ (s : State) (i : SlotIx), s.run = .running →
    let b := s.bays[i]
    let changes (c : Instr) (kind : ShutdownCause) : Prop :=
      exec c s = .next (finish (modBay .fault i (fun b => b.fault s.now kind) ⟨s, []⟩))
    (∀ u, b.powered = true → b.seq.ocSince = some u → b.cfg.faultTime ≤ b.seq.ocCount + (s.now - u) →
      changes (.overcurrentFault i) .overcurrent) ∧
    (b.powered = true → changes (.severeOvercurrent i) .severeOc) ∧
    (∀ d, b.seq.state = .ramp → b.seq.rampTimer = some d → d ≤ s.now → changes (.rampTimeout i) .rampTimeout) ∧
    let faulted (c : Instr) (kind : ShutdownCause) : Prop :=
      ∃ t, exec c s = .next t ∧ KeptBut i s t ∧
        t.bays[i].seq.gate = .off ∧ t.bays[i].seq.cause = kind ∧
        (b.seq.gate ≠ .off → t.bays[i].seq.stuckTimer = some (s.now + 50)) ∧
        (if b.draining = true ∨ 1 ≤ b.seq.retryCount ∨ (kind = .severeOc ∧ b.cfg.faultPolicy = .latch) then
          t.bays[i].seq.state = .latched ∧ t.bays[i].seq.retryCount = b.seq.retryCount
        else t.bays[i].seq.state = .retryWait ∧ t.bays[i].seq.retryCount = 1 ∧
          t.bays[i].seq.retryTimer = some (s.now + b.cfg.retryDelay))
    (∀ u, b.powered = true → b.seq.ocSince = some u → b.cfg.faultTime ≤ b.seq.ocCount + (s.now - u) →
      faulted (.overcurrentFault i) .overcurrent) ∧
    (b.powered = true → faulted (.severeOvercurrent i) .severeOc) ∧
    ∀ d, b.seq.state = .ramp → b.seq.rampTimer = some d → d ≤ s.now → faulted (.rampTimeout i) .rampTimeout

/-- The slot's timers: at the retry timer's and the cycle timer's expiry the slot enters WAIT_POWER (R52, R56); at the
graceful timer's the switch is cut and the slot enters OFF, or unseating with its ejector open (R54); at the end of a
stuck check a current above the threshold makes the slot STUCK, and another ends the check (R59). Each is one change of
the slot, whose reports are then delivered: an entry into WAIT_POWER hands the ADMIT entry, and an entry into STUCK
checks the slot's entry first (R45, R59, R66); that order is the model's reading (notes/assumptions/4). -/
def Obligations.SlotTimersAct : Prop :=
  ∀ (s : State) (i : SlotIx) (d : Nat), s.run = .running → d ≤ s.now →
    let b := s.bays[i]
    let changes (c : Instr) (o : StepOrder) (f : Bay → Bay) : Prop :=
      exec c s = .next (finish (modBay o i f ⟨s, []⟩))
    let checked (b : Bay) : Bay := { b with seq := { b.seq with stuckTimer := none } }
    (b.seq.state = .retryWait → b.seq.retryTimer = some d →
      changes (.retryTimerExpiry i) .fault fun b => b.enter s.now .waitPower none) ∧
    (b.seq.state = .off → b.seq.cycleTimer = some d →
      changes (.cycleTimerExpiry i) .fault fun b => b.enter s.now .waitPower none) ∧
    (b.draining = true → b.seq.gracefulTimer = some d →
      changes (.gracefulExpiry i) .fault fun b => b.endDraining s.now) ∧
    (b.seq.stuckTimer = some d → b.cfg.stuckThreshold < b.meter.amp →
      changes (.stuckCheckEnd i) .stuck fun b => (checked b).toStuck s.now) ∧
    (b.seq.stuckTimer = some d → b.meter.amp ≤ b.cfg.stuckThreshold → changes (.stuckCheckEnd i) .stuck checked) ∧
    let moves (c : Instr) (f : Seq → Prop) : Prop :=
      ∃ t, exec c s = .next t ∧ KeptBut i s t ∧ f t.bays[i].seq
    (b.seq.state = .retryWait → b.seq.retryTimer = some d → moves (.retryTimerExpiry i) fun x =>
      x.state = .waitPower ∧ x.retryTimer = none ∧ x.retryCount = b.seq.retryCount ∧ x.gate = b.seq.gate) ∧
    (b.seq.state = .off → b.seq.cycleTimer = some d → moves (.cycleTimerExpiry i) fun x =>
      x.state = .waitPower ∧ x.cycle = false ∧ x.cycleTimer = none) ∧
    (b.draining = true → b.seq.gracefulTimer = some d → moves (.gracefulExpiry i) fun x =>
      x.gate = .off ∧ x.gracefulTimer = none ∧ x.shedCeiling = none ∧ x.overdraw = none ∧
        (b.seq.gate ≠ .off → x.stuckTimer = some (s.now + 50)) ∧
        (if b.seq.dest = some .unseat ∧ b.seq.ejectorOpen = true then
          x.state = .stopping ∧ x.phase = some .unseating
        else x.state = .off ∧ x.phase = none ∧ x.ejectorHold = false ∧
          (b.seq.dest ≠ some .unseat →
            x.cycleTimer = if b.seq.cycle = true then some (s.now + 5000) else none))) ∧
    (b.seq.stuckTimer = some d → b.cfg.stuckThreshold < b.meter.amp → moves (.stuckCheckEnd i) fun x =>
      x.state = .stuck ∧ x.cause = .stuck ∧ x.stuckTimer = none ∧ x.gate = b.seq.gate) ∧
    (b.seq.stuckTimer = some d → b.meter.amp ≤ b.cfg.stuckThreshold → b.link.held = none → b.seq.pendingOp = none →
      exec (.stuckCheckEnd i) s =
        .next (settleFlags (setBay i (fun b => { b with seq := { b.seq with stuckTimer := none } }) s)))

/-! ### The sideband unit -/

/-- A link with standby on and no transaction in flight starts the item of highest rank: the inventory item's READ of
24 bytes, then a cap WRITE with its figure, then a shutdown WRITE with the last cap written, then a status READ of 8
bytes (R70, R72, R73). A cap item whose confirmation read is not ready lets an item of lower rank start (R70, R80). -/
def Obligations.LinksStartTheHighestItem : Prop :=
  ∀ (s : State) (i : SlotIx), s.run = .running → s.bays[i].seq.standby = true → s.bays[i].link.inFlight = none →
    let l := s.bays[i].link
    let starts (x : Link) : Prop :=
      exec (.sidebandTransactionStart i) s = .next (settleFlags (setBay i (fun b => { b with link := x }) s))
    (∀ x, l.inventory = some x → starts { l with
      inFlight := some ⟨.read, 24 * x.index, 24, [], .inventory, x.failed + 1, s.now⟩ }) ∧
    (∀ f n, l.inventory = none → l.cap = some ⟨f, .writing, n⟩ → starts { l with
      inFlight := some ⟨.write, 104, 8, [byteOf f, byteOf (f / 256), 0, 0, 0, 0, 0, 0], .capWrite f true, n + 1, s.now⟩ }) ∧
    (∀ f n u, l.inventory = none → l.cap = some ⟨f, .confirming none true u, n⟩ → starts { l with
      inFlight := some ⟨.read, 96, 8, [], .confirm, 1, s.now⟩, cap := some ⟨f, .confirming none false u, n⟩ }) ∧
    let idle : Prop := ∀ x, l.cap = some x → ∃ d u, x.phase = .confirming d false u
    (l.inventory = none → idle → l.shutdown = .pending →
      let f := l.lastCap.getD s.bays[i].activeCeiling
      starts { l with
        inFlight := some ⟨.write, 104, 8, [byteOf f, byteOf (f / 256), 1, 0, 0, 0, 0, 0], .shutdown, 1, s.now⟩
        shutdown := .inFlight }) ∧
    (l.inventory = none → idle → l.shutdown ≠ .pending → l.status = .pending →
      starts { l with inFlight := some ⟨.read, 96, 8, [], .status, 1, s.now⟩, status := .inFlight })

/-- The sum of bytes 0 to 93 as read, modulo 65536, is compared with bytes 94 and 95 as one little-endian value; a
record where they differ is SUSPECT (R74). -/
def Obligations.ChecksumsDecideSuspect : Prop :=
  (∀ l : List Byte, ((l.take 94).map (·.toNat)).sum % 65536 ≠ natAt l 95 * 256 + natAt l 94 →
    (gatheredRecord l).status = .suspect) ∧
  (∀ l : List Byte, ((l.take 94).map (·.toNat)).sum % 65536 = natAt l 95 * 256 + natAt l 94 →
    fieldsInRange (busLayout l) = true → (gatheredRecord l).status = .valid) ∧
  ∀ l : List Byte, ((l.take 94).map (·.toNat)).sum = 9321 → l.getD 94 0 = 0x69 → l.getD 95 0 = 0x24 →
    checksumGood l = true

/-- An inventory READ that completes gathers its bytes, and the fourth ends the read with the record it gathered; one
that fails is tried again, and the third failure ends it with an ABSENT record (R73). The allowance and floor follow
from the record (R44). At the end of a SEATING or RELEASE read in IDENTIFY they are fixed and the slot leaves IDENTIFY,
and elsewhere they are fixed and nothing else (R43, R76); at the end of an ADOPTION read they are fixed, the mark is
cleared, and a slot in RUNNING has a cap write queued where its active ceiling differs from worst-case (R68); at the
end of a REIDENTIFY read they are set at once or held, by the slot's state, and an entry for earlier held figures is
withdrawn first (R87, R88). Held figures of a RUNNING slot without an entry are turned into one, or set where they
raise no charge (R88). How the comparison of R87 is made is the model's reading (notes/assumptions/18), and so is the
order in which the reports of these changes are delivered (notes/assumptions/4). -/
def Obligations.InventoryReadsGather : Prop :=
  (∀ (s : State) (i : SlotIx) (t : Txn) (x : InventoryItem), s.run = .running →
    s.bays[i].link.inFlight = some t → t.kind = .inventory → s.bays[i].link.inventory = some x →
    let l := s.bays[i].link
    let becomes (r : ReadResult 24) (y : Link) : Prop :=
      exec (.sidebandReadEnd i r) s = .next (settleFlags (setBay i (fun b => { b with link := y }) s))
    (∀ v, x.index < 3 → becomes (.complete v)
      { l with inFlight := none, inventory := some ⟨x.purpose, x.index + 1, 0, x.bytes ++ v.toList⟩ }) ∧
    (x.failed < 2 → becomes .notAcknowledged
      { l with inFlight := none, inventory := some { x with failed := x.failed + 1 } }) ∧
    ∀ (r : ReadResult 24) (rec : InvRecord),
      ((∃ v, r = .complete v ∧ 3 ≤ x.index ∧ rec = gatheredRecord (x.bytes ++ v.toList)) ∨
        (r = .notAcknowledged ∧ 2 ≤ x.failed ∧ rec = ⟨[], .absent⟩)) →
      let w : Work := ⟨setBay i (fun b => { b with link := { b.link with inFlight := none, inventory := none } }) s, []⟩
      let unheld := setBay i (fun b => { b with link := { b.link with held := none } }) w.st
      let claimed : Prop := x.purpose = .reidentify ∧ ∃ e, entryOf s i = some e ∧ e.purpose = .heldFigures
      (x.purpose = .seating ∨ x.purpose = .release → s.bays[i].seq.state = .identify →
        ∃ t, exec (.sidebandReadEnd i r) s = .next t ∧ KeptBut i s t ∧
          t.bays[i].link.inventory = none ∧ t.bays[i].link.record = some rec ∧
          t.bays[i].seq.state = (if s.bays[i].seq.ejectorOpen then .off else
            match s.bays[i].cfg.startPolicy with
            | .auto => .waitPower
            | .hold => .off) ∧
          t.bays[i].seq.allowance = some (figuresFor s.bays[i].cfg.worstCase rec).allowance ∧
          t.bays[i].seq.floor = some (figuresFor s.bays[i].cfg.worstCase rec).floor ∧
          t.bays[i].seq.ejectorHold = s.bays[i].seq.ejectorOpen) ∧
      (¬claimed → exec (.sidebandReadEnd i r) s =
        .next (finish (modBay .fault i (fun b => b.endRead s.now x.purpose rec) w))) ∧
      (claimed → exec (.sidebandReadEnd i r) s =
        .next (finish (modBay .fault i (fun b => b.endRead s.now x.purpose rec)
          ⟨withdrawEntry i unheld, [.settle i]⟩)))) ∧
  (∀ (b : Bay) (now : Nat) (rec : InvRecord),
    let f := figuresFor b.cfg.worstCase rec
    let set : Bay := { b with
      seq := { b.seq with allowance := some f.allowance, floor := some f.floor }
      link := { b.link with record := some rec, held := none } }
    let holds : Bay := { b with link := { b.link with record := some rec, held := some f } }
    let freed : Bay := { set with seq := { set.seq with adopted := false } }
    (b.seq.state ≠ .identify → b.endRead now .seating rec = set ∧ b.endRead now .release rec = set) ∧
    b.endRead now .adoption rec =
      (if b.seq.adopted = true ∧ b.seq.state = .running ∧ freed.activeCeiling ≠ b.cfg.worstCase then
        { freed with link := freed.link.queueCap freed.activeCeiling }
      else freed) ∧
    (b.powered = true → b.endRead now .reidentify rec =
      if rec.status = .valid ∧ b.charge < set.charge then holds else set) ∧
    (b.seq.state = .waitPower ∨ b.seq.state = .shedOff → b.endRead now .reidentify rec =
      if f.allowance ≤ b.seq.allowance.getD 0 then set else holds) ∧
    (b.powered = false → b.seq.state ≠ .waitPower → b.seq.state ≠ .shedOff →
      b.endRead now .reidentify rec = set)) ∧
  (∀ (worst : Nat) (r : InvRecord),
    let f := figuresFor worst r
    let word (k : Nat) : Nat := natAt r.bytes k * 256 + natAt r.bytes (k + 1)
    let extras := ((List.range (natAt r.bytes 34)).map fun k => word (37 + 4 * k)).sum
    (r.status ≠ .valid → f.allowance = worst ∧ f.floor = max 1 (worst / 2)) ∧
    (r.status = .valid → f.allowance = min (word 20 + extras) worst ∧
      f.floor = max 1 (min f.allowance
        (if (natAt r.bytes 72).testBit 0 = true then word 22 else f.allowance / 2)))) ∧
  ∀ (w : Work) (i : SlotIx),
    let b := w.st.bays[i]
    (b.link.held = none ∨ b.seq.state ≠ .running ∨ (entryOf w.st i).isSome = true → settleHeld i w = w) ∧
    ∀ f, b.link.held = some f → b.seq.state = .running → entryOf w.st i = none →
      let set (b : Bay) : Bay := { b with
        seq := { b.seq with allowance := some f.allowance, floor := some f.floor }, link := { b.link with held := none } }
      ((set b).charge ≤ b.charge → settleHeld i w = modBay .fault i set w) ∧
      (b.charge < (set b).charge →
        settleHeld i w = w.map (handEntry i .heldFigures ((set b).charge - b.charge)))

/-- A cap WRITE that completes sets the last cap written and begins its confirmation: the first read ready after 20
ms, the end after 200 ms; one that fails is tried again, and the third failure, or the confirmation's end, sets
CAP_UNACKED; a WRITE whose item no longer waits ends without a verdict (R80). What a WRITE whose item no longer waits
leaves is the model's reading (notes/assumptions/18). -/
def Obligations.CapWritesAreConfirmed : Prop :=
  ∀ (s : State) (i : SlotIx), s.run = .running →
    let l := s.bays[i].link
    let becomes (c : Instr) (y : Link) : Prop :=
      exec c s = .next (settleFlags (setBay i (fun b => { b with link := y }) s))
    (∀ t f x, l.inFlight = some t → t.kind = .capWrite f true → l.cap = some x →
      becomes (.capWriteEnd i true) { l with
        inFlight := none, lastCap := some f
        cap := some { x with phase := .confirming (some (s.now + 20)) false (s.now + 200) } } ∧
      (x.failed < 2 → becomes (.capWriteEnd i false)
        { l with inFlight := none, cap := some { x with failed := x.failed + 1 } }) ∧
      (2 ≤ x.failed → becomes (.capWriteEnd i false) { l with inFlight := none, cap := none, capUnacked := true })) ∧
    (∀ t f, l.inFlight = some t → t.kind = .capWrite f false →
      becomes (.capWriteEnd i true) { l with inFlight := none, lastCap := some f } ∧
      becomes (.capWriteEnd i false) { l with inFlight := none }) ∧
    (∀ f n d r u, l.cap = some ⟨f, .confirming (some d) r u, n⟩ → d ≤ s.now →
      becomes (.capConfirmReady i) { l with cap := some ⟨f, .confirming none true u, n⟩ }) ∧
    ∀ f n d r u, l.cap = some ⟨f, .confirming d r u, n⟩ → u ≤ s.now →
      becomes (.capConfirmTimeout i) { l with cap := none, capUnacked := true }

/-- A status read that completes with a known blade state returns the blade to RESPONSIVE, records its state, and its
margin unless it is BOOTING; an echo of the last cap clears CAP_UNACKED; a failure, or an unknown blade state, counts,
and the third makes the blade UNRESPONSIVE (R72, R78, R81). A soft-off request of a RUNNING slot drains it, with or
without the adopted mark and whatever its record and figures (R79); the stop's fields are those of
PowerOrdersMoveTheSlot (R53). A confirmation read is judged alike; an echo of the last cap ends a cap item in its
confirmation, and otherwise the next confirmation read is 20 ms away (R80, R81). The order in which a change's reports
are delivered is the model's reading (notes/assumptions/4). -/
def Obligations.StatusReadsAreJudged : Prop :=
  (∀ (s : State) (i : SlotIx) (x : Txn) (v : Vector Byte 8) (st : BladeState), s.run = .running →
    s.bays[i].link.inFlight = some x → x.kind = .status ∨ x.kind = .confirm → bladeStateOf v[1].toNat = some st →
    let l := s.bays[i].link
    let echoes : Prop := l.lastCap = some (v[3].toNat * 256 + v[2].toNat)
    let confirming : Prop := ∃ c d r u, l.cap = some c ∧ c.phase = .confirming d r u
    let again (c : CapItem) : CapItem := match c.phase with
      | .confirming _ _ u => { c with phase := .confirming (some (s.now + 20)) false u }
      | .writing => c
    ∃ y : Link, y = { l with
        inFlight := none, failures := 0, health := .responsive, bladeState := some st, cap := y.cap
        status := if x.kind = .confirm then l.status else .absent
        margin := if st = .booting then l.margin else some v[0].toInt
        capUnacked := if echoes then false else l.capUnacked } ∧
      (echoes → confirming → y.cap = none) ∧
      (¬(echoes ∧ confirming) → y.cap = if x.kind = .confirm then l.cap.map again else l.cap) ∧
      exec (.statusReadEnd i (.complete v)) s = .next (finish (modBay .stop i (fun b =>
        let c : Bay := { b with link := y }
        if st = .softOffRequest ∧ s.bays[i].seq.state = .running then c.toDraining s.now .bladeRequest .off false
        else c) ⟨s, []⟩))) ∧
  ∀ (s : State) (i : SlotIx) (x : Txn), s.run = .running → s.bays[i].link.inFlight = some x → x.kind = .status →
    let l := s.bays[i].link
    (∀ (v : Vector Byte 8) (st : BladeState), bladeStateOf v[1].toNat = some st →
      (st = .softOffRequest → s.bays[i].seq.state ≠ .running) →
      ∃ t, exec (.statusReadEnd i (.complete v)) s = .next t ∧ KeptBut i s t ∧
        t.bays[i].link.health = .responsive ∧ t.bays[i].link.failures = 0 ∧ t.bays[i].link.bladeState = some st ∧
        t.bays[i].link.margin = (if st = .booting then l.margin else some v[0].toInt) ∧
        t.bays[i].link.lastCap = l.lastCap ∧
        t.bays[i].link.capUnacked =
          (if l.lastCap = some (v[3].toNat * 256 + v[2].toNat) then false else l.capUnacked)) ∧
    (∀ r : ReadResult 8, (∀ v, r = .complete v → bladeStateOf v[1].toNat = none) →
      ∃ t, exec (.statusReadEnd i r) s = .next t ∧ KeptBut i s t ∧
        t.bays[i].link.failures = min 3 (l.failures + 1) ∧
        t.bays[i].link.health = (if 2 ≤ l.failures then .unresponsive else l.health) ∧
        t.bays[i].link.margin = l.margin ∧ t.bays[i].link.bladeState = l.bladeState) ∧
    ∀ v : Vector Byte 8, v[1].toNat = 2 → s.bays[i].seq.state = .running → s.bays[i].recordValid = true →
      s.bays[i].seq.adopted = false → l.held = none → s.bays[i].seq.pendingOp = none →
      ∃ t, exec (.statusReadEnd i (.complete v)) s = .next t ∧ KeptBut i s t ∧ t.bays[i].seq.state = .stopping ∧
        t.bays[i].seq.phase = some .draining ∧ t.bays[i].seq.dest = some .off ∧ t.bays[i].seq.cause = .bladeRequest

/-- The end of the shutdown write is reported whatever its outcome (R82); at the heartbeat's expiry a status read is
queued unless one waits (R77); the compliance hold ends after its second (R83); a transaction held for more than 25 ms
ends as one that failed (R69). That the heartbeat runs on from the instant at which it was due, and that more than 25
ms is reached at the clock instant 25 after the start, are the model's choices (notes/assumptions/28 and 2). That a
confirmation read in flight is no status read in flight is the model's reading (notes/assumptions/37). -/
def Obligations.LinkTimersAct : Prop :=
  ∀ (s : State) (i : SlotIx), s.run = .running →
    let b := s.bays[i]
    (∀ t c, b.link.inFlight = some t → t.kind = .shutdown → exec (.shutdownWriteEnd i c) s =
      .next (settleFlags (setBay i (fun b => { b with
        link := { b.link with inFlight := none, shutdown := .absent }
        seq := { b.seq with shutdownEnded := b.seq.shutdownEnded || b.draining } }) s))) ∧
    (∀ d, b.link.heartbeat = some d → d ≤ s.now → exec (.heartbeatExpiry i) s =
      .next (settleFlags (setBay i (fun b => { b with link := { b.link with
        heartbeat := some (d + s.tst)
        status := if b.link.status = .absent then .pending else b.link.status } }) s))) ∧
    (∀ d, b.link.hold = .running d → d ≤ s.now → exec (.complianceHoldEnd i) s =
      .next (settleFlags (setBay i (fun b => { b with link := { b.link with hold := .ended } }) s))) ∧
    ∀ t, b.link.inFlight = some t → t.started + 25 ≤ s.now →
      ∃ u, exec (.transactionHeldTooLong i) s = .next u ∧
        match t.kind with
        | .inventory => exec (.sidebandReadEnd i .notAcknowledged) s = .next u
        | .capWrite _ _ => exec (.capWriteEnd i false) s = .next u
        | .shutdown => exec (.shutdownWriteEnd i false) s = .next u
        | .status | .confirm => exec (.statusReadEnd i .notAcknowledged) s = .next u

/-! ### Metering and supply channels -/

/-- One sample: the station input voltage and every fitted slot's latest values are replaced by their codes and their
power sample, and every slot that is not EMPTY gathers it; the windows and output blocks that it fills end with it, so
that the commands of their ends are that sample (R90, R91, R92, R93, R100). The sample replaces every latest value
first; then, from slot 0 to slot 3, the sequencer of each fitted slot acts on it and the sample is gathered, with the
compliance check at a window's end, and the reports of each are delivered in turn; then each fitted supply channel
gathers it, and at a block's end derives its state (R47, R54, R83, R84, R85, R90, R93, R94, R100, R101). That the order
of the slots and channels within one sample is the one said is the model's choice (notes/assumptions/6), and the order
of a change's reports its reading (notes/assumptions/4). That the commands of a window's and a block's end are the
sample that ends it is the model's choice (notes/assumptions/6), and so is that the next sample is due 1 ms after the
instant at which this one was due (notes/assumptions/28). -/
def Obligations.SamplesAreGathered : Prop :=
  (∀ (s : State) (m : Sample), s.run = .running → s.meterDue ≤ s.now →
    let w : Work := ⟨takeLatest m { s with meterDue := s.meterDue + 1 }, []⟩
    exec (.meterSample m) s = .next (finish (sampleSupply m 1 (sampleSupply m 0
      (sampleSlot 3 (sampleSlot 2 (sampleSlot 1 (sampleSlot 0 w)))))))) ∧
  (∀ (s : State) (m : Sample),
    let t := takeLatest m s
    t = { s with stationVolt := voltCode m.station, bays := t.bays } ∧
    ∀ i : SlotIx, t.bays[i] = if s.bays[i].fitted = true then
      let v := voltCode m.volts[i]
      let c := ampCode m.amps[i]
      let x : Bay := { s.bays[i] with meter := { s.bays[i].meter with volt := v, amp := c, power := v * c / 1000 } }
      x else s.bays[i]) ∧
  (∀ (w : Work) (i : SlotIx),
    let n := 2 ^ w.st.settings.windowExp
    let t := w.map (setBay i fun b => { b with
      meter := if n ≤ b.meter.count + 1 then b.meter.gather.endWindow n else b.meter.gather })
    (w.st.bays[i].fitted = true → sampleSlot i w = flush (sampleGathers i (flush (sampleActs i w)))) ∧
    (w.st.bays[i].fitted = false → sampleSlot i w = w) ∧
    (w.st.bays[i].seq.state = .empty → sampleGathers i w = w) ∧
    (w.st.bays[i].seq.state ≠ .empty →
      sampleGathers i w = if n ≤ w.st.bays[i].meter.count + 1 then complianceCheck i t else t)) ∧
  (∀ (w : Work) (m : Sample) (c : ChanIx),
    let p := w.st.supplies[c]
    let sum := p.blockSum + ampCode m.outputs[c] * w.st.stationVolt * w.st.settings.supplies[c].senseScale
    (supplyFitted w.st c = false → sampleSupply m c w = w) ∧
    (supplyFitted w.st c = true →
      (p.blockCount + 1 < 16 → sampleSupply m c w =
        w.map (setSupply c fun p => { p with blockCount := p.blockCount + 1, blockSum := sum })) ∧
      (16 ≤ p.blockCount + 1 → sampleSupply m c w = deriveSupply c (w.map (setSupply c fun p => { p with
        output := sum / 64000, loaded := decide (9 * w.st.settings.supplies[c].rated < 10 * (sum / 64000))
        blockCount := 0, blockSum := 0 }))))) ∧
  ∀ (s : State) (m : Sample), s.run = .running → s.meterDue ≤ s.now →
    ∃ t, exec (.meterSample m) s = .next t ∧
      (∀ i, windowEnds s i = true → exec (.meterWindowEnd i m) s = .next t) ∧
      (∀ c, blockEnds s c = true → exec (.outputBlockEnd c m) s = .next t) ∧
      t.meterDue = s.meterDue + 1 ∧ t.stationVolt = voltCode m.station ∧
      (∀ i : SlotIx, s.bays[i].fitted = true →
        let a := s.bays[i].meter
        let v := voltCode m.volts[i]
        let c := ampCode m.amps[i]
        let w := v * c / 1000
        let n := 2 ^ s.settings.windowExp
        let b := t.bays[i].meter
        b.volt = v ∧ b.amp = c ∧ b.power = w ∧
        (s.bays[i].seq.state = .empty → b.samples = a.samples ∧ b.energy = a.energy ∧ b.peak = a.peak) ∧
        (s.bays[i].seq.state ≠ .empty →
          b.samples = (a.samples + 1) % 4294967296 ∧ b.peak = max a.peak w ∧
          (a.energy + w < 4294967296 → b.energy = a.energy + w ∧ b.rollovers = a.rollovers) ∧
          (4294967296 ≤ a.energy + w →
            b.energy = a.energy + w - 4294967296 ∧ b.rollovers = satInc a.rollovers) ∧
          (a.count + 1 < n → b.count = a.count + 1 ∧ b.powerSum = a.powerSum + w ∧ b.powerAvg = a.powerAvg) ∧
          (n ≤ a.count + 1 → b.count = 0 ∧ b.voltAvg = (a.voltSum + v) / n ∧ b.ampAvg = (a.ampSum + c) / n ∧
            b.powerAvg = (a.powerSum + w) / n ∧
            b.overRange = (a.saturated || v == 4095 || c == 4095)))) ∧
      ∀ c : ChanIx, supplyFitted s c = true →
        let p := s.supplies[c]
        let sum := p.blockSum + ampCode m.outputs[c] * voltCode m.station * s.settings.supplies[c].senseScale
        (p.blockCount + 1 < 16 → t.supplies[c] = { p with blockCount := p.blockCount + 1, blockSum := sum }) ∧
        (16 ≤ p.blockCount + 1 → t.supplies[c].output = sum / 64000 ∧ t.supplies[c].blockCount = 0 ∧
          t.supplies[c].loaded = decide (9 * s.settings.supplies[c].rated < 10 * (sum / 64000)) ∧
          t.supplies[c].state = t.supplies[c].derived)

/-- What the sequencer does on a sample, and the compliance check at a window end: the first power-good sample in RAMP
lifts the limit and the slot is RUNNING (R47); a current below the threshold ends draining after the shutdown write
(R54); an overdraw outside deficit, or in the census, raises the allowance and the overdraw charge, and in deficit
switches the slot off NONCOMPLIANT (R83, R84, R85). On any other sample, and at a window end without an overdraw, the
slot is unchanged. That METER_SAMPLE runs these for each fitted slot stands in SamplesAreGathered; the order in which a
change's reports are delivered is the model's reading (notes/assumptions/4). -/
def Obligations.SamplesMoveTheSequencer : Prop :=
  ∀ (w : Work) (i : SlotIx),
    let b := w.st.bays[i]
    (b.seq.state = .ramp → 9 * w.st.stationVolt ≤ 10 * b.meter.volt →
      let q := (sampleActs i w).st.bays[i].seq
      q.state = .running ∧ q.gate = .lifted ∧ q.rampTimer = none ∧ q.ocCount = 0 ∧
        q.retryClearTimer = some (w.st.now + 60000)) ∧
    (b.draining = true → b.seq.shutdownEnded = true → b.meter.amp < b.cfg.stuckThreshold →
      let q := (sampleActs i w).st.bays[i].seq
      q.gate = .off ∧ q.shedCeiling = none ∧ q.overdraw = none ∧ (q.state = .off ∨ q.phase = some .unseating)) ∧
    (b.seq.state = .running → b.link.hold = .ended →
      b.activeCeiling + b.activeCeiling / 20 < b.meter.powerAvg / 4 → w.st.census = none →
      let figure := min b.cfg.worstCase ((b.meter.powerAvg + 3) / 4)
      let q := (complianceCheck i w).st.bays[i].seq
      (w.st.budget.deficit = false → q.state = .running ∧
        q.overdraw = some (max (b.seq.overdraw.getD 0) figure) ∧
        q.allowance = some (max (b.seq.allowance.getD 0) figure) ∧ q.floor = b.seq.floor) ∧
      (w.st.budget.deficit = true → q.gate = .off ∧ q.cause = .noncompliant ∧
        q.state = if b.seq.ejectorOpen then .off else .shedOff)) ∧
    let lifts : Prop := b.seq.state = .ramp ∧ 9 * w.st.stationVolt ≤ 10 * b.meter.volt
    let drained : Prop := b.draining = true ∧ b.seq.shutdownEnded = true ∧ b.meter.amp < b.cfg.stuckThreshold
    let overdraws : Prop := b.seq.state = .running ∧ b.link.hold = .ended ∧
      b.activeCeiling + b.activeCeiling / 20 < b.meter.powerAvg / 4
    (lifts → sampleActs i w = modBay .fault i (fun b => b.toRunning w.st.now w.st.tst) w) ∧
    (drained → sampleActs i w = modBay .fault i (fun b => b.endDraining w.st.now) w) ∧
    (¬lifts → ¬drained → sampleActs i w = w) ∧
    (overdraws → w.st.census = none → w.st.budget.deficit = true →
      complianceCheck i w = powerOff i .noncompliant w) ∧
    (overdraws → w.st.census.isSome = true ∨ w.st.budget.deficit = false →
      let figure := min b.cfg.worstCase ((b.meter.powerAvg + 3) / 4)
      complianceCheck i w = modBay .fault i (fun b => { b with seq := { b.seq with
        overdraw := some (max (b.seq.overdraw.getD 0) figure)
        allowance := some (max (b.seq.allowance.getD 0) figure) } }) w) ∧
    (¬overdraws → complianceCheck i w = w)

/-- The state of a supply channel by its conditioned inputs: ABSENT when not present, FAILED when present and not
good, DEGRADED when warned or loaded, OK otherwise (R101). -/
def Obligations.SupplyStatesAreDerived : Prop :=
  ∀ p : Supply,
    (p.present = false → p.derived = .absent) ∧
    (p.present = true → p.good = false → p.derived = .failed) ∧
    (p.present = true → p.good = true → (p.warned = true ∨ p.loaded = true) → p.derived = .degraded) ∧
    (p.present = true → p.good = true → p.warned = false → p.loaded = false → p.derived = .ok)

/-- Each status input of a fitted supply channel starts its timer at a new level, 5, 2 and 10 ms, and stops it at a
return; at its end the conditioned input is taken and the channel's state derived afresh (R99, R101). A change of the
state to OK, and one from OK or DEGRADED to ABSENT or FAILED, offers a SUPPLY ALARM with the channel, the new state and
the rated watts, and no other change offers one (R16, R102). Every change of the state brings a recomputation, before
the alarm (R102, R111). That a loss of power-good is taken at the clock instant 2
after it, as at 1002 in the example of section 5.4, is the model's choice (notes/assumptions/2). -/
def Obligations.SupplyInputsAreConditioned : Prop :=
  (∀ a b : SupplyState, alarmed a b = true ↔
    (b = .ok ∧ a ≠ .ok) ∨ ((b = .absent ∨ b = .failed) ∧ (a = .ok ∨ a = .degraded))) ∧
  (∀ (w : Work) (c : ChanIx),
    let p := w.st.supplies[c]
    let x := p.derived
    let t := flush (recompute (w.map (setSupply c fun p => { p with state := x })))
    (x = p.state → deriveSupply c w = w) ∧
    (x ≠ p.state → deriveSupply c w = if alarmed p.state x = true then
      t.map (offer (.supplyAlarm c x t.st.settings.supplies[c].rated)) else t)) ∧
  ∀ (s : State) (c : ChanIx), s.run = .running → supplyFitted s c = true →
    let p := s.supplies[c]
    (∀ b,
      (p.presentRaw ≠ b → exec (.supplyInputChange c .presence b) s = .next (settleFlags (setSupply c (fun x => { x with
        presentRaw := b, presentTimer := if b = x.present then none else some (s.now + 5) }) s))) ∧
      (p.goodRaw ≠ b → exec (.supplyInputChange c .powerGood b) s = .next (settleFlags (setSupply c (fun x => { x with
        goodRaw := b, goodTimer := if b = x.good then none else some (s.now + 2) }) s))) ∧
      (p.warnedRaw ≠ b → exec (.supplyInputChange c .warning b) s = .next (settleFlags (setSupply c (fun x => { x with
        warnedRaw := b, warnedTimer := if b = x.warned then none else some (s.now + 10) }) s)))) ∧
    ∀ d, d ≤ s.now →
      let settles (e : Instr) (x : Supply) : Prop :=
        exec e s = .next (finish (deriveSupply c ⟨setSupply c (fun _ => x) s, []⟩)) ∧
        ∃ t, exec e s = .next t ∧ t.supplies = updAt s.supplies c (fun _ => { x with state := x.derived }) ∧
          t.bays.map (·.meter) = s.bays.map (·.meter) ∧ t.peers = s.peers ∧ t.bus.routine = s.bus.routine ∧
          t.bus.urgent = (if x.derived ≠ x.state ∧ alarmed x.state x.derived = true then
            (s.bus.offer (.supplyAlarm c x.derived s.settings.supplies[c].rated) s.now s.tst).urgent
          else s.bus.urgent)
      (p.presentTimer = some d →
        settles (.supplyPresenceDebounced c) { p with present := p.presentRaw, presentTimer := none }) ∧
      (p.goodTimer = some d → p.goodRaw = false →
        settles (.supplyPowerGoodLost c) { p with good := false, goodTimer := none }) ∧
      (p.goodTimer = some d → p.goodRaw = true →
        settles (.supplyPowerGoodRecovered c) { p with good := true, goodTimer := none }) ∧
      (p.warnedTimer = some d →
        settles (.supplyWarningDebounced c) { p with warned := p.warnedRaw, warnedTimer := none })

/-- The demand for a margin m under floor duty f: f at 30 or more, 100 at 0 or less, and f + (100 − f) × (30 − m) / 30
between (R145). -/
def Obligations.DemandFollowsTheMargin : Prop :=
  ∀ (f : Nat) (m : Int), f ≤ 100 →
    (30 ≤ m → demandFor f m = f) ∧ (m ≤ 0 → demandFor f m = 100) ∧
    (0 < m → m < 30 → (demandFor f m : Int) = f + (100 - f) * (30 - m) / 30)

/-- An inlet reading, taken every Tst, sets the inlet demand from the limit's margin, or to the fail-safe demand when
it is invalid, and the zone is derived afresh (R147, R148). A powered slot's demand is that of its margin, or the
fail-safe demand without one or with an UNRESPONSIVE blade (R146). A zone's raw demand is the largest of its
contributors, and absent without one (R148); the reported demand rises with it at once and falls by 4 points or more
(R149). A fan target is the floor duty or the largest demand for its zone: the own reported one, those that the LIVE and
STALE peers list, and 100 where a SILENT one lists it (R150). Each change of whether a slot is powered, of its blade's
health or of its margin derives its zone and the fan targets at that slot's own change (R66, R78, R146). That the inlet
timer runs on from the instant at which it was due is the model's choice (notes/assumptions/28), and so is the reading
of a zone that a STANDING lists twice (notes/assumptions/39). -/
def Obligations.InletReadingsSetTheDemand : Prop :=
  (∀ (s : State) (z : ZoneIx) (d : Nat), s.run = .running → s.cooling.inletTimer = some d → d ≤ s.now →
    s.settings.inletZone = some z →
    let takes (reading : Option Int) (x : Nat) : Prop :=
      ∃ t, exec (.inletReading reading) s = .next t ∧ t.cooling.inletDemand = some x ∧
        t.cooling.inletTimer = some (d + s.tst) ∧ t.cooling.judging = s.cooling.judging ∧
        t = { s with cooling := t.cooling, attention := t.attention } ∧
        t.cooling.raw[z] = rawDemand t z ∧
        t.cooling.reported[z] = reportDemand s.cooling.reported[z] (rawDemand t z) ∧
        (∀ c : ChanIx, c.val < s.settings.fanCount →
          t.cooling.fans[c].target = fanTarget t s.settings.fans[c].zone) ∧
        ∀ y : ZoneIx, y ≠ z → t.cooling.raw[y] = s.cooling.raw[y] ∧ t.cooling.reported[y] = s.cooling.reported[y]
    (∀ r, takes (some r) (demandFor s.settings.floorDuty (s.settings.inletLimit - r))) ∧
      takes none s.settings.failSafe) ∧
  (∀ (o : StepOrder) (i : SlotIx) (f : Bay → Bay) (w : Work),
    let a := w.st.bays[i]
    let t := (modBay o i f w).st
    let z := t.bays[i].cfg.zone
    (a.powered ≠ (f a).powered ∨ a.link.health ≠ (f a).link.health ∨ a.link.margin ≠ (f a).link.margin →
      t.cooling.raw[z] = rawDemand t z ∧
      t.cooling.reported[z] = reportDemand w.st.cooling.reported[z] (rawDemand t z) ∧
      (∀ c : ChanIx, c.val < t.settings.fanCount →
        t.cooling.fans[c].target = fanTarget t t.settings.fans[c].zone) ∧
      ∀ y : ZoneIx, y ≠ z → t.cooling.raw[y] = w.st.cooling.raw[y]) ∧
    (a.powered = (f a).powered → a.link.health = (f a).link.health → a.link.margin = (f a).link.margin →
      t.cooling = w.st.cooling)) ∧
  (∀ (s : State) (i : SlotIx),
    let b := s.bays[i]
    (b.fitted = false ∨ b.powered = false → slotDemand s i = none) ∧
    (b.fitted = true → b.powered = true → slotDemand s i = some (match b.link.margin with
      | some m => if b.link.health = .responsive then demandFor s.settings.floorDuty m else s.settings.failSafe
      | none => s.settings.failSafe))) ∧
  (∀ (s : State) (z : ZoneIx),
    let gives (x : Nat) : Prop := (∃ i : SlotIx, s.bays[i].cfg.zone = z ∧ slotDemand s i = some x) ∨
      (s.settings.inletZone = some z ∧ s.cooling.inletDemand = some x)
    (rawDemand s z = none ↔ ∀ x, ¬gives x) ∧
    ∀ x, rawDemand s z = some x ↔ gives x ∧ ∀ y, gives y → y ≤ x) ∧
  (∀ (before : Option Nat) (b r : Nat),
    reportDemand before none = none ∧ reportDemand none (some r) = some r ∧
    (b < r ∨ r + 4 ≤ b → reportDemand (some b) (some r) = some r) ∧
    (r ≤ b → b ≤ r + 3 → reportDemand (some b) (some r) = some b)) ∧
  ∀ (s : State) (z : ZoneIx),
    let x := fanTarget s z
    let asks (y : Nat) : Prop := ∃ (a : Addr) (m : Standing) (d : Nat), a ≠ s.address ∧
      s.peers[a].standing = some m ∧ listedDemand m z = some d ∧
      (((s.peers[a].state = .live ∨ s.peers[a].state = .stale) ∧ y = d) ∨ (s.peers[a].state = .silent ∧ y = 100))
    s.settings.floorDuty ≤ x ∧ (∀ y, s.cooling.reported[z] = some y → y ≤ x) ∧ (∀ y, asks y → y ≤ x) ∧
    (x = s.settings.floorDuty ∨ s.cooling.reported[z] = some x ∨ asks x) ∧
    ∀ (m : Standing),
      (∀ d, listedDemand m z = some d → ∃ e ∈ m.zones, e.zone = z.val ∧ e.demand = d) ∧
      (listedDemand m z = none → ∀ e ∈ m.zones, e.zone ≠ z.val)

/-! ### Resets and census -/

/-- Power-on reset takes every gate and standby feed off whatever the station was doing (R184); the restart input
begins a warm restart, which holds them, begins the record read of one in progress again, and does nothing in power-on
reset (R185). Both empty the transmit queue, drive the fans at 100 %, disconnect every port and deassert the line
(R11, R152, R173, R180). In a warm restart the severe comparator cuts a slot at once (R185). That the restart input
does nothing in power-on reset is the model's choice (notes/assumptions/14). -/
def Obligations.ResetsBegin : Prop :=
  ∀ s : State,
    let quiet (t : State) : Prop :=
      t.bus.urgent = [] ∧ t.bus.control = [] ∧ t.bus.routine = [] ∧ t.bus.onBus = none ∧ t.bus.owed = [] ∧
        t.attention.line = false ∧ (∀ c : ChanIx, t.cooling.fans[c].duty = 100) ∧
        (∀ (i : SlotIx) (p : PortIx), (portOf t i p).cross = none) ∧ ∀ i : SlotIx, t.bays[i].link.inFlight = none
    (∃ t, exec .powerOnReset s = .next t ∧ t.run = .powerOnReset s.now ∧ quiet t ∧
      ∀ i : SlotIx, t.bays[i].seq.gate = .off ∧ t.bays[i].seq.standby = false) ∧
    (s.run = .running → ∃ t, exec .restartInputAssert s = .next t ∧ t.run = .warmRestart s.now ∧ quiet t ∧
      t.bus.good = s.bus.good ∧
      ∀ i : SlotIx, t.bays[i].seq.gate = s.bays[i].seq.gate ∧ t.bays[i].seq.standby = s.bays[i].seq.standby) ∧
    (∀ d, s.run = .warmRestart d →
      exec .restartInputAssert s = .next { s with run := .warmRestart s.now } ∧
      ∀ i : SlotIx, s.bays[i].seq.gate ≠ .off → exec (.severeOvercurrent i) s =
        .next (setBay i (fun b => { b with seq := { b.seq with gate := .off, cutInRestart := true } }) s)) ∧
    ∀ d, s.run = .powerOnReset d → exec .restartInputAssert s = .next s

/-- At the end of power-on reset the station runs with the address of its straps, epoch 0, bus counters 0, every peer
UNKNOWN, every slot EMPTY with its switch off, the settings of a good record or the built-in defaults, ROLL CALL and
STANDING offered, and a census of 5 Tst (R182, R183, R184, R187). -/
def Obligations.PowerOnResetEnds : Prop :=
  ∀ (s : State) (d : Nat) (a : Addr) (inp : ResetInputs), s.run = .powerOnReset d →
    ∃ t, exec (.powerOnResetEnd a inp) s = .next t ∧ t.run = .running ∧ t.address = a ∧ t.self.epoch = 0 ∧
      t.bus.good = 0 ∧ t.bus.crcDrops = 0 ∧ t.bus.overflows = 0 ∧ t.bus.ordersRefused = 0 ∧ t.bus.sequence = 0 ∧
      t.bus.routine = [.rollCall, .standing] ∧ t.census = some (s.now + 5 * t.tst) ∧
      t.peers = Vector.replicate 16 Peer.fresh ∧ t.tagCounter = 0 ∧ t.budget.folded = 255 ∧
      (settingsFrom inp.reads = none → t.settings = Settings.default ∧ t.startDefaults = true ∧
        t.attention.station.startDefaults = true) ∧
      (∀ x, settingsFrom inp.reads = some x → t.settings = x ∧ t.startDefaults = false) ∧
      ∀ i : SlotIx, t.bays[i].seq.state = .empty ∧ t.bays[i].seq.gate = .off ∧ t.bays[i].seq.cause = .none ∧
        t.bays[i].fitted = decide (i.val < t.settings.slotCount)

/-- At the end of a warm restart the epoch is one more, the bus counters are kept, and the census begins (R185, R187).
Each slot is re-examined under the record just read: one present with its gate on is adopted in RUNNING with the gate
left on, one present with its gate off enters IDENTIFY, a STUCK slot stays STUCK, one whose blade has gone is switched
off and EMPTY with cause SURPRISE_REMOVAL, one that the severe comparator cut in the restart is LATCHED, or EMPTY where
its presence has gone, with cause SEVERE_OC, and one no longer fitted is EMPTY with gate and standby off (R186). That a
stuck check is owed through the restart is the model's reading (notes/assumptions/15). -/
def Obligations.WarmRestartEnds : Prop :=
  (∀ (s : State) (d : Nat) (inp : ResetInputs), s.run = .warmRestart d →
    ∃ t, exec (.warmRestartEnd inp) s = .next t ∧ t.run = .running ∧ t.address = s.address ∧
      t.self.epoch = s.self.epoch + 1 ∧ t.bus.good = s.bus.good ∧ t.bus.crcDrops = s.bus.crcDrops ∧
      t.bus.overflows = s.bus.overflows ∧ t.bus.ordersRefused = s.bus.ordersRefused ∧
      t.bus.routine = [.rollCall, .standing] ∧ t.census = some (s.now + 5 * t.tst) ∧ t.peers = Vector.replicate 16 Peer.fresh ∧
      t.attention.restartOwed = false ∧
      (settingsFrom inp.reads = none → t.settings = Settings.default ∧ t.startDefaults = true) ∧
      (∀ x, settingsFrom inp.reads = some x → t.settings = x ∧ t.startDefaults = false) ∧
      ∀ i : SlotIx, t.bays[i] = reexamine t.settings inp s.now s.bays[i] i) ∧
  (∀ (st : Settings) (inp : ResetInputs) (now : Nat) (old : Bay) (i : SlotIx), st.slotCount ≤ i.val →
    let x := reexamine st inp now old i
    x.fitted = false ∧ x.seq.state = .empty ∧ x.seq.gate = .off ∧ x.seq.standby = false ∧
      x.seq.cause = old.seq.cause ∧ x.seq.stuckTimer = none ∧ x.charge = 0) ∧
  ∀ (st : Settings) (inp : ResetInputs) (now : Nat) (old : Bay) (i : SlotIx), i.val < st.slotCount →
    let q := old.seq
    let x := reexamine st inp now old i
    let b := x.seq
    let reads (p : ReadPurpose) : Prop := x.link.inventory = some ⟨p, 0, 0, []⟩
    let owed : Due := if q.stuckTimer.isSome = true then some (now + 50) else none
    x.fitted = true ∧ x.cfg = st.slots[i] ∧ b.retryCount = 0 ∧ b.presence = inp.presence[i] ∧
      b.ejectorOpen = inp.ejectorOpen[i] ∧
    (q.state = .stuck → b.state = .stuck ∧ b.gate = .off ∧ b.standby = q.standby ∧ b.cause = q.cause ∧
      x.charge = st.slots[i].worstCase) ∧
    (q.state ≠ .stuck → q.cutInRestart = true → inp.presence[i] = true →
      b.state = .latched ∧ b.cause = .severeOc ∧ b.gate = .off ∧ b.stuckTimer = some (now + 50) ∧
        b.standby = true ∧ reads .seating) ∧
    (q.state ≠ .stuck → q.cutInRestart = true → inp.presence[i] = false →
      b.state = .empty ∧ b.cause = .severeOc ∧ b.gate = .off ∧ b.standby = false ∧
        b.stuckTimer = some (now + 50)) ∧
    (q.state ≠ .stuck → q.cutInRestart = false →
      (q.gate ≠ .off → inp.presence[i] = true → inp.ejectorOpen[i] = false →
        b.state = .running ∧ b.adopted = true ∧ b.gate = .lifted ∧ b.allowance = some st.slots[i].worstCase ∧
          reads .adoption ∧ x.link.cap = some ⟨x.activeCeiling, .writing, 0⟩ ∧
          x.link.heartbeat = some (now + st.constants.tst) ∧ x.link.hold = .running (now + 1000) ∧
          x.charge = st.slots[i].worstCase) ∧
      (q.gate ≠ .off → inp.presence[i] = true → inp.ejectorOpen[i] = true →
        b.state = .stopping ∧ b.phase = some .draining ∧ b.dest = some .unseat ∧ b.adopted = true ∧
          reads .adoption) ∧
      (q.gate = .off → inp.presence[i] = true → b.state = .identify ∧ b.standby = true ∧ b.cause = q.cause ∧
        b.gate = .off ∧ b.stuckTimer = owed ∧ reads .seating) ∧
      (q.gate ≠ .off → inp.presence[i] = false →
        b.state = .empty ∧ b.gate = .off ∧ b.standby = false ∧ b.cause = .surpriseRemoval ∧
          b.stuckTimer = some (now + 50)) ∧
      (q.gate = .off → inp.presence[i] = false → b.state = .empty ∧ b.gate = .off ∧ b.standby = false ∧
        b.cause = q.cause ∧ b.stuckTimer = owed))

/-- At the census timer's expiry the census ends: a deficit found in it is answered, the sending check is made, tach
judging begins with its counts at 0, and the port lane records of each slot in RUNNING and not adopted start (R131,
R189). A recomputation computes the figures and flags afresh, marks or lifts the bar, takes the deficit step and the
restoration step, and makes the sending check, in that order; a slot's new charge is one, and so is the notification of
the units by the peer view, after the fan targets, and a change of a fan channel's health brings one (R36, R66, R111).
Step 4 of a recomputation enters a deficit at a negative Hs, or only flags it in the census; leaves it at an Hs of 0 or
more; and in deficit sheds only what the excess has risen above the shed mark, which follows the excess (R129, R130,
R131, R133). The answer to a deficit withdraws the restore entry, with the report that its slot has none, sets the shed
mark, and sheds the share: the excess in proportion to own committed, rounded up (R113, R129, R132). Shedding caps the
slots in shed order toward their floors, then powers slots off in that order while some of the share remains, and ends
with the share given up or no slot powered (R134, R135, R136). That the charge reports of a shed wait until step 4 has
ended is the model's reading (notes/assumptions/4), and that at the census's end the sending check comes before the
records' starts, slot 0 first, is its choice (notes/assumptions/47). -/
def Obligations.CensusEnds : Prop :=
  (∀ (s : State) (d : Nat), s.run = .running → s.census = some d → d ≤ s.now →
    (∃ t, exec .censusEnd s = .next t ∧ t.census = none ∧ t.cooling.judging = true ∧
      (∀ c : ChanIx, t.cooling.fans[c].low = 0 ∧ t.cooling.fans[c].good = 0 ∧
        t.cooling.fans[c].health = s.cooling.fans[c].health) ∧
      t.peers = s.peers ∧ t.supplies = s.supplies ∧ t.settings = s.settings ∧
      (s.budget.deficit = false → t.bays.map (·.seq) = s.bays.map (·.seq))) ∧
    let w : Work := ⟨{ s with census := none }, []⟩
    exec .censusEnd s = .next (finish ((if s.budget.deficit then answerDeficit w else w).map fun s =>
      (List.finRange 4).foldl (fun t i =>
        if t.bays[i].seq.state = .running ∧ t.bays[i].seq.adopted = false then startPorts i t else t)
        (startJudging (sendingCheck s))))) ∧
  (∀ (w : Work) (i : SlotIx) (x : Nat),
    recompute w = (restorationStep (deficitStep (w.map fun s => markBar (refigure s)))).map sendingCheck ∧
    deliver (.charge i x) w = recompute (w.map fun s =>
      { s with budget := { s.budget with reported := s.budget.reported.set i x } }) ∧
    notifyUnits w = recompute (w.map deriveTargets)) ∧
  (∀ (w : Work) (c : ChanIx) (tach : Nat), c.val < w.st.settings.fanCount →
    let t := if w.st.cooling.judging = true then w.map (judgeFan c tach) else w
    let before := w.st.cooling.fans[c].health
    let after := t.st.cooling.fans[c].health
    let u := flush (recompute t)
    (after = before → updateFan c tach w = t.map (setDuty c)) ∧
    (after ≠ before → updateFan c tach w = (if after = .failed then u.map fun s => { s with
      attention := { s.attention with station := { s.attention.station with fanFailed := true } } } else u).map
        (setDuty c))) ∧
  (∀ s : State,
    let t := refigure s
    let b := t.budget
    FiguresInv t ∧ t = { s with budget := b, attention := t.attention } ∧
    b = { s.budget with
      base := b.base, failedFans := b.failedFans, factor := b.factor, usable := b.usable, committed := b.committed
      ha := b.ha, hs := b.hs, redundancyLost := b.redundancyLost, coolingDegraded := b.coolingDegraded, blocked := [] } ∧
    t.attention = if b.redundancyLost = true ∧ s.budget.redundancyLost = false then
      { s.attention with station := { s.attention.station with redundancyLost := true } } else s.attention) ∧
  (∀ w : Work,
    let b := w.st.budget
    let excess := (-b.hs).toNat
    let mark : State → State := fun s => { s with budget := { s.budget with shedMark := some excess } }
    let flag : State → State := fun s => { s with
      budget := { s.budget with deficit := true }
      attention := { s.attention with station := { s.attention.station with deficit := true } } }
    let calm := withdrawRestore w
    (0 ≤ b.hs → b.deficit = false → deficitStep w = w) ∧
    (0 ≤ b.hs → b.deficit = true → deficitStep w =
      w.map fun s => { s with budget := { s.budget with deficit := false, shedMark := none } }) ∧
    (b.hs < 0 → w.st.census.isSome = true → deficitStep w = if b.deficit = true then w else w.map flag) ∧
    (b.hs < 0 → w.st.census = none → b.deficit = false →
      deficitStep w = answerDeficit (w.map fun s => withdrawClaim (flag s))) ∧
    (∀ m, b.hs < 0 → w.st.census = none → b.deficit = true → b.shedMark = some m → deficitStep w =
      if excess ≤ m then w.map mark else shed (ownShare w.st (excess - m)) (w.map mark)) ∧
    (calm = match b.restoreEntry with
      | none => w
      | some i =>
        let u := if (entryOf w.st i).isSome = true then (w.map (withdrawEntry i)).emit [.settle i] else w
        u.map fun s => { s with budget := { s.budget with restoreEntry := none } }) ∧
    answerDeficit w = shed (ownShare calm.st excess) (calm.map mark) ∧
    (withdrawClaim w.st = if b.own.state = .queued then
      { withdrawQueued .control isClaim w.st with budget := { b with own := OwnClaim.idle } } else w.st)) ∧
  (∀ (s : State) (x : Nat),
    let total := s.budget.committed + supplyCharges s
    let share := ownShare s x
    (s.budget.committed = 0 → share = 0) ∧
    (0 < s.budget.committed → x * s.budget.committed ≤ share * total ∧
      ∀ k, x * s.budget.committed ≤ k * total → share ≤ k)) ∧
  (∀ s : State, (shedOrder s).Perm (List.finRange 4) ∧
    (shedOrder s).Pairwise fun i j => prio s i < prio s j ∨ (prio s i = prio s j ∧ j < i)) ∧
  (∀ (w : Work) (n : Nat) (i : SlotIx) (l : List SlotIx),
    let b := w.st.bays[i]
    let give := min n (b.charge - b.seq.floor.getD 0)
    let c : Bay := { b with seq := { b.seq with
      savedCeiling := if b.seq.shedCeiling.isSome = true then b.seq.savedCeiling else some b.activeCeiling
      shedCeiling := some (b.charge - give), overdraw := none } }
    let visits : Prop := 0 < n ∧ b.fitted = true ∧ b.seq.state = .running ∧ b.recordValid = true ∧
      b.seq.adopted = false ∧ b.seq.floor.getD 0 < b.charge
    shed n w = (powerOffPass (shedOrder w.st) (capPass (shedOrder w.st) (w, n))).1 ∧
    capPass [] (w, n) = (w, n) ∧ powerOffPass [] (w, n) = (w, n) ∧
    (visits → capPass (i :: l) (w, n) = capPass l (modBay .fault i (fun _ => c) w, n - (b.charge - c.charge)) ∧
      give ≤ b.charge - c.charge ∧ c.charge = c.activeCeiling) ∧
    (¬visits → capPass (i :: l) (w, n) = capPass l (w, n)) ∧
    (0 < n → b.powered = true →
      powerOffPass (i :: l) (w, n) = powerOffPass l (powerOff i .shed w, n - b.charge)) ∧
    (n = 0 ∨ b.powered = false → powerOffPass (i :: l) (w, n) = powerOffPass l (w, n))) ∧
  (∀ (w : Work) (i : SlotIx) (cause : ShutdownCause), w.st.bays[i].powered = true →
    let q := w.st.bays[i].seq
    let b := (powerOff i cause w).st.bays[i]
    b.charge = 0 ∧ b.seq.gate = .off ∧ b.seq.cause = cause ∧ b.seq.overdraw = none ∧ b.seq.cycle = false ∧
    (q.ejectorOpen = false → b.seq.state = .shedOff ∧ b.seq.shedCeiling = q.shedCeiling ∧
      b.seq.savedCeiling = q.savedCeiling ∧ b.seq.restoreBarred = w.st.bays[i].draining) ∧
    (q.ejectorOpen = true → b.seq.state = .off ∧ b.seq.ejectorHold = true ∧ b.seq.shedCeiling = none ∧
      b.seq.savedCeiling = none)) ∧
  ∀ (w : Work) (n : Nat),
    let drawn (s : State) : Nat := s.bays[0].charge + s.bays[1].charge + s.bays[2].charge + s.bays[3].charge
    let t := (shed n w).st
    drawn t + n ≤ drawn w.st ∨ ∀ i : SlotIx, t.bays[i].powered = false
end

