-- ==== Sys2Proof/Laws/State.lean ====
section
/-! SUPPORT. One lemma per field per update of the station: what each shared update writes, and that it leaves every
other field as it was. All are true by `rfl`. -/

namespace Sys2Proof.Machine

variable (s : State)

/-! ### withQueue -/

@[simp] theorem withQueue_pending (q : List Instr) : (s.withQueue q).pending = q := rfl
@[simp] theorem withQueue_now (q : List Instr) : (s.withQueue q).now = s.now := rfl
@[simp] theorem withQueue_run (q : List Instr) : (s.withQueue q).run = s.run := rfl
@[simp] theorem withQueue_address (q : List Instr) : (s.withQueue q).address = s.address := rfl
@[simp] theorem withQueue_settings (q : List Instr) : (s.withQueue q).settings = s.settings := rfl
@[simp] theorem withQueue_startDefaults (q : List Instr) : (s.withQueue q).startDefaults = s.startDefaults := rfl
@[simp] theorem withQueue_self (q : List Instr) : (s.withQueue q).self = s.self := rfl
@[simp] theorem withQueue_census (q : List Instr) : (s.withQueue q).census = s.census := rfl
@[simp] theorem withQueue_bus (q : List Instr) : (s.withQueue q).bus = s.bus := rfl
@[simp] theorem withQueue_peers (q : List Instr) : (s.withQueue q).peers = s.peers := rfl
@[simp] theorem withQueue_bays (q : List Instr) : (s.withQueue q).bays = s.bays := rfl
@[simp] theorem withQueue_stationVolt (q : List Instr) : (s.withQueue q).stationVolt = s.stationVolt := rfl
@[simp] theorem withQueue_meterDue (q : List Instr) : (s.withQueue q).meterDue = s.meterDue := rfl
@[simp] theorem withQueue_supplies (q : List Instr) : (s.withQueue q).supplies = s.supplies := rfl
@[simp] theorem withQueue_budget (q : List Instr) : (s.withQueue q).budget = s.budget := rfl
@[simp] theorem withQueue_cooling (q : List Instr) : (s.withQueue q).cooling = s.cooling := rfl
@[simp] theorem withQueue_owner (q : List Instr) : (s.withQueue q).owner = s.owner := rfl
@[simp] theorem withQueue_tagCounter (q : List Instr) : (s.withQueue q).tagCounter = s.tagCounter := rfl
@[simp] theorem withQueue_attention (q : List Instr) : (s.withQueue q).attention = s.attention := rfl

/-! ### tick -/

@[simp] theorem tick_pending : (tick s).pending = s.pending := rfl
@[simp] theorem tick_now : (tick s).now = s.now + 1 := rfl
@[simp] theorem tick_run : (tick s).run = s.run := rfl
@[simp] theorem tick_address : (tick s).address = s.address := rfl
@[simp] theorem tick_settings : (tick s).settings = s.settings := rfl
@[simp] theorem tick_startDefaults : (tick s).startDefaults = s.startDefaults := rfl
@[simp] theorem tick_self : (tick s).self = s.self := rfl
@[simp] theorem tick_census : (tick s).census = s.census := rfl
@[simp] theorem tick_bus : (tick s).bus = s.bus := rfl
@[simp] theorem tick_peers : (tick s).peers = s.peers := rfl
@[simp] theorem tick_bays : (tick s).bays = s.bays := rfl
@[simp] theorem tick_stationVolt : (tick s).stationVolt = s.stationVolt := rfl
@[simp] theorem tick_meterDue : (tick s).meterDue = s.meterDue := rfl
@[simp] theorem tick_supplies : (tick s).supplies = s.supplies := rfl
@[simp] theorem tick_budget : (tick s).budget = s.budget := rfl
@[simp] theorem tick_cooling : (tick s).cooling = s.cooling := rfl
@[simp] theorem tick_owner : (tick s).owner = s.owner := rfl
@[simp] theorem tick_tagCounter : (tick s).tagCounter = s.tagCounter := rfl
@[simp] theorem tick_attention : (tick s).attention = s.attention := rfl

/-! ### setBay -/

@[simp] theorem setBay_pending (i : SlotIx) (f : Bay → Bay) : (setBay i f s).pending = s.pending := rfl
@[simp] theorem setBay_now (i : SlotIx) (f : Bay → Bay) : (setBay i f s).now = s.now := rfl
@[simp] theorem setBay_run (i : SlotIx) (f : Bay → Bay) : (setBay i f s).run = s.run := rfl
@[simp] theorem setBay_address (i : SlotIx) (f : Bay → Bay) : (setBay i f s).address = s.address := rfl
@[simp] theorem setBay_settings (i : SlotIx) (f : Bay → Bay) : (setBay i f s).settings = s.settings := rfl
@[simp] theorem setBay_startDefaults (i : SlotIx) (f : Bay → Bay) : (setBay i f s).startDefaults = s.startDefaults := rfl
@[simp] theorem setBay_self (i : SlotIx) (f : Bay → Bay) : (setBay i f s).self = s.self := rfl
@[simp] theorem setBay_census (i : SlotIx) (f : Bay → Bay) : (setBay i f s).census = s.census := rfl
@[simp] theorem setBay_bus (i : SlotIx) (f : Bay → Bay) : (setBay i f s).bus = s.bus := rfl
@[simp] theorem setBay_peers (i : SlotIx) (f : Bay → Bay) : (setBay i f s).peers = s.peers := rfl
@[simp] theorem setBay_bays (i : SlotIx) (f : Bay → Bay) : (setBay i f s).bays = updAt s.bays i f := rfl
@[simp] theorem setBay_stationVolt (i : SlotIx) (f : Bay → Bay) : (setBay i f s).stationVolt = s.stationVolt := rfl
@[simp] theorem setBay_meterDue (i : SlotIx) (f : Bay → Bay) : (setBay i f s).meterDue = s.meterDue := rfl
@[simp] theorem setBay_supplies (i : SlotIx) (f : Bay → Bay) : (setBay i f s).supplies = s.supplies := rfl
@[simp] theorem setBay_budget (i : SlotIx) (f : Bay → Bay) : (setBay i f s).budget = s.budget := rfl
@[simp] theorem setBay_cooling (i : SlotIx) (f : Bay → Bay) : (setBay i f s).cooling = s.cooling := rfl
@[simp] theorem setBay_owner (i : SlotIx) (f : Bay → Bay) : (setBay i f s).owner = s.owner := rfl
@[simp] theorem setBay_tagCounter (i : SlotIx) (f : Bay → Bay) : (setBay i f s).tagCounter = s.tagCounter := rfl
@[simp] theorem setBay_attention (i : SlotIx) (f : Bay → Bay) : (setBay i f s).attention = s.attention := rfl

/-! ### setPeer -/

@[simp] theorem setPeer_pending (a : Addr) (f : Peer → Peer) : (setPeer a f s).pending = s.pending := rfl
@[simp] theorem setPeer_now (a : Addr) (f : Peer → Peer) : (setPeer a f s).now = s.now := rfl
@[simp] theorem setPeer_run (a : Addr) (f : Peer → Peer) : (setPeer a f s).run = s.run := rfl
@[simp] theorem setPeer_address (a : Addr) (f : Peer → Peer) : (setPeer a f s).address = s.address := rfl
@[simp] theorem setPeer_settings (a : Addr) (f : Peer → Peer) : (setPeer a f s).settings = s.settings := rfl
@[simp] theorem setPeer_startDefaults (a : Addr) (f : Peer → Peer) : (setPeer a f s).startDefaults = s.startDefaults := rfl
@[simp] theorem setPeer_self (a : Addr) (f : Peer → Peer) : (setPeer a f s).self = s.self := rfl
@[simp] theorem setPeer_census (a : Addr) (f : Peer → Peer) : (setPeer a f s).census = s.census := rfl
@[simp] theorem setPeer_bus (a : Addr) (f : Peer → Peer) : (setPeer a f s).bus = s.bus := rfl
@[simp] theorem setPeer_peers (a : Addr) (f : Peer → Peer) : (setPeer a f s).peers = updAt s.peers a f := rfl
@[simp] theorem setPeer_bays (a : Addr) (f : Peer → Peer) : (setPeer a f s).bays = s.bays := rfl
@[simp] theorem setPeer_stationVolt (a : Addr) (f : Peer → Peer) : (setPeer a f s).stationVolt = s.stationVolt := rfl
@[simp] theorem setPeer_meterDue (a : Addr) (f : Peer → Peer) : (setPeer a f s).meterDue = s.meterDue := rfl
@[simp] theorem setPeer_supplies (a : Addr) (f : Peer → Peer) : (setPeer a f s).supplies = s.supplies := rfl
@[simp] theorem setPeer_budget (a : Addr) (f : Peer → Peer) : (setPeer a f s).budget = s.budget := rfl
@[simp] theorem setPeer_cooling (a : Addr) (f : Peer → Peer) : (setPeer a f s).cooling = s.cooling := rfl
@[simp] theorem setPeer_owner (a : Addr) (f : Peer → Peer) : (setPeer a f s).owner = s.owner := rfl
@[simp] theorem setPeer_tagCounter (a : Addr) (f : Peer → Peer) : (setPeer a f s).tagCounter = s.tagCounter := rfl
@[simp] theorem setPeer_attention (a : Addr) (f : Peer → Peer) : (setPeer a f s).attention = s.attention := rfl

/-! ### setFan -/

@[simp] theorem setFan_pending (c : ChanIx) (f : Fan → Fan) : (setFan c f s).pending = s.pending := rfl
@[simp] theorem setFan_now (c : ChanIx) (f : Fan → Fan) : (setFan c f s).now = s.now := rfl
@[simp] theorem setFan_run (c : ChanIx) (f : Fan → Fan) : (setFan c f s).run = s.run := rfl
@[simp] theorem setFan_address (c : ChanIx) (f : Fan → Fan) : (setFan c f s).address = s.address := rfl
@[simp] theorem setFan_settings (c : ChanIx) (f : Fan → Fan) : (setFan c f s).settings = s.settings := rfl
@[simp] theorem setFan_startDefaults (c : ChanIx) (f : Fan → Fan) : (setFan c f s).startDefaults = s.startDefaults := rfl
@[simp] theorem setFan_self (c : ChanIx) (f : Fan → Fan) : (setFan c f s).self = s.self := rfl
@[simp] theorem setFan_census (c : ChanIx) (f : Fan → Fan) : (setFan c f s).census = s.census := rfl
@[simp] theorem setFan_bus (c : ChanIx) (f : Fan → Fan) : (setFan c f s).bus = s.bus := rfl
@[simp] theorem setFan_peers (c : ChanIx) (f : Fan → Fan) : (setFan c f s).peers = s.peers := rfl
@[simp] theorem setFan_bays (c : ChanIx) (f : Fan → Fan) : (setFan c f s).bays = s.bays := rfl
@[simp] theorem setFan_stationVolt (c : ChanIx) (f : Fan → Fan) : (setFan c f s).stationVolt = s.stationVolt := rfl
@[simp] theorem setFan_meterDue (c : ChanIx) (f : Fan → Fan) : (setFan c f s).meterDue = s.meterDue := rfl
@[simp] theorem setFan_supplies (c : ChanIx) (f : Fan → Fan) : (setFan c f s).supplies = s.supplies := rfl
@[simp] theorem setFan_budget (c : ChanIx) (f : Fan → Fan) : (setFan c f s).budget = s.budget := rfl
@[simp] theorem setFan_cooling (c : ChanIx) (f : Fan → Fan) : (setFan c f s).cooling = { s.cooling with fans := updAt s.cooling.fans c f } := rfl
@[simp] theorem setFan_owner (c : ChanIx) (f : Fan → Fan) : (setFan c f s).owner = s.owner := rfl
@[simp] theorem setFan_tagCounter (c : ChanIx) (f : Fan → Fan) : (setFan c f s).tagCounter = s.tagCounter := rfl
@[simp] theorem setFan_attention (c : ChanIx) (f : Fan → Fan) : (setFan c f s).attention = s.attention := rfl

/-! ### setSupply -/

@[simp] theorem setSupply_pending (c : ChanIx) (f : Supply → Supply) : (setSupply c f s).pending = s.pending := rfl
@[simp] theorem setSupply_now (c : ChanIx) (f : Supply → Supply) : (setSupply c f s).now = s.now := rfl
@[simp] theorem setSupply_run (c : ChanIx) (f : Supply → Supply) : (setSupply c f s).run = s.run := rfl
@[simp] theorem setSupply_address (c : ChanIx) (f : Supply → Supply) : (setSupply c f s).address = s.address := rfl
@[simp] theorem setSupply_settings (c : ChanIx) (f : Supply → Supply) : (setSupply c f s).settings = s.settings := rfl
@[simp] theorem setSupply_startDefaults (c : ChanIx) (f : Supply → Supply) : (setSupply c f s).startDefaults = s.startDefaults := rfl
@[simp] theorem setSupply_self (c : ChanIx) (f : Supply → Supply) : (setSupply c f s).self = s.self := rfl
@[simp] theorem setSupply_census (c : ChanIx) (f : Supply → Supply) : (setSupply c f s).census = s.census := rfl
@[simp] theorem setSupply_bus (c : ChanIx) (f : Supply → Supply) : (setSupply c f s).bus = s.bus := rfl
@[simp] theorem setSupply_peers (c : ChanIx) (f : Supply → Supply) : (setSupply c f s).peers = s.peers := rfl
@[simp] theorem setSupply_bays (c : ChanIx) (f : Supply → Supply) : (setSupply c f s).bays = s.bays := rfl
@[simp] theorem setSupply_stationVolt (c : ChanIx) (f : Supply → Supply) : (setSupply c f s).stationVolt = s.stationVolt := rfl
@[simp] theorem setSupply_meterDue (c : ChanIx) (f : Supply → Supply) : (setSupply c f s).meterDue = s.meterDue := rfl
@[simp] theorem setSupply_supplies (c : ChanIx) (f : Supply → Supply) : (setSupply c f s).supplies = updAt s.supplies c f := rfl
@[simp] theorem setSupply_budget (c : ChanIx) (f : Supply → Supply) : (setSupply c f s).budget = s.budget := rfl
@[simp] theorem setSupply_cooling (c : ChanIx) (f : Supply → Supply) : (setSupply c f s).cooling = s.cooling := rfl
@[simp] theorem setSupply_owner (c : ChanIx) (f : Supply → Supply) : (setSupply c f s).owner = s.owner := rfl
@[simp] theorem setSupply_tagCounter (c : ChanIx) (f : Supply → Supply) : (setSupply c f s).tagCounter = s.tagCounter := rfl
@[simp] theorem setSupply_attention (c : ChanIx) (f : Supply → Supply) : (setSupply c f s).attention = s.attention := rfl

/-! ### raiseSlot -/

@[simp] theorem raiseSlot_pending (i : SlotIx) (f : SlotFlags → SlotFlags) : (raiseSlot i f s).pending = s.pending := rfl
@[simp] theorem raiseSlot_now (i : SlotIx) (f : SlotFlags → SlotFlags) : (raiseSlot i f s).now = s.now := rfl
@[simp] theorem raiseSlot_run (i : SlotIx) (f : SlotFlags → SlotFlags) : (raiseSlot i f s).run = s.run := rfl
@[simp] theorem raiseSlot_address (i : SlotIx) (f : SlotFlags → SlotFlags) : (raiseSlot i f s).address = s.address := rfl
@[simp] theorem raiseSlot_settings (i : SlotIx) (f : SlotFlags → SlotFlags) : (raiseSlot i f s).settings = s.settings := rfl
@[simp] theorem raiseSlot_startDefaults (i : SlotIx) (f : SlotFlags → SlotFlags) : (raiseSlot i f s).startDefaults = s.startDefaults := rfl
@[simp] theorem raiseSlot_self (i : SlotIx) (f : SlotFlags → SlotFlags) : (raiseSlot i f s).self = s.self := rfl
@[simp] theorem raiseSlot_census (i : SlotIx) (f : SlotFlags → SlotFlags) : (raiseSlot i f s).census = s.census := rfl
@[simp] theorem raiseSlot_bus (i : SlotIx) (f : SlotFlags → SlotFlags) : (raiseSlot i f s).bus = s.bus := rfl
@[simp] theorem raiseSlot_peers (i : SlotIx) (f : SlotFlags → SlotFlags) : (raiseSlot i f s).peers = s.peers := rfl
@[simp] theorem raiseSlot_bays (i : SlotIx) (f : SlotFlags → SlotFlags) : (raiseSlot i f s).bays = s.bays := rfl
@[simp] theorem raiseSlot_stationVolt (i : SlotIx) (f : SlotFlags → SlotFlags) : (raiseSlot i f s).stationVolt = s.stationVolt := rfl
@[simp] theorem raiseSlot_meterDue (i : SlotIx) (f : SlotFlags → SlotFlags) : (raiseSlot i f s).meterDue = s.meterDue := rfl
@[simp] theorem raiseSlot_supplies (i : SlotIx) (f : SlotFlags → SlotFlags) : (raiseSlot i f s).supplies = s.supplies := rfl
@[simp] theorem raiseSlot_budget (i : SlotIx) (f : SlotFlags → SlotFlags) : (raiseSlot i f s).budget = s.budget := rfl
@[simp] theorem raiseSlot_cooling (i : SlotIx) (f : SlotFlags → SlotFlags) : (raiseSlot i f s).cooling = s.cooling := rfl
@[simp] theorem raiseSlot_owner (i : SlotIx) (f : SlotFlags → SlotFlags) : (raiseSlot i f s).owner = s.owner := rfl
@[simp] theorem raiseSlot_tagCounter (i : SlotIx) (f : SlotFlags → SlotFlags) : (raiseSlot i f s).tagCounter = s.tagCounter := rfl
@[simp] theorem raiseSlot_attention (i : SlotIx) (f : SlotFlags → SlotFlags) : (raiseSlot i f s).attention = { s.attention with slots := updAt s.attention.slots i f } := rfl

/-! ### raiseStation -/

@[simp] theorem raiseStation_pending (f : StationFlags → StationFlags) : (raiseStation f s).pending = s.pending := rfl
@[simp] theorem raiseStation_now (f : StationFlags → StationFlags) : (raiseStation f s).now = s.now := rfl
@[simp] theorem raiseStation_run (f : StationFlags → StationFlags) : (raiseStation f s).run = s.run := rfl
@[simp] theorem raiseStation_address (f : StationFlags → StationFlags) : (raiseStation f s).address = s.address := rfl
@[simp] theorem raiseStation_settings (f : StationFlags → StationFlags) : (raiseStation f s).settings = s.settings := rfl
@[simp] theorem raiseStation_startDefaults (f : StationFlags → StationFlags) : (raiseStation f s).startDefaults = s.startDefaults := rfl
@[simp] theorem raiseStation_self (f : StationFlags → StationFlags) : (raiseStation f s).self = s.self := rfl
@[simp] theorem raiseStation_census (f : StationFlags → StationFlags) : (raiseStation f s).census = s.census := rfl
@[simp] theorem raiseStation_bus (f : StationFlags → StationFlags) : (raiseStation f s).bus = s.bus := rfl
@[simp] theorem raiseStation_peers (f : StationFlags → StationFlags) : (raiseStation f s).peers = s.peers := rfl
@[simp] theorem raiseStation_bays (f : StationFlags → StationFlags) : (raiseStation f s).bays = s.bays := rfl
@[simp] theorem raiseStation_stationVolt (f : StationFlags → StationFlags) : (raiseStation f s).stationVolt = s.stationVolt := rfl
@[simp] theorem raiseStation_meterDue (f : StationFlags → StationFlags) : (raiseStation f s).meterDue = s.meterDue := rfl
@[simp] theorem raiseStation_supplies (f : StationFlags → StationFlags) : (raiseStation f s).supplies = s.supplies := rfl
@[simp] theorem raiseStation_budget (f : StationFlags → StationFlags) : (raiseStation f s).budget = s.budget := rfl
@[simp] theorem raiseStation_cooling (f : StationFlags → StationFlags) : (raiseStation f s).cooling = s.cooling := rfl
@[simp] theorem raiseStation_owner (f : StationFlags → StationFlags) : (raiseStation f s).owner = s.owner := rfl
@[simp] theorem raiseStation_tagCounter (f : StationFlags → StationFlags) : (raiseStation f s).tagCounter = s.tagCounter := rfl
@[simp] theorem raiseStation_attention (f : StationFlags → StationFlags) : (raiseStation f s).attention = { s.attention with station := f s.attention.station } := rfl

/-! ### offer -/

@[simp] theorem offer_pending (m : Outgoing) : (offer m s).pending = s.pending := rfl
@[simp] theorem offer_now (m : Outgoing) : (offer m s).now = s.now := rfl
@[simp] theorem offer_run (m : Outgoing) : (offer m s).run = s.run := rfl
@[simp] theorem offer_address (m : Outgoing) : (offer m s).address = s.address := rfl
@[simp] theorem offer_settings (m : Outgoing) : (offer m s).settings = s.settings := rfl
@[simp] theorem offer_startDefaults (m : Outgoing) : (offer m s).startDefaults = s.startDefaults := rfl
@[simp] theorem offer_self (m : Outgoing) : (offer m s).self = s.self := rfl
@[simp] theorem offer_census (m : Outgoing) : (offer m s).census = s.census := rfl
@[simp] theorem offer_bus (m : Outgoing) : (offer m s).bus = s.bus.offer m s.now s.tst := rfl
@[simp] theorem offer_peers (m : Outgoing) : (offer m s).peers = s.peers := rfl
@[simp] theorem offer_bays (m : Outgoing) : (offer m s).bays = s.bays := rfl
@[simp] theorem offer_stationVolt (m : Outgoing) : (offer m s).stationVolt = s.stationVolt := rfl
@[simp] theorem offer_meterDue (m : Outgoing) : (offer m s).meterDue = s.meterDue := rfl
@[simp] theorem offer_supplies (m : Outgoing) : (offer m s).supplies = s.supplies := rfl
@[simp] theorem offer_budget (m : Outgoing) : (offer m s).budget = s.budget := rfl
@[simp] theorem offer_cooling (m : Outgoing) : (offer m s).cooling = s.cooling := rfl
@[simp] theorem offer_owner (m : Outgoing) : (offer m s).owner = s.owner := rfl
@[simp] theorem offer_tagCounter (m : Outgoing) : (offer m s).tagCounter = s.tagCounter := rfl
@[simp] theorem offer_attention (m : Outgoing) : (offer m s).attention = s.attention := rfl

/-! ### withdrawQueued -/

@[simp] theorem withdrawQueued_pending (c : MsgClass) (p : Outgoing → Bool) : (withdrawQueued c p s).pending = s.pending := rfl
@[simp] theorem withdrawQueued_now (c : MsgClass) (p : Outgoing → Bool) : (withdrawQueued c p s).now = s.now := rfl
@[simp] theorem withdrawQueued_run (c : MsgClass) (p : Outgoing → Bool) : (withdrawQueued c p s).run = s.run := rfl
@[simp] theorem withdrawQueued_address (c : MsgClass) (p : Outgoing → Bool) : (withdrawQueued c p s).address = s.address := rfl
@[simp] theorem withdrawQueued_settings (c : MsgClass) (p : Outgoing → Bool) : (withdrawQueued c p s).settings = s.settings := rfl
@[simp] theorem withdrawQueued_startDefaults (c : MsgClass) (p : Outgoing → Bool) : (withdrawQueued c p s).startDefaults = s.startDefaults := rfl
@[simp] theorem withdrawQueued_self (c : MsgClass) (p : Outgoing → Bool) : (withdrawQueued c p s).self = s.self := rfl
@[simp] theorem withdrawQueued_census (c : MsgClass) (p : Outgoing → Bool) : (withdrawQueued c p s).census = s.census := rfl
@[simp] theorem withdrawQueued_bus (c : MsgClass) (p : Outgoing → Bool) : (withdrawQueued c p s).bus = s.bus.setWaiting c ((s.bus.waiting c).filter fun m => !p m) := rfl
@[simp] theorem withdrawQueued_peers (c : MsgClass) (p : Outgoing → Bool) : (withdrawQueued c p s).peers = s.peers := rfl
@[simp] theorem withdrawQueued_bays (c : MsgClass) (p : Outgoing → Bool) : (withdrawQueued c p s).bays = s.bays := rfl
@[simp] theorem withdrawQueued_stationVolt (c : MsgClass) (p : Outgoing → Bool) : (withdrawQueued c p s).stationVolt = s.stationVolt := rfl
@[simp] theorem withdrawQueued_meterDue (c : MsgClass) (p : Outgoing → Bool) : (withdrawQueued c p s).meterDue = s.meterDue := rfl
@[simp] theorem withdrawQueued_supplies (c : MsgClass) (p : Outgoing → Bool) : (withdrawQueued c p s).supplies = s.supplies := rfl
@[simp] theorem withdrawQueued_budget (c : MsgClass) (p : Outgoing → Bool) : (withdrawQueued c p s).budget = s.budget := rfl
@[simp] theorem withdrawQueued_cooling (c : MsgClass) (p : Outgoing → Bool) : (withdrawQueued c p s).cooling = s.cooling := rfl
@[simp] theorem withdrawQueued_owner (c : MsgClass) (p : Outgoing → Bool) : (withdrawQueued c p s).owner = s.owner := rfl
@[simp] theorem withdrawQueued_tagCounter (c : MsgClass) (p : Outgoing → Bool) : (withdrawQueued c p s).tagCounter = s.tagCounter := rfl
@[simp] theorem withdrawQueued_attention (c : MsgClass) (p : Outgoing → Bool) : (withdrawQueued c p s).attention = s.attention := rfl

/-! ### countGood -/

@[simp] theorem countGood_pending : (countGood s).pending = s.pending := rfl
@[simp] theorem countGood_now : (countGood s).now = s.now := rfl
@[simp] theorem countGood_run : (countGood s).run = s.run := rfl
@[simp] theorem countGood_address : (countGood s).address = s.address := rfl
@[simp] theorem countGood_settings : (countGood s).settings = s.settings := rfl
@[simp] theorem countGood_startDefaults : (countGood s).startDefaults = s.startDefaults := rfl
@[simp] theorem countGood_self : (countGood s).self = s.self := rfl
@[simp] theorem countGood_census : (countGood s).census = s.census := rfl
@[simp] theorem countGood_bus : (countGood s).bus = { s.bus with good := satInc s.bus.good } := rfl
@[simp] theorem countGood_peers : (countGood s).peers = s.peers := rfl
@[simp] theorem countGood_bays : (countGood s).bays = s.bays := rfl
@[simp] theorem countGood_stationVolt : (countGood s).stationVolt = s.stationVolt := rfl
@[simp] theorem countGood_meterDue : (countGood s).meterDue = s.meterDue := rfl
@[simp] theorem countGood_supplies : (countGood s).supplies = s.supplies := rfl
@[simp] theorem countGood_budget : (countGood s).budget = s.budget := rfl
@[simp] theorem countGood_cooling : (countGood s).cooling = s.cooling := rfl
@[simp] theorem countGood_owner : (countGood s).owner = s.owner := rfl
@[simp] theorem countGood_tagCounter : (countGood s).tagCounter = s.tagCounter := rfl
@[simp] theorem countGood_attention : (countGood s).attention = s.attention := rfl

/-! ### countOrderRefused -/

@[simp] theorem countOrderRefused_pending : (countOrderRefused s).pending = s.pending := rfl
@[simp] theorem countOrderRefused_now : (countOrderRefused s).now = s.now := rfl
@[simp] theorem countOrderRefused_run : (countOrderRefused s).run = s.run := rfl
@[simp] theorem countOrderRefused_address : (countOrderRefused s).address = s.address := rfl
@[simp] theorem countOrderRefused_settings : (countOrderRefused s).settings = s.settings := rfl
@[simp] theorem countOrderRefused_startDefaults : (countOrderRefused s).startDefaults = s.startDefaults := rfl
@[simp] theorem countOrderRefused_self : (countOrderRefused s).self = s.self := rfl
@[simp] theorem countOrderRefused_census : (countOrderRefused s).census = s.census := rfl
@[simp] theorem countOrderRefused_bus : (countOrderRefused s).bus = { s.bus with ordersRefused := satInc s.bus.ordersRefused } := rfl
@[simp] theorem countOrderRefused_peers : (countOrderRefused s).peers = s.peers := rfl
@[simp] theorem countOrderRefused_bays : (countOrderRefused s).bays = s.bays := rfl
@[simp] theorem countOrderRefused_stationVolt : (countOrderRefused s).stationVolt = s.stationVolt := rfl
@[simp] theorem countOrderRefused_meterDue : (countOrderRefused s).meterDue = s.meterDue := rfl
@[simp] theorem countOrderRefused_supplies : (countOrderRefused s).supplies = s.supplies := rfl
@[simp] theorem countOrderRefused_budget : (countOrderRefused s).budget = s.budget := rfl
@[simp] theorem countOrderRefused_cooling : (countOrderRefused s).cooling = s.cooling := rfl
@[simp] theorem countOrderRefused_owner : (countOrderRefused s).owner = s.owner := rfl
@[simp] theorem countOrderRefused_tagCounter : (countOrderRefused s).tagCounter = s.tagCounter := rfl
@[simp] theorem countOrderRefused_attention : (countOrderRefused s).attention = s.attention := rfl

/-! ### setMark -/

@[simp] theorem setMark_pending (m : Nat) : (setMark m s).pending = s.pending := rfl
@[simp] theorem setMark_now (m : Nat) : (setMark m s).now = s.now := rfl
@[simp] theorem setMark_run (m : Nat) : (setMark m s).run = s.run := rfl
@[simp] theorem setMark_address (m : Nat) : (setMark m s).address = s.address := rfl
@[simp] theorem setMark_settings (m : Nat) : (setMark m s).settings = s.settings := rfl
@[simp] theorem setMark_startDefaults (m : Nat) : (setMark m s).startDefaults = s.startDefaults := rfl
@[simp] theorem setMark_self (m : Nat) : (setMark m s).self = s.self := rfl
@[simp] theorem setMark_census (m : Nat) : (setMark m s).census = s.census := rfl
@[simp] theorem setMark_bus (m : Nat) : (setMark m s).bus = s.bus := rfl
@[simp] theorem setMark_peers (m : Nat) : (setMark m s).peers = s.peers := rfl
@[simp] theorem setMark_bays (m : Nat) : (setMark m s).bays = s.bays := rfl
@[simp] theorem setMark_stationVolt (m : Nat) : (setMark m s).stationVolt = s.stationVolt := rfl
@[simp] theorem setMark_meterDue (m : Nat) : (setMark m s).meterDue = s.meterDue := rfl
@[simp] theorem setMark_supplies (m : Nat) : (setMark m s).supplies = s.supplies := rfl
@[simp] theorem setMark_budget (m : Nat) : (setMark m s).budget = { s.budget with shedMark := some m } := rfl
@[simp] theorem setMark_cooling (m : Nat) : (setMark m s).cooling = s.cooling := rfl
@[simp] theorem setMark_owner (m : Nat) : (setMark m s).owner = s.owner := rfl
@[simp] theorem setMark_tagCounter (m : Nat) : (setMark m s).tagCounter = s.tagCounter := rfl
@[simp] theorem setMark_attention (m : Nat) : (setMark m s).attention = s.attention := rfl

/-! ### clearDeficit -/

@[simp] theorem clearDeficit_pending : (clearDeficit s).pending = s.pending := rfl
@[simp] theorem clearDeficit_now : (clearDeficit s).now = s.now := rfl
@[simp] theorem clearDeficit_run : (clearDeficit s).run = s.run := rfl
@[simp] theorem clearDeficit_address : (clearDeficit s).address = s.address := rfl
@[simp] theorem clearDeficit_settings : (clearDeficit s).settings = s.settings := rfl
@[simp] theorem clearDeficit_startDefaults : (clearDeficit s).startDefaults = s.startDefaults := rfl
@[simp] theorem clearDeficit_self : (clearDeficit s).self = s.self := rfl
@[simp] theorem clearDeficit_census : (clearDeficit s).census = s.census := rfl
@[simp] theorem clearDeficit_bus : (clearDeficit s).bus = s.bus := rfl
@[simp] theorem clearDeficit_peers : (clearDeficit s).peers = s.peers := rfl
@[simp] theorem clearDeficit_bays : (clearDeficit s).bays = s.bays := rfl
@[simp] theorem clearDeficit_stationVolt : (clearDeficit s).stationVolt = s.stationVolt := rfl
@[simp] theorem clearDeficit_meterDue : (clearDeficit s).meterDue = s.meterDue := rfl
@[simp] theorem clearDeficit_supplies : (clearDeficit s).supplies = s.supplies := rfl
@[simp] theorem clearDeficit_budget : (clearDeficit s).budget = { s.budget with deficit := false, shedMark := none } := rfl
@[simp] theorem clearDeficit_cooling : (clearDeficit s).cooling = s.cooling := rfl
@[simp] theorem clearDeficit_owner : (clearDeficit s).owner = s.owner := rfl
@[simp] theorem clearDeficit_tagCounter : (clearDeficit s).tagCounter = s.tagCounter := rfl
@[simp] theorem clearDeficit_attention : (clearDeficit s).attention = s.attention := rfl

/-! ### settleFlags -/

@[simp] theorem settleFlags_pending : (settleFlags s).pending = s.pending := rfl
@[simp] theorem settleFlags_now : (settleFlags s).now = s.now := rfl
@[simp] theorem settleFlags_run : (settleFlags s).run = s.run := rfl
@[simp] theorem settleFlags_address : (settleFlags s).address = s.address := rfl
@[simp] theorem settleFlags_settings : (settleFlags s).settings = s.settings := rfl
@[simp] theorem settleFlags_startDefaults : (settleFlags s).startDefaults = s.startDefaults := rfl
@[simp] theorem settleFlags_self : (settleFlags s).self = s.self := rfl
@[simp] theorem settleFlags_census : (settleFlags s).census = s.census := rfl
@[simp] theorem settleFlags_bus : (settleFlags s).bus = s.bus := rfl
@[simp] theorem settleFlags_peers : (settleFlags s).peers = s.peers := rfl
@[simp] theorem settleFlags_bays : (settleFlags s).bays = s.bays := rfl
@[simp] theorem settleFlags_stationVolt : (settleFlags s).stationVolt = s.stationVolt := rfl
@[simp] theorem settleFlags_meterDue : (settleFlags s).meterDue = s.meterDue := rfl
@[simp] theorem settleFlags_supplies : (settleFlags s).supplies = s.supplies := rfl
@[simp] theorem settleFlags_budget : (settleFlags s).budget = s.budget := rfl
@[simp] theorem settleFlags_cooling : (settleFlags s).cooling = s.cooling := rfl
@[simp] theorem settleFlags_owner : (settleFlags s).owner = s.owner := rfl
@[simp] theorem settleFlags_tagCounter : (settleFlags s).tagCounter = s.tagCounter := rfl

end Sys2Proof.Machine
end

