-- ==== Sys2Proof/Laws/Kept.lean ====
section
/-! SUPPORT. What the delivery of reports leaves alone: the recomputation, shedding, restoration, the settling of figures
and the trunk unit's part of a slot's move. `Kept s t` says once everything that none of them touches; every shared
operation below keeps it. -/

namespace Sys2Proof.Machine

theorem BayKept.refl (a : Bay) : BayKept a a :=
  ⟨rfl, rfl, rfl, rfl, rfl, rfl, rfl, rfl, rfl, rfl, rfl, rfl, rfl, rfl, rfl, rfl, rfl, rfl, Iff.rfl,
    fun _ => ⟨fun _ => rfl, _, _, rfl⟩⟩

theorem Bay.powered_of_seq {a b : Bay} {c : Option Nat} {p : Option OperatorSetting}
    (h : b.seq = { a.seq with opCeiling := c, pendingOp := p }) : b.powered = a.powered := by
  simp [Bay.powered, h]

theorem BayKept.trans {a b c : Bay} (h : BayKept a b) (k : BayKept b c) : BayKept a c where
  fitted := k.fitted.trans h.fitted
  cfg := k.cfg.trans h.cfg
  meter := k.meter.trans h.meter
  record := k.record.trans h.record
  inventory := k.inventory.trans h.inventory
  health := k.health.trans h.health
  failures := k.failures.trans h.failures
  margin := k.margin.trans h.margin
  bladeState := k.bladeState.trans h.bladeState
  lastCap := k.lastCap.trans h.lastCap
  capUnacked := k.capUnacked.trans h.capUnacked
  presence := k.presence.trans h.presence
  standby := k.standby.trans h.standby
  ejectorRaw := k.ejectorRaw.trans h.ejectorRaw
  ejectorOpen := k.ejectorOpen.trans h.ejectorOpen
  inLimit := k.inLimit.trans h.inLimit
  retryCount := k.retryCount.trans h.retryCount
  priority := k.priority.trans h.priority
  seated := k.seated.trans h.seated
  unpowered := fun u => by
    obtain ⟨same, x, p, e⟩ := h.unpowered u
    obtain ⟨same', y, q, e'⟩ := k.unpowered ((Bay.powered_of_seq e).trans u)
    exact ⟨fun n => (same' (by rw [same n]; exact n)).trans (same n), y, q, by rw [e', e]⟩

theorem BusKept.refl (a : BusPort) : BusKept a a :=
  ⟨rfl, rfl, rfl, rfl, rfl, rfl, rfl, rfl, rfl, rfl, rfl, rfl, rfl⟩

theorem BusKept.trans {a b c : BusPort} (h : BusKept a b) (k : BusKept b c) : BusKept a c :=
  ⟨k.1.trans h.1, k.2.trans h.2, k.3.trans h.3, k.4.trans h.4, k.5.trans h.5, k.6.trans h.6, k.7.trans h.7,
    k.8.trans h.8, k.9.trans h.9, k.10.trans h.10, k.11.trans h.11, k.12.trans h.12, k.13.trans h.13⟩

theorem CoolingKept.refl (a : Cooling) : CoolingKept a a := ⟨rfl, rfl, rfl, fun _ => ⟨_, rfl⟩⟩

theorem CoolingKept.trans {a b c : Cooling} (h : CoolingKept a b) (k : CoolingKept b c) : CoolingKept a c :=
  ⟨k.1.trans h.1, k.2.trans h.2, k.3.trans h.3, fun i => by
    obtain ⟨x, e⟩ := h.fans i
    obtain ⟨y, e'⟩ := k.fans i
    exact ⟨y, by rw [e', e]⟩⟩

theorem Attention.grows_refl (a : Attention) : a.grows a := by
  simp [Attention.grows, SlotFlags.grows, StationFlags.grows]

theorem Attention.grows_trans {a b c : Attention} (h : a.grows b) (k : b.grows c) : a.grows c :=
  ⟨fun i => ⟨fun e => (k.1 i).1 ((h.1 i).1 e), fun e => (k.1 i).2.1 ((h.1 i).2.1 e),
      fun e => (k.1 i).2.2 ((h.1 i).2.2 e)⟩,
    fun e => k.2.1 (h.2.1 e), fun e => k.2.2.1 (h.2.2.1 e), fun e => k.2.2.2.1 (h.2.2.2.1 e),
    fun e => k.2.2.2.2.1 (h.2.2.2.2.1 e), fun e => k.2.2.2.2.2.1 (h.2.2.2.2.2.1 e),
    fun e => k.2.2.2.2.2.2 (h.2.2.2.2.2.2 e)⟩

theorem Kept.refl (s : State) : Kept s s :=
  ⟨rfl, rfl, rfl, rfl, rfl, rfl, rfl, rfl, rfl, rfl, rfl, rfl, rfl, rfl, fun _ => Attention.grows_refl _, rfl, rfl,
    fun _ => rfl, BusKept.refl _, CoolingKept.refl _, fun _ => BayKept.refl _⟩

theorem Kept.trans {s t u : State} (h : Kept s t) (k : Kept t u) : Kept s u where
  pending := k.pending.trans h.pending
  now := k.now.trans h.now
  run := k.run.trans h.run
  address := k.address.trans h.address
  settings := k.settings.trans h.settings
  startDefaults := k.startDefaults.trans h.startDefaults
  self := k.self.trans h.self
  census := k.census.trans h.census
  peers := k.peers.trans h.peers
  stationVolt := k.stationVolt.trans h.stationVolt
  meterDue := k.meterDue.trans h.meterDue
  supplies := k.supplies.trans h.supplies
  owner := k.owner.trans h.owner
  restartOwed := k.restartOwed.trans h.restartOwed
  flags := fun l => Attention.grows_trans (h.flags l) (k.flags (by rw [h.settings]; exact l))
  nextNumber := k.nextNumber.trans h.nextNumber
  folded := k.folded.trans h.folded
  own := fun o => (k.own (by rw [h.own o]; exact o)).trans (h.own o)
  bus := h.bus.trans k.bus
  cooling := h.cooling.trans k.cooling
  bays := fun i => (h.bays i).trans (k.bays i)

/-! ### The bus port -/

theorem setControl_kept (b : BusPort) (l : List Outgoing) : BusKept b (b.setFifo .control l) := { BusKept.refl b with }

theorem setWaiting_kept (b : BusPort) (l : List Outgoing) : BusKept b (b.setWaiting .control l) := setControl_kept ..

/-- An offer of a CONTROL message touches the CONTROL FIFO, the overflow count and the owed offers only. -/
theorem busOffer_kept (b : BusPort) {m : Outgoing} (c : m.cls = .control) (now tst : Nat) :
    BusKept b (b.offer m now tst) := by
  have e : merges b m = false := by cases m <;> first | rfl | cases c
  simp only [BusPort.offer, e, c]
  split
  · next h => cases h
  · split
    · exact { setControl_kept b (b.fifo .control ++ [m]) with }
    · exact { BusKept.refl b with }

/-- A station that differs in its bus port, as `BusKept` allows, keeps what `Kept` lists. -/
theorem kept_of_bus {s : State} {b : BusPort} (h : BusKept s.bus b) : Kept s { s with bus := b } :=
  { Kept.refl s with bus := h }

theorem offer_kept {m : Outgoing} (c : m.cls = .control) (s : State) : Kept s (offer m s) :=
  kept_of_bus (busOffer_kept _ c ..)

theorem withdrawQueued_kept (p : Outgoing → Bool) (s : State) : Kept s (withdrawQueued .control p s) :=
  kept_of_bus (setWaiting_kept ..)

theorem offerAll_kept {ms : List Outgoing} (c : ∀ m ∈ ms, m.cls = .control) (s : State) : Kept s (offerAll ms s) := by
  induction ms generalizing s with
  | nil => exact Kept.refl s
  | cons m ms ih =>
    exact (offer_kept (c m (.head _)) s).trans (ih (fun x h => c x (.tail _ h)) _)

/-! ### Flags, budget and cooling -/

theorem raiseSlot_kept (i : SlotIx) {f : SlotFlags → SlotFlags} (h : ∀ x : SlotFlags, x.grows (f x)) (s : State) :
    Kept s (raiseSlot i f s) :=
  { Kept.refl s with
    flags := fun _ => ⟨fun j => by
      simp only [raiseSlot_attention, updAt_get]
      split
      · next e => subst e; exact h _
      · exact ((Attention.grows_refl s.attention).1 j), (Attention.grows_refl s.attention).2⟩ }

theorem raiseStation_kept {f : StationFlags → StationFlags} (h : ∀ x : StationFlags, x.grows (f x)) (s : State) :
    Kept s (raiseStation f s) :=
  { Kept.refl s with flags := fun _ => ⟨(Attention.grows_refl s.attention).1, h _⟩ }

/-- A cause raised on a station that keeps what `Kept` lists. -/
theorem raiseStation_of {r s : State} {f : StationFlags → StationFlags} (g : ∀ x : StationFlags, x.grows (f x))
    (h : Kept r s) : Kept r (raiseStation f s) := h.trans (raiseStation_kept g s)

theorem settleFlags_kept (s : State) : Kept s (settleFlags s) :=
  { Kept.refl s with
    restartOwed := by simp only [settleFlags]; split <;> rfl
    flags := fun l => by
      simp only [settleFlags, l]
      exact Attention.grows_refl s.attention }

/-- A station that differs in its budget record, the two numbers of the own claims apart, keeps what `Kept` lists. -/
theorem kept_of_budget {s : State} {b : Budget} (n : b.nextNumber = s.budget.nextNumber)
    (f : b.folded = s.budget.folded)
    (o : s.budget.own.state = .admitted ∨ s.budget.own.state = .onBus → b.own = s.budget.own) :
    Kept s { s with budget := b } :=
  { Kept.refl s with nextNumber := n, folded := f, own := o }

theorem refigure_kept (s : State) : Kept s (refigure s) := by
  simp only [refigure]
  split
  · exact raiseStation_of (fun x => by simp [StationFlags.grows]) (kept_of_budget rfl rfl fun _ => rfl)
  · exact kept_of_budget rfl rfl fun _ => rfl

theorem markBar_kept (s : State) : Kept s (markBar s) := by
  simp only [markBar]
  split
  · exact Kept.refl s
  · exact kept_of_budget rfl rfl fun _ => rfl

theorem offerClaim_kept (e : Entry) {s : State} (n : s.budget.own.state = .none) : Kept s (offerClaim e s) := by
  simp only [offerClaim]
  split
  · exact (offer_kept rfl s).trans (kept_of_budget rfl rfl fun o => by
      simp only [offer_budget, n] at o; rcases o with o | o <;> cases o)
  · exact (offer_kept rfl s).trans (kept_of_budget rfl rfl fun _ => rfl)

theorem sendingCheck_kept (s : State) : Kept s (sendingCheck s) := by
  simp only [sendingCheck]
  split
  · split
    · next c =>
      simp only [canClaim, Bool.and_eq_true, beq_iff_eq] at c
      exact offerClaim_kept _ c.1.1.1.2
    · exact Kept.refl s
  · exact Kept.refl s

theorem recheck_kept {r s t : State} (h : Kept r t) : Kept r (recheck s t) := by
  simp only [recheck]
  split
  · exact h.trans (sendingCheck_kept t)
  · exact h

theorem handEntry_kept (i : SlotIx) (p : Purpose) (watts : Nat) (s : State) : Kept s (handEntry i p watts s) := by
  simp only [handEntry]
  split
  · exact Kept.refl s
  · exact recheck_kept (kept_of_budget rfl rfl fun _ => rfl)

theorem withdrawClaim_kept (s : State) : Kept s (withdrawClaim s) := by
  simp only [withdrawClaim]
  split
  · next q =>
    simp only [beq_iff_eq] at q
    exact (withdrawQueued_kept ..).trans (kept_of_budget rfl rfl fun o => by
      simp only [withdrawQueued_budget, q] at o; rcases o with o | o <;> cases o)
  · exact Kept.refl s

theorem takeOut_kept (e : Entry) (s : State) : Kept s (takeOut e s) := kept_of_budget rfl rfl fun _ => rfl

theorem withdrawEntry_kept (i : SlotIx) (s : State) : Kept s (withdrawEntry i s) := by
  simp only [withdrawEntry]
  split
  · exact Kept.refl s
  · refine recheck_kept ?_
    split
    · exact (withdrawClaim_kept s).trans (takeOut_kept ..)
    · exact takeOut_kept ..

theorem setDeficit_kept (s : State) : Kept s (setDeficit s) :=
  (kept_of_budget (b := { s.budget with deficit := true }) rfl rfl fun _ => rfl).trans
    (raiseStation_kept (fun x => by simp [StationFlags.grows]) _)

theorem clearDeficit_kept (s : State) : Kept s (clearDeficit s) := kept_of_budget rfl rfl fun _ => rfl

theorem setMark_kept (m : Nat) (s : State) : Kept s (setMark m s) := kept_of_budget rfl rfl fun _ => rfl

theorem withTarget_eq (s : State) (c : ChanIx) : ∃ x, withTarget s c = { s.cooling.fans[c] with target := x } := by
  simp only [withTarget]
  split
  · exact ⟨_, rfl⟩
  · exact ⟨_, rfl⟩

theorem deriveTargets_kept (s : State) : Kept s (deriveTargets s) :=
  { Kept.refl s with
    cooling := ⟨rfl, rfl, rfl, fun c => by
      have h0 := withTarget_eq s 0
      have h1 := withTarget_eq s 1
      match c with
      | 0 => exact h0
      | 1 => exact h1⟩ }

theorem deriveZone_kept (z : ZoneIx) (s : State) : Kept s (deriveZone z s) :=
  ({ Kept.refl s with cooling := ⟨rfl, rfl, rfl, fun _ => ⟨_, rfl⟩⟩ } : Kept s { s with cooling := { s.cooling with
    raw := s.cooling.raw.set z (rawDemand s z)
    reported := s.cooling.reported.set z (reportDemand s.cooling.reported[z] (rawDemand s z)) } }).trans
    (deriveTargets_kept _)

theorem slotReport_kept (i : SlotIx) (s : State) : Kept s (slotReport i s) := deriveZone_kept ..

theorem coolingReport_kept (i : SlotIx) (a b : Bay) (s : State) : Kept s (coolingReport i a b s) := by
  simp only [coolingReport]
  split
  · exact slotReport_kept ..
  · exact Kept.refl s

/-! ### Bays and ports -/

theorem setBay_kept {i : SlotIx} {f : Bay → Bay} {s : State} (h : BayKept s.bays[i] (f s.bays[i])) :
    Kept s (setBay i f s) :=
  { Kept.refl s with
    bays := fun j => by
      simp only [setBay_bays, updAt_get]
      split
      · next e => subst e; exact h
      · exact BayKept.refl _ }

theorem setPort_kept (i : SlotIx) (p : PortIx) (f : PortRec → PortRec) (s : State) : Kept s (setPort i p f s) :=
  setBay_kept { BayKept.refl s.bays[i] with }

theorem clearTag_kept (t : Serial) (s : State) : Kept s (clearTag t s) :=
  { Kept.refl s with
    bays := fun j => by
      simp only [clearTag, Fin.getElem_fin, Vector.getElem_ofFn]
      exact { BayKept.refl s.bays[j] with } }

theorem tagCounter_kept (t : Serial) (s : State) : Kept s { s with tagCounter := t } := { Kept.refl s with }

theorem newBid_kept (i : SlotIx) (p : PortIx) (n : Need) (m : ModuleIx) (a : Addr) (s : State) :
    Kept s (newBid i p n m a s) := by
  simp only [newBid]
  refine Kept.trans ?_ (offer_kept rfl _)
  refine Kept.trans ?_ (setPort_kept ..)
  exact (clearTag_kept _ s).trans (tagCounter_kept ..)

theorem unplace_kept (i : SlotIx) (p : PortIx) (s : State) : Kept s (unplace i p s) := setPort_kept ..

theorem placePort_kept (i : SlotIx) (p : PortIx) (s : State) : Kept s (placePort i p s) := by
  simp only [placePort]
  split
  · split
    · exact newBid_kept ..
    · exact unplace_kept ..
  · exact Kept.refl s

/-- The needs taken are those of the record held; nothing else of the slot, and no other slot, changes. -/
theorem takeNeeds_bays (i j : SlotIx) (s : State) : (takeNeeds i s).bays[j] =
    if i = j then { s.bays[j] with needs := Vector.ofFn s.bays[j].needOf } else s.bays[j] := by
  simp only [takeNeeds, setBay_bays, updAt_get]
  split
  · next e => subst e; rfl
  · rfl

theorem takeNeeds_kept (i : SlotIx) (s : State) : Kept s (takeNeeds i s) := setBay_kept { BayKept.refl s.bays[i] with }

theorem startPort_kept (i : SlotIx) (s : State) (p : PortIx) : Kept s (startPort i s p) :=
  (setPort_kept ..).trans (placePort_kept ..)

/-- A fold of operations that each keep `Kept` keeps it. -/
theorem foldl_kept {α : Type} {f : State → α → State} (h : ∀ s x, Kept s (f s x)) (l : List α) (s : State) :
    Kept s (l.foldl f s) := by
  induction l generalizing s with
  | nil => exact Kept.refl s
  | cons x l ih => exact (h s x).trans (ih _)

theorem startPorts_kept (i : SlotIx) (s : State) : Kept s (startPorts i s) := foldl_kept (startPort_kept i) _ s

theorem endPort_kept (i : SlotIx) (s : State) (p : PortIx) : Kept s (endPort i s p) := by
  simp only [endPort]
  refine Kept.trans ?_ (setPort_kept ..)
  refine (withdrawQueued_kept (isBidOf i p) s).trans ?_
  split
  · refine offerAll_kept (fun m h => ?_) _
    simp only [returnOf] at h
    split at h
    · simp only [Option.toList_some, List.mem_singleton] at h
      exact h ▸ rfl
    · cases h
  · exact Kept.refl _

theorem endPorts_kept (i : SlotIx) (s : State) : Kept s (endPorts i s) := foldl_kept (endPort_kept i) _ s

/-! ### A bay changed with its reports -/

theorem capFollows_kept (now : Nat) (a b : Bay) : BayKept b (capFollows now a b) := by
  simp only [capFollows]
  split
  · exact { BayKept.refl b with record := rfl, inventory := rfl }
  · exact BayKept.refl b

/-- Bay `i` changed on a station that keeps what `Kept` lists, where the outcome is one the bay may have come to. -/
theorem modBay_of {r : State} {o : StepOrder} {i : SlotIx} {f : Bay → Bay} {w : Work} (k : Kept r w.st)
    (h : BayKept r.bays[i] (f w.st.bays[i])) : Kept r (modBay o i f w).st := by
  refine Kept.trans (t := setBay i (fun _ => capFollows w.st.now w.st.bays[i] (f w.st.bays[i])) w.st) ?_
    ((coolingReport_kept i _ _ _).trans
      (raiseSlot_kept i (fun x => ⟨fun e => by simp [e], fun e => by simp [e], fun e => by simp [e]⟩) _))
  exact { k with
    bays := fun j => by
      simp only [setBay_bays, updAt_get]
      split
      · next e => subst e; exact h.trans (capFollows_kept ..)
      · exact k.bays j }

theorem modBay_kept {o : StepOrder} {i : SlotIx} {f : Bay → Bay} {w : Work}
    (h : BayKept w.st.bays[i] (f w.st.bays[i])) : Kept w.st (modBay o i f w).st := modBay_of (Kept.refl _) h

/-- A powered bay's move needs its lasting parts kept only. -/
theorem BayKept.of_powered {a b : Bay} (u : a.powered = true) (n : b.seq.state ≠ .empty) (fitted : b.fitted = a.fitted)
    (cfg : b.cfg = a.cfg) (meter : b.meter = a.meter) (record : b.link.record = a.link.record)
    (inventory : b.link.inventory = a.link.inventory) (health : b.link.health = a.link.health)
    (failures : b.link.failures = a.link.failures) (margin : b.link.margin = a.link.margin)
    (bladeState : b.link.bladeState = a.link.bladeState) (lastCap : b.link.lastCap = a.link.lastCap)
    (capUnacked : b.link.capUnacked = a.link.capUnacked) (presence : b.seq.presence = a.seq.presence)
    (standby : b.seq.standby = a.seq.standby) (ejectorRaw : b.seq.ejectorRaw = a.seq.ejectorRaw)
    (ejectorOpen : b.seq.ejectorOpen = a.seq.ejectorOpen) (inLimit : b.seq.inLimit = a.seq.inLimit)
    (retryCount : b.seq.retryCount = a.seq.retryCount) (priority : b.seq.priority = a.seq.priority) : BayKept a b where
  fitted := fitted
  cfg := cfg
  meter := meter
  record := record
  inventory := inventory
  health := health
  failures := failures
  margin := margin
  bladeState := bladeState
  lastCap := lastCap
  capUnacked := capUnacked
  presence := presence
  standby := standby
  ejectorRaw := ejectorRaw
  ejectorOpen := ejectorOpen
  inLimit := inLimit
  retryCount := retryCount
  priority := priority
  seated := ⟨fun e => absurd e n, fun e => by simp [Bay.powered, poweredIn, e] at u⟩
  unpowered := fun v => absurd (u.symm.trans v) Bool.noConfusion

/-- A running bay whose figures and ceilings alone change. -/
theorem BayKept.of_running {a b : Bay} (r : (a.seq.state == .running) = true)
    (e : ∃ x y z u v, b.seq = { a.seq with allowance := x, floor := y, shedCeiling := z, savedCeiling := u, overdraw := v })
    (l : ∃ h, b.link = { a.link with held := h }) (fitted : b.fitted = a.fitted) (cfg : b.cfg = a.cfg)
    (meter : b.meter = a.meter) : BayKept a b := by
  obtain ⟨x, y, z, u, v, e⟩ := e
  obtain ⟨h, l⟩ := l
  simp only [beq_iff_eq] at r
  refine .of_powered (by simp [Bay.powered, poweredIn, r]) ?_ fitted cfg meter ?_ ?_ ?_ ?_ ?_ ?_ ?_ ?_ ?_ ?_ ?_ ?_ ?_ ?_ ?_
  all_goals simp [e, l, r]

/-- A change of the station, then an operation on the work. -/
theorem map_then {f : State → State} {g : Work → Work} {w : Work} (h : Kept w.st (f w.st))
    (k : ∀ v : Work, Kept v.st (g v).st) : Kept w.st (g (w.map f)).st := h.trans (k (w.map f))

/-! ### Shedding and restoration -/

theorem capPass_kept {r : State} (l : List SlotIx) (w : Work) (n : Nat) (k : Kept r w.st) :
    Kept r (capPass l (w, n)).1.st := by
  induction l generalizing w n with
  | nil => exact k
  | cons i l ih =>
    simp only [capPass]
    split
    · next c =>
      refine ih _ _ (k.trans (modBay_kept ?_))
      simp only [Bay.cappable, Bool.and_eq_true] at c
      exact .of_running c.2.1.1.1.2 ⟨_, _, _, _, _, rfl⟩ ⟨_, rfl⟩ rfl rfl rfl
    · exact ih _ _ k

theorem cut_shedOff_kept {b : Bay} (h : b.powered = true) (now : Nat) (c : ShutdownCause) :
    BayKept b (b.toShedOff now c) := by
  have e : (b.seq.cut now).presence = b.seq.presence ∧ (b.seq.cut now).standby = b.seq.standby ∧
      (b.seq.cut now).ejectorRaw = b.seq.ejectorRaw ∧ (b.seq.cut now).ejectorOpen = b.seq.ejectorOpen ∧
      (b.seq.cut now).inLimit = b.seq.inLimit ∧ (b.seq.cut now).retryCount = b.seq.retryCount ∧
      (b.seq.cut now).priority = b.seq.priority := by
    simp only [Seq.cut]; split <;> exact ⟨rfl, rfl, rfl, rfl, rfl, rfl, rfl⟩
  exact .of_powered h (by simp [Bay.toShedOff, Bay.setCause, Bay.enter]) rfl rfl rfl rfl rfl rfl rfl rfl rfl rfl rfl e.1 e.2.1 e.2.2.1 e.2.2.2.1 e.2.2.2.2.1 e.2.2.2.2.2.1 e.2.2.2.2.2.2

/-- A move to OFF leaves the lasting parts of the bay. -/
theorem toOff_kept {a b : Bay} (u : a.powered = true) (h : BayKept a b) (now : Nat) (hold : Bool) :
    BayKept a (b.toOff now hold) :=
  .of_powered u (by simp [Bay.toOff, Bay.enter]) h.1 h.2 h.3 h.4 h.5 h.6 h.7 h.8 h.9 h.10 h.11 h.12 h.13 h.14 h.15 h.16
    h.17 h.18

theorem powerOff_kept (i : SlotIx) (c : ShutdownCause) (w : Work) : Kept w.st (powerOff i c w).st := by
  simp only [powerOff]
  split
  · next p =>
    have k := modBay_kept (o := .fault) (i := i) (f := fun b => b.toShedOff w.st.now c) (w := w)
      (cut_shedOff_kept p w.st.now c)
    split
    · exact modBay_of k (toOff_kept p (k.bays i) ..)
    · exact k
  · exact Kept.refl _

theorem powerOffPass_kept {r : State} (l : List SlotIx) (w : Work) (n : Nat) (k : Kept r w.st) :
    Kept r (powerOffPass l (w, n)).1.st := by
  induction l generalizing w n with
  | nil => exact k
  | cons i l ih =>
    simp only [powerOffPass]
    split
    · exact ih _ _ (k.trans (powerOff_kept ..))
    · exact ih _ _ k

theorem shed_kept (n : Nat) (w : Work) : Kept w.st (shed n w).st := by
  simp only [shed]
  exact powerOffPass_kept _ _ _ (capPass_kept _ _ _ (Kept.refl _))

theorem leaveQueue_kept (i : SlotIx) (w : Work) : Kept w.st (leaveQueue i w).st := by
  simp only [leaveQueue]
  split
  · exact withdrawEntry_kept i w.st
  · exact Kept.refl _

theorem withdrawRestore_kept (w : Work) : Kept w.st (withdrawRestore w).st := by
  simp only [withdrawRestore]
  split
  · exact (leaveQueue_kept _ w).trans (kept_of_budget rfl rfl fun _ => rfl)
  · exact Kept.refl _

theorem shedExcess_kept (w : Work) : Kept w.st (shedExcess w).st :=
  map_then (setMark_kept _ w.st) (shed_kept _)

theorem answerDeficit_kept (w : Work) : Kept w.st (answerDeficit w).st :=
  (withdrawRestore_kept w).trans (shedExcess_kept _)

theorem enterDeficit_kept (w : Work) : Kept w.st (enterDeficit w).st :=
  map_then ((setDeficit_kept w.st).trans (withdrawClaim_kept _)) answerDeficit_kept

theorem reshed_kept (w : Work) : Kept w.st (reshed w).st := by
  simp only [reshed]
  split
  · exact setMark_kept ..
  · exact map_then (setMark_kept _ w.st) (shed_kept _)

theorem deficitStep_kept (w : Work) : Kept w.st (deficitStep w).st := by
  simp only [deficitStep]
  split
  · split
    · split
      · exact Kept.refl _
      · exact setDeficit_kept _
    · split
      · exact reshed_kept w
      · exact enterDeficit_kept w
  · split
    · exact clearDeficit_kept _
    · exact Kept.refl _

theorem settleHeld_kept (i : SlotIx) (w : Work) : Kept w.st (settleHeld i w).st := by
  simp only [settleHeld]
  split
  · exact Kept.refl _
  · split
    · next c =>
      simp only [Bool.and_eq_true] at c
      split
      · exact modBay_kept (.of_running c.1 ⟨_, _, _, _, _, rfl⟩ ⟨_, rfl⟩ rfl rfl rfl)
      · exact handEntry_kept ..
    · exact Kept.refl _

theorem settled_kept (b : Bay) : BayKept b b.settled := by
  simp only [Bay.settled]
  split
  · next o h =>
    exact { BayKept.refl b with
      unpowered := fun _ => ⟨fun n => absurd (h.symm.trans n) (Option.some_ne_none o), _, _, rfl⟩ }
  · exact BayKept.refl b

theorem settlePending_kept (i : SlotIx) (w : Work) : Kept w.st (settlePending i w).st := by
  simp only [settlePending]
  split
  · exact Kept.refl _
  · split
    · exact Kept.refl _
    · split
      · split
        · exact handEntry_kept ..
        · exact Kept.refl _
      · exact modBay_kept (settled_kept _)

theorem settleSlot_kept (i : SlotIx) (w : Work) : Kept w.st (settleSlot i w).st :=
  (settleHeld_kept i w).trans (settlePending_kept ..)

theorem restoreEntry_kept (i : SlotIx) (p : Purpose) (n : Nat) (s : State) :
    Kept s (handEntry i p n { s with budget := { s.budget with restoreEntry := some i } }) :=
  (kept_of_budget (b := { s.budget with restoreEntry := some i }) rfl rfl fun _ => rfl).trans (handEntry_kept ..)

theorem restoreVisit_kept (l : List SlotIx) (w : Work) : Kept w.st (restoreVisit l w).st := by
  induction l generalizing w with
  | nil => exact Kept.refl _
  | cons i l ih =>
    simp only [restoreVisit]
    split
    · exact ih w
    · next c =>
      split
      · exact restoreEntry_kept ..
      · next d =>
        split
        · exact restoreEntry_kept ..
        · refine Kept.trans (modBay_kept ?_) ((settleSlot_kept i _).trans (ih _))
          have r : (w.st.bays[i].seq.state == .running) = true := by
            simp only [Bay.isShed] at c
            revert c d
            cases (w.st.bays[i].seq.state == .running) <;> cases (w.st.bays[i].seq.state == .shedOff) <;> simp
          exact .of_running r ⟨_, _, _, _, _, rfl⟩ ⟨_, rfl⟩ rfl rfl rfl

theorem restorationStep_kept (w : Work) : Kept w.st (restorationStep w).st := by
  simp only [restorationStep]
  split
  · exact restoreVisit_kept ..
  · exact Kept.refl _

/-- The recomputation touches nothing that `Kept` lists. -/
theorem recompute_kept (w : Work) : Kept w.st (recompute w).st :=
  ((map_then ((refigure_kept w.st).trans (markBar_kept _)) deficitStep_kept).trans (restorationStep_kept _)).trans
    (sendingCheck_kept _)

/-! ### The reports -/

theorem takeCharge_kept (i : SlotIx) (n : Nat) (w : Work) : Kept w.st (takeCharge i n w).st :=
  map_then (kept_of_budget (b := { w.st.budget with reported := w.st.budget.reported.set i n }) rfl rfl fun _ => rfl) recompute_kept

theorem takeEntered_kept (i : SlotIx) (s : State) : Kept s (takeEntered i s) := by
  simp only [takeEntered]
  split
  · split
    · exact (takeNeeds_kept i s).trans (startPorts_kept ..)
    · exact takeNeeds_kept i s
  · exact Kept.refl s

theorem checkEntry_kept (i : SlotIx) (w : Work) : Kept w.st (checkEntry i w).st := by
  simp only [checkEntry]
  split
  · split
    · exact Kept.refl _
    · exact leaveQueue_kept i w
  · exact Kept.refl _

theorem deliver_kept (r : Report) (w : Work) : Kept w.st (deliver r w).st := by
  cases r with
  | charge i n => exact takeCharge_kept ..
  | entered i => exact takeEntered_kept ..
  | left i => exact endPorts_kept ..
  | check i => exact checkEntry_kept ..
  | admission i =>
    simp only [deliver]
    split
    · exact handEntry_kept ..
    · exact Kept.refl _
  | settle i => exact settleSlot_kept i w

theorem drain_kept (n : Nat) (w : Work) : Kept w.st (drain n w).st := by
  induction n generalizing w with
  | zero => exact Kept.refl _
  | succ n ih =>
    simp only [drain]
    split
    · exact Kept.refl _
    · next r rs _ => exact (deliver_kept r { w with reports := rs }).trans (ih _)

/-- The delivery of every report touches nothing that `Kept` lists. -/
theorem flush_kept (w : Work) : Kept w.st (flush w).st := drain_kept _ w

/-- What an event's own work leaves is kept until the command ends. -/
theorem finish_kept (w : Work) : Kept w.st (finish w) := (flush_kept w).trans (settleFlags_kept _)

/-- The reports of a purpose's own slot change, after an admission. -/
theorem notifyUnits_kept (w : Work) : Kept w.st (notifyUnits w).st :=
  map_then (deriveTargets_kept w.st) recompute_kept

end Sys2Proof.Machine
end

