-- ==== Sys2Proof/Laws/Events.lean ====
section
/-! SUPPORT. The shape of a command: what an event answers where it occurs and where it does not, and what the handling of a
frame and a send do. -/

namespace Sys2Proof.Machine

/-- With no report waiting, the delivery does nothing. -/
@[simp] theorem drain_done (n : Nat) (s : State) : drain n ⟨s, []⟩ = ⟨s, []⟩ := by
  cases n <;> rfl

@[simp] theorem flush_done (s : State) : flush ⟨s, []⟩ = ⟨s, []⟩ := drain_done ..

@[simp] theorem finish_done (s : State) : finish ⟨s, []⟩ = settleFlags s := by simp [finish]

@[simp] theorem map_st (f : State → State) (w : Work) : (w.map f).st = f w.st := rfl

@[simp] theorem map_reports (f : State → State) (w : Work) : (w.map f).reports = w.reports := rfl

@[simp] theorem emit_st (rs : List Report) (w : Work) : (w.emit rs).st = w.st := rfl

/-- An event that occurs. -/
theorem event_occurs {s : State} {g : Bool} (f : Work → Work) (r : s.run = .running) (h : g = true) :
    event s g f = .next (finish (f ⟨s, []⟩)) := by simp [event, r, h]

/-- An event that does not occur in this state changes nothing. -/
theorem event_absent {s : State} {g : Bool} (f : Work → Work) (h : g = false) : event s g f = .next s := by
  simp [event, h]

/-- An event of a station that is in a reset changes nothing. -/
theorem event_in_reset {s : State} {g : Bool} (f : Work → Work) (r : s.run ≠ .running) : event s g f = .next s := by
  simp [event, r]

/-- An event that reports nothing. -/
theorem simpleEvent_occurs {s : State} {g : Bool} (f : State → State) (r : s.run = .running) (h : g = true) :
    simpleEvent s g f = .next (settleFlags (f s)) := by
  simp [simpleEvent, event_occurs _ r h, Work.map]

/-- An event answers a next state, whatever its guard. -/
theorem event_next (s : State) (g : Bool) (f : Work → Work) : ∃ t, event s g f = .next t := ⟨_, rfl⟩

/-- What an event answers: the state itself, or the state that its work and its reports leave. -/
theorem event_cases {s t : State} {g : Bool} {f : Work → Work} (h : event s g f = .next t) :
    t = s ∨ (s.run = .running ∧ g = true ∧ t = finish (f ⟨s, []⟩)) := by
  simp only [event] at h
  split at h
  · next c =>
    simp only [Bool.and_eq_true, beq_iff_eq] at c
    cases h
    exact .inr ⟨c.1, c.2, rfl⟩
  · cases h
    exact .inl rfl

/-- A bay changed to what it was. -/
theorem updAt_same {α : Type} {n : Nat} (v : Vector α n) (i : Fin n) (f : α → α) (h : f v[i] = v[i]) :
    updAt v i f = v := by
  simp only [updAt, h]
  exact Vector.set_getElem_self ..

theorem setPeer_same {a : Addr} {f : Peer → Peer} {s : State} (h : f s.peers[a] = s.peers[a]) : setPeer a f s = s := by
  simp only [setPeer, updAt_same _ _ _ h]

theorem setBay_same {i : SlotIx} {f : Bay → Bay} {s : State} (h : f s.bays[i] = s.bays[i]) : setBay i f s = s := by
  simp only [setBay, updAt_same _ _ _ h]

/-- A frame from a peer that is known changes nothing in its entry by being heard (R25). -/
theorem hear_known {p : Peer} (h : p.state ≠ .unknown) (now : Nat) : p.hear now = p := by
  cases e : p.state <;> simp_all [Peer.hear]

/-- A frame of no block's, from a source that is known, is counted and nothing else (R4, R17). -/
theorem hearOnly_known {src : Addr} {s : State} (h : s.peers[src].state ≠ .unknown) :
    hearOnly src ⟨s, []⟩ = ⟨countGood s, []⟩ := by
  have e : s.peers[src].hear s.now = s.peers[src] := hear_known h _
  have n : (s.peers[src].state == PeerState.unknown) = false := by simpa using h
  simp only [hearOnly, takeFrame, id, e, n, replacePeer]
  simp only [Work.map, bne_self_eq_false, Bool.and_false, Bool.or_self, Bool.false_eq_true, if_false, Bool.and_not_self]
  exact congrArg (Work.mk · []) (setPeer_same rfl)

/-- A frame received from a peer. -/
theorem received_from {s : State} {src : Addr} (f : Work → Work) (r : s.run = .running) (h : src ≠ s.address) :
    received s src f = .next (finish (f ⟨s, []⟩)) := by
  simp [received, event_occurs _ r rfl, h]

/-- A destined frame from a source that is known: counted, and its body done where it is for this station (R4). -/
theorem destined_from {s : State} {x : Route} (body : Work → Work) (r : s.run = .running) (h : x.src ≠ s.address)
    (k : s.peers[x.src].state ≠ .unknown) :
    destined s x body =
      .next (finish (if x.dst = s.address then body ⟨countGood s, []⟩ else ⟨countGood s, []⟩)) := by
  simp only [destined, received_from _ r h, hearOnly_known k, flush_done]

/-- A peer's frame that arrives. -/
theorem arrives_peer {recv : Instr} {m : Outgoing} {src : Addr} {s : State} (r : s.run = .running)
    (h : src ≠ s.address) (k : s.peers[src].state ≠ .unknown) : Arrives recv m src recv s (countGood s) :=
  ⟨r, .inl ⟨rfl, h, k, rfl⟩⟩

/-- An own message that arrives. -/
theorem arrives_own {recv : Instr} {m : Outgoing} {k : MsgClass} {s : State} (r : s.run = .running)
    (h : s.bus.onBus = some (k, .fixed m)) :
    Arrives recv m s.address (.messageSent true) s (countGood { s with bus := s.bus.sent k }) :=
  ⟨r, .inr ⟨rfl, rfl, k, h, rfl⟩⟩

/-- What a send does to the bus port, field by field (R1, R7). -/
theorem leaveFifo_sent (c : MsgClass) (b : BusPort) : leaveFifo c b = b.sent c := by cases c <;> rfl

@[simp] theorem sent_onBus (b : BusPort) (c : MsgClass) : (b.sent c).onBus = none := rfl

end Sys2Proof.Machine
end

