-- ==== Sys2Proof/Tests/Slice0.lean ====
section
/-! SUPPORT. Tests: ill-formed commands that the check refuses, values from the manual's tables and worked examples, a few
frames byte by byte, one step of some commands, and for every obligation with hypotheses a state that meets them. -/

namespace Sys2Proof.Tests

open Sys2Proof.Machine

set_option maxRecDepth 20000

/-! ### Well-formedness: one ill-formed term for each check -/

def roll (slots : Nat) (fans : List FanRole) (supplies : List SupplyRole) (trunk : Option TrunkRole) (digest : Nat) :
    Instr := .rollCallReceived 1 ⟨0, ⟨slots, fans, supplies, trunk, false⟩, digest⟩

theorem test_wf_roll_call :
    (roll 255 [⟨0, 3⟩] [⟨1, .b⟩] (some ⟨3, 15⟩) 65535).wellFormed = true ∧ (roll 256 [] [] none 0).wellFormed = false ∧
      (roll 0 [⟨0, 0⟩, ⟨0, 0⟩, ⟨0, 0⟩, ⟨0, 0⟩] [] none 0).wellFormed = false ∧
      (roll 0 [] [⟨0, .a⟩, ⟨0, .a⟩, ⟨0, .a⟩, ⟨0, .a⟩] none 0).wellFormed = false ∧
      (roll 0 [] [] (some ⟨0, 16⟩) 0).wellFormed = false ∧ (roll 0 [] [] none 65536).wellFormed = false := by decide

/-- A STANDING with nothing listed. -/
def plain : Standing := ⟨0, 0, 0, 0, 0, false, false, false, [], [], [], none⟩

def stand (m : Standing) : Bool := (Instr.standingReceived 1 m).wellFormed

theorem test_wf_standing_figures :
    stand plain = true ∧ stand { plain with committed := 65536 } = false ∧
      stand { plain with ceiling := 65536 } = false ∧
      stand { plain with zones := [⟨256, 0⟩] } = false ∧ stand { plain with zones := [⟨0, 256⟩] } = false ∧
      stand { plain with supplies := [⟨.a, .ok, 65536, 0⟩] } = false ∧
      stand { plain with supplies := [⟨.a, .ok, 0, 65536⟩] } = false ∧
      stand { plain with trunk := some ⟨0, 16, 0⟩ } = false ∧
      stand { plain with trunk := some ⟨0, 0, 256⟩ } = false := by decide

theorem test_wf_standing_lists :
    stand { plain with zones := List.replicate 8 ⟨0, 0⟩ } = false ∧
      stand { plain with fans := List.replicate 4 ⟨0, .ok⟩ } = false ∧
      stand { plain with supplies := List.replicate 4 ⟨.a, .ok, 0, 0⟩ } = false ∧
      stand { plain with
        zones := List.replicate 4 ⟨0, 0⟩, fans := List.replicate 2 ⟨0, .ok⟩
        supplies := List.replicate 2 ⟨.a, .ok, 0, 0⟩, trunk := some ⟨0, 0, 0⟩ } = true ∧
      stand { plain with zones := List.replicate 4 ⟨0, 0⟩, supplies := List.replicate 3 ⟨.a, .ok, 0, 0⟩ } = true ∧
      stand { plain with zones := List.replicate 5 ⟨0, 0⟩, supplies := List.replicate 3 ⟨.a, .ok, 0, 0⟩ } = false := by
  decide

theorem test_wf_claims :
    (Instr.peerClaimReceived 1 ⟨0, 65536, 0, 0⟩).wellFormed = false ∧
      (Instr.peerClaimReceived 1 ⟨0, 0, 16, 0⟩).wellFormed = false ∧
      (Instr.peerClaimReceived 1 ⟨0, 0, 0, 16⟩).wellFormed = false ∧
      (Instr.claimDropReceived 1 ⟨0, 256⟩).wellFormed = false ∧
      (Instr.supplyAlarmReceived 1 ⟨0, .ok, 65536⟩).wellFormed = false := by decide

theorem test_wf_lanes :
    (Instr.laneBidReceived ⟨1, 0⟩ ⟨0, 0, 0, 256, 0⟩).wellFormed = false ∧
      (Instr.laneOfferReceived ⟨1, 0⟩ ⟨256, 0, 0, 1⟩).wellFormed = false ∧
      (Instr.laneOfferReceived ⟨1, 0⟩ ⟨0, 0, 256, 1⟩).wellFormed = false ∧
      (Instr.laneOfferReceived ⟨1, 0⟩ ⟨0, 0, 0, 256⟩).wellFormed = false ∧
      (Instr.laneDeferReceived ⟨1, 0⟩ ⟨256, 0⟩).wellFormed = false ∧
      (Instr.laneRefuseReceived ⟨1, 0⟩ ⟨256, 0, 0⟩).wellFormed = false ∧
      (Instr.laneRefuseReceived ⟨1, 0⟩ ⟨0, 0, 256⟩).wellFormed = false ∧
      (Instr.laneReturnReceived ⟨1, 0⟩ ⟨256, 0, 1⟩).wellFormed = false ∧
      (Instr.laneReturnReceived ⟨1, 0⟩ ⟨0, 256, 1⟩).wellFormed = false ∧
      (Instr.laneReturnReceived ⟨1, 0⟩ ⟨0, 0, 256⟩).wellFormed = false ∧
      (Instr.laneWithdrawReceived ⟨1, 0⟩ ⟨256, 0, 1, 0⟩).wellFormed = false ∧
      (Instr.laneWithdrawReceived ⟨1, 0⟩ ⟨0, 256, 1, 0⟩).wellFormed = false ∧
      (Instr.laneWithdrawReceived ⟨1, 0⟩ ⟨0, 0, 256, 0⟩).wellFormed = false ∧
      (Instr.laneWithdrawReceived ⟨1, 0⟩ ⟨0, 0, 0, 256⟩).wellFormed = false := by decide

theorem test_wf_questions :
    (Instr.askSlot ⟨1, 0⟩ ⟨false, 256, 0⟩).wellFormed = false ∧
      (Instr.askSlot ⟨1, 0⟩ ⟨false, 0, 256⟩).wellFormed = false ∧
      (Message.ask ⟨256, 0, 0⟩).wellFormed = false ∧
      (Instr.answerReceived ⟨1, 0⟩ ⟨16, .ok, []⟩).wellFormed = false ∧
      (Instr.answerReceived ⟨1, 0⟩ ⟨0, .ok, List.replicate 32 0⟩).wellFormed = false := by decide

def ord (before : List OrderAction) (own : OwnAction) (after : List OrderAction) : Bool :=
  (Instr.slotOn ⟨⟨1, 0⟩, .none, 0⟩ before own after).wellFormed

theorem test_wf_orders :
    ord [⟨11, 0, 65535⟩] (.act 255 65535) [⟨255, 0, 0⟩] = true ∧ ord [] .absent [] = true ∧
      ord [⟨256, 0, 0⟩] (.act 0 0) [] = false ∧ ord [] (.act 0 0) [⟨0, 256, 0⟩] = false ∧
      ord [] (.act 0 0) [⟨0, 0, 65536⟩] = false ∧ ord [] (.act 256 0) [] = false ∧ ord [] (.act 0 65536) [] = false ∧
      ord [] (.unknownCode 243 0 0) [] = true ∧ ord [] (.unknownCode 244 0 0) [] = false ∧
      ord [] (.unknownCode 0 256 0) [] = false ∧ ord [] (.unknownCode 0 0 65536) [] = false ∧
      ord [] (.act 0 0) (List.replicate 7 ⟨0, 0, 0⟩) = false ∧ ord [⟨0, 0, 0⟩] .absent [] = false ∧
      (Message.order ⟨.none, 0, List.replicate 8 ⟨0, 0, 0⟩⟩).wellFormed = false := by decide

/-! ### Values from the manual's tables -/

/-- 00_scope.md, Serial numbers: 1 to 127 after, wrapping; 128 apart neither is after the other. -/
theorem test_serial_numbers :
    serialAfter 3 250 = true ∧ serialAfter 250 3 = false ∧ serialAfter 127 0 = true ∧ serialAfter 128 0 = false ∧
      serialAfter 0 128 = false ∧ serialAfter 7 7 = false := by decide

/-- R91: the table of power samples. -/
theorem test_power_samples :
    powerSample 2160 1850 = 3996 ∧ powerSample 2160 1852 = 4000 ∧ powerSample 2160 4095 = 8845 ∧
      powerSample 1980 0 = 0 ∧ powerSample 40 20 = 0 := by decide

/-- R90: 25 mV and 10 mA per count, saturated at 4095, 0 below 0. -/
theorem test_codes :
    voltCode 54000 = 2160 ∧ voltCode 54024 = 2160 ∧ ampCode 18500 = 1850 ∧ ampCode 40950 = 4095 ∧
      ampCode 90000 = 4095 ∧ ampCode (-5) = 0 := by decide

/-- R94: average watts, truncated, and as the overdraw charge takes it, rounded up. -/
theorem test_average_watts :
    averageWatts 3998 = 999 ∧ overdrawWatts 3998 = 1000 ∧ averageWatts 4000 = 1000 ∧ overdrawWatts 4000 = 1000 ∧
      averageWatts 2530 = 632 ∧ overdrawWatts 2530 = 633 ∧ overdrawWatts 1 = 1 ∧ averageWatts 1 = 0 ∧
      overdrawWatts 0 = 0 := by decide

/-- R96: the worked window: energy passes 4,294,967,296 once. -/
theorem test_energy_rolls_over :
    let m : Meter := { Meter.cleared 2160 1850 3996 with energy := 4294967295, rollovers := 2 }
    (addEnergy m).energy = 3995 ∧ (addEnergy m).rollovers = 3 := by decide

/-- R100: the table of output blocks, rated 3000 W. -/
theorem test_output_blocks :
    let p (sum : Nat) : Supply := ⟨.ok, true, true, false, 0, false, 16, sum, true, true, false, none, none, none⟩
    ((p 153584640).endBlock 3000).output = 2399 ∧ ((p 153584640).endBlock 3000).loaded = false ∧
      ((p 172800000).endBlock 3000).output = 2700 ∧ ((p 172800000).endBlock 3000).loaded = false ∧
      ((p 192015360).endBlock 3000).output = 3000 ∧ ((p 192015360).endBlock 3000).loaded = true := by decide

/-- R107: the table of base capacity. -/
theorem test_base_capacity :
    baseOf .none [(.a, 3000), (.b, 3000), (.b, supplyCount .degraded 2000)] = (7000, false) ∧
      baseOf .oneSpare [(.a, 3000), (.b, 3000), (.b, 1000)] = (4000, false) ∧
      baseOf .oneSpare [(.a, 3000), (.b, supplyCount .failed 3000)] = (3000, true) ∧
      baseOf .oneSpare [(.a, supplyCount .degraded 3000), (.b, 1500)] = (1500, false) ∧
      baseOf .oneSpare [] = (0, true) ∧
      baseOf .feedPair [(.a, 3000), (.a, 3000), (.b, 3000), (.b, 1000)] = (4000, false) ∧
      baseOf .feedPair [(.a, 3000), (.a, 3000), (.b, 0), (.b, 0)] = (6000, true) ∧ baseOf .feedPair [] = (0, true) := by
  decide

/-- R109: the table of k and U for B = 9000 W. -/
theorem test_cooling_factor :
    usableOf 9000 (coolingFactor 0) = 9000 ∧ usableOf 9000 (coolingFactor 1) = 7875 ∧
      usableOf 9000 (coolingFactor 2) = 6750 ∧ usableOf 9000 (coolingFactor 3) = 5625 ∧
      usableOf 9000 (coolingFactor 4) = 4500 ∧ usableOf 9000 (coolingFactor 9) = 4500 := by decide

/-- R132: the table of shares. -/
theorem test_shares :
    shareOf 1960 1710 7210 = 465 ∧ shareOf 1960 0 5500 = 0 ∧ shareOf 1 300 9000 = 1 ∧ shareOf 400 400 400 = 400 := by
  decide

/-- R145: the table of demands. -/
theorem test_demands :
    demandFor 30 30 = 30 ∧ demandFor 30 12 = 72 ∧ demandFor 30 1 = 97 ∧ demandFor 30 (-5) = 100 ∧
      demandFor 40 20 = 60 ∧ demandFor 20 29 = 22 ∧ demandFor 30 0 = 100 := by decide

/-- R151: the ramp down by 10 and the rise at once. -/
theorem test_duties :
    nextDuty 10 72 100 = 90 ∧ nextDuty 10 72 80 = 72 ∧ nextDuty 10 85 72 = 85 ∧ nextDuty 10 40 85 = 75 ∧
      nextDuty 10 40 45 = 40 := by decide

/-- R148: a rise is reported at once, a fall once it is 4 or more. -/
theorem test_reported_demands :
    reportDemand (some 76) (some 80) = some 80 ∧ reportDemand (some 80) (some 76) = some 76 ∧
      reportDemand (some 83) (some 81) = some 83 ∧ reportDemand (some 83) (some 76) = some 76 ∧
      reportDemand (some 83) none = none := by decide

/-- R158: first fit by width. -/
theorem test_first_fit :
    let f : LaneState := .free
    let x : LaneState := .fenced
    firstFit [f, f, f, f, f, f, f, f] 4 = some ⟨0, 4⟩ ∧ firstFit [x, f, f, f, f, f, f, f] 2 = some ⟨2, 2⟩ ∧
      firstFit [x, f, f, f, f, f, f, f] 4 = some ⟨4, 4⟩ ∧ firstFit [x, f, f, f, f, f] 4 = none ∧
      firstFit [x, f, f] 1 = some ⟨1, 1⟩ := by decide

/-- R1: URGENT before CONTROL before ROUTINE, then the lower address. -/
theorem test_arbitration :
    winsContention .control 5 [⟨.routine, 0⟩, ⟨.control, 6⟩] = true ∧ winsContention .control 5 [⟨.control, 4⟩] = false ∧
      winsContention .control 0 [⟨.urgent, 15⟩] = false ∧ winsContention .urgent 5 [⟨.urgent, 5⟩] = true := by decide

/-- The CRC of section 12.1 over the nine characters 1 to 9 (general knowledge of this generator, initial value and order:
0x29B1). -/
theorem test_crc : crcOf [0x31, 0x32, 0x33, 0x34, 0x35, 0x36, 0x37, 0x38, 0x39] = 0x29B1#16 := by decide

/-- A frame's body written out from section 12.1's table: CLAIM (kind 2, CONTROL 1) from station 5, claim number 93, 200 W,
slot 2, RAISE. -/
theorem test_claim_bytes :
    frameBody 5 none (.claim ⟨93, 200, 2, 1⟩) = [0b01010100, 0b00000010, 4, 93, 0, 200, 0b00100001] := by decide

/-- LANE BID (kind 5, CONTROL, destined): from station 2 to 9, module 3, slot 1, port 2, four lanes, tag 7. -/
theorem test_bid_bytes :
    frameBody 2 (some 9) (.laneBid ⟨3, 1, 2, 4, 7⟩) = [0b01001010, 0b10010101, 3, 0b11011000, 4, 7] := by decide

/-- ORDER (kind 13, CONTROL, destined): from station 1 to 0, unconditional, SET CEILING of slot 2 at 300 W. -/
theorem test_order_bytes :
    frameBody 1 (some 0) (.order ⟨.none, 0, [⟨3, 2, 300⟩]⟩) = [0b01000110, 0b00001101, 6, 0, 1, 3, 2, 1, 44] := by decide

/-- The same frame with its CRC spells the command, and with one bit of its value changed it is dropped. -/
theorem test_order_frame :
    let body : List Byte := [0b01000110, 0b00001101, 6, 0, 1, 3, 2, 1, 44]
    frameCommand (body ++ be16 (crcOf body).toNat) = .setCeiling ⟨⟨1, 0⟩, .none, 0⟩ [] (.act 2 300) [] ∧
      frameCommand (body.set 8 45 ++ be16 (crcOf body).toNat) = .badCrcFrame := by decide

/-! ### States for the witnesses and the one-step tests -/

/-- The state after reset, the census over, at 5000 ms: every periodic timer of the station is due. -/
def base : State := { State.reset with census := none, now := 5000 }

/-- An operator that is LIVE since 5000 ms. -/
def operatorPeer : Peer :=
  { Peer.fresh with
    state := .live, epoch := some 0, roles := some ⟨0, [], [], none, true⟩, digest := some 345, ageFrom := some 5000 }

/-- `base` with that operator at address 1. -/
def calm : State := setPeer 1 (fun _ => operatorPeer) base

/-- `calm` with the slot record of slot 0 changed. -/
def withSeq (f : Seq → Seq) : State := setBay 0 (fun b => { b with seq := f b.seq }) calm

/-- Slot 0 in a state, present, with an allowance of 500 W. -/
def slotIn (st : SlotState) (f : Seq → Seq) : State :=
  withSeq fun q => f { q with state := st, presence := true, standby := true, allowance := some 500 }

/-- Slot 0 in RUNNING with a VALID record and its link changed. -/
def runningLink (f : Link → Link) : State :=
  setBay 0 (fun b => { b with link := f { b.link with record := some ⟨[], .valid⟩ } })
    (slotIn .running fun q => { q with gate := .lifted })

/-- Slot 0 in RUNNING with a VALID record. -/
def running : State := runningLink id

/-- Slot 0 in the draining phase of STOPPING. -/
def draining (f : Seq → Seq) : State :=
  slotIn .stopping fun q => f { q with phase := some .draining, dest := some .off, gate := .lifted }

/-- `calm` with the trunk module 2 of some lanes and latches. -/
def withOwner (lanes : List LaneState) (latches : List Latch) : State :=
  { calm with owner := some { module := 2, lanes := lanes, latches := latches, nextLatch := 9, lastServed := 0
                              faults := Vector.replicate 8 ⟨false, false, none⟩ } }

/-- `calm` with port 1 of slot 0 changed. -/
def withPort (f : PortRec → PortRec) : State := setPort 0 1 f calm

/-- Station 3 announces module 2 with 8 lanes, 4 of them free. -/
def withModule (s : State) : State :=
  setPeer 3 (fun _ => { Peer.fresh with
    state := .live, roles := some ⟨0, [], [], some ⟨2, 8⟩, false⟩
    standing := some { plain with trunk := some ⟨2, 8, 4⟩ } }) s

/-- `calm` with a CLAIM of 260 W for slot 3, number 40, on the bus, its entry at the queue's head, and Ha and the deficit
flag as given. -/
def claiming (ha : Int) (deficit : Bool) : State :=
  { calm with
    bus := { calm.bus with onBus := some (.control, .claim ⟨40, 260, 3, 0⟩), control := [.claim 260 3 .admission] }
    budget := { calm.budget with
      queue := [⟨3, .admission, 260, 7⟩], own := ⟨.onBus, some 7, 3, .admission, 260, some 40⟩, ha := ha
      deficit := deficit, nextNumber := 40 } }

/-- What holds of the next state, `false` where there is none. -/
def after (o : Host.Outcome State Fault Refusal) (f : State → Bool) : Bool :=
  match o with
  | .next t => f t
  | _ => false

def bay (s : State) : Bay := s.bays[(0 : SlotIx)]

def port (s : State) : PortRec := portOf s 0 1

/-- The ORDER head of the operator at address 1, with no condition. -/
def head : OrderHead := ⟨⟨1, 0⟩, .none, 0⟩

/-! ### Witnesses: states that meet the hypotheses of each obligation, clause by clause -/

theorem witness_StepRunsTheFrontCommand :
    ({ base with pending := [.badCrcFrame, .crcWindowEnd] } : State).pending = .badCrcFrame :: [.crcWindowEnd] ∧
      base.pending = [] := by decide

theorem witness_OnlyResetEndsChangeTheStation :
    (∀ a inp, Instr.standingTimerExpiry ≠ .powerOnResetEnd a inp) ∧
      (∀ inp, Instr.standingTimerExpiry ≠ .warmRestartEnd inp) ∧ ∃ t, exec .standingTimerExpiry calm = .next t :=
  ⟨fun _ _ => nofun, fun _ => nofun, _, rfl⟩

/-- The eighth CRC drop of a window. -/
def eighthDrop : State := { calm with bus := { calm.bus with crcCount := 7 } }

theorem witness_LatchedFlagsStaySet :
    eighthDrop.settings.lineMode = .latched ∧ isOrder .badCrcFrame = false ∧ endsReset .badCrcFrame = false ∧
      ∃ t, exec .badCrcFrame eighthDrop = .next t := ⟨rfl, rfl, rfl, _, rfl⟩

/-- A station with slot 0 powered, its figures and line as the rules give them, and a removal of its blade waiting. -/
def busy : State :=
  settleFlags (refigure { running with pending := [.surpriseRemoval 0] })

theorem witness_EveryStepKeepsTheAttentionLine : LineInv busy ∧ ∃ t, step busy = .next t :=
  ⟨by unfold LineInv; decide, _, rfl⟩

theorem witness_EveryStepKeepsTheFigures : FiguresInv busy ∧ ∃ t, step busy = .next t :=
  ⟨⟨by decide, by decide, by decide, by decide, by decide, by decide, by decide, by decide, by decide⟩, _, rfl⟩

theorem witness_EveryStepKeepsTheSwitches : SwitchInv busy ∧ ∃ t, step busy = .next t :=
  ⟨by unfold SwitchInv; decide, _, rfl⟩

theorem witness_EveryStepKeepsTheBusPort : BusInv busy ∧ ∃ t, step busy = .next t :=
  ⟨⟨by unfold BusPort.withinCapacity; decide, by unfold BusPort.countersHold; decide⟩, _, rfl⟩

/-- One well-formed message of each kind, with fields at the ends of their widths. -/
def someMessages : List Message :=
  [.rollCall ⟨255, ⟨255, [⟨1, 3⟩, ⟨0, 0⟩], [⟨1, .b⟩], some ⟨3, 15⟩, true⟩, 65535⟩,
    .standing { plain with
      committed := 65535, zones := [⟨255, 255⟩, ⟨0, 0⟩], fans := [⟨3, .failed⟩]
      supplies := [⟨.b, .failed, 65535, 65535⟩], trunk := some ⟨3, 15, 255⟩ },
    .claim ⟨255, 65535, 15, 15⟩, .claimDrop ⟨0, 255⟩, .supplyAlarm ⟨1, .failed, 65535⟩, .laneBid ⟨3, 3, 3, 255, 255⟩,
    .laneOffer ⟨255, 255, 255, 255⟩, .laneDefer ⟨255, 0⟩, .laneRefuse ⟨255, 0, 255⟩, .laneReturn ⟨255, 255, 255⟩,
    .laneWithdraw ⟨255, 255, 255, 255⟩, .ask ⟨255, 255, 255⟩, .answer ⟨15, .refused, List.replicate 31 255⟩,
    .order ⟨.redundancyLost, 15, List.replicate 7 ⟨255, 255, 65535⟩⟩]

theorem witness_PayloadsReadBack : ∀ m ∈ someMessages, m.wellFormed = true := by decide

theorem witness_FramesSpellTheirCommand :
    ∀ m ∈ someMessages, m.wellFormed = true ∧ (if m.kind.destined then some (15 : Addr) else none).isSome = m.kind.destined := by
  decide

/-- A body with its CRC. -/
def closed (body : List Byte) : List Byte := body ++ be16 (crcOf body).toNat

theorem witness_MalformedFramesAreTold_crc : framePasses [0x54, 0x02, 0, 0, 0] = false := by decide

theorem witness_MalformedFramesAreTold_kind :
    framePasses (closed [0x54, 0x0E, 0]) = true ∧ 14 ≤ natAt (closed [0x54, 0x0E, 0]) 1 % 16 := by decide

theorem witness_MalformedFramesAreTold_length :
    framePasses (closed ([0x94, 0x0C, 33] ++ List.replicate 33 0)) = true ∧
      32 < natAt (closed ([0x94, 0x0C, 33] ++ List.replicate 33 0)) 2 := by decide

theorem witness_MalformedFramesAreTold_class :
    framePasses (closed [0x14, 0x03, 2, 0, 0]) = true ∧ kindOf (natAt (closed [0x14, 0x03, 2, 0, 0]) 1 % 16) = some .claimDrop ∧
      natAt (closed [0x14, 0x03, 2, 0, 0]) 0 / 64 ≠ classRank MsgKind.claimDrop.cls := by decide

theorem witness_MalformedFramesAreTold_destination :
    framePasses (closed [0x56, 0x03, 2, 0, 0]) = true ∧ kindOf (natAt (closed [0x56, 0x03, 2, 0, 0]) 1 % 16) = some .claimDrop ∧
      (frameDestination (closed [0x56, 0x03, 2, 0, 0])).isSome ≠ MsgKind.claimDrop.destined := by decide

theorem witness_MalformedFramesAreTold_layout :
    framePasses (closed [0x54, 0x03, 1, 0]) = true ∧ kindOf (natAt (closed [0x54, 0x03, 1, 0]) 1 % 16) = some .claimDrop ∧
      messageOf .claimDrop (((closed [0x54, 0x03, 1, 0]).drop 3).take (natAt (closed [0x54, 0x03, 1, 0]) 2)) = none := by
  decide

theorem witness_DamagedAndForeignFrames :
    eighthDrop.run = .running ∧ eighthDrop.bus.crcCount + 1 = 8 ∧ eighthDrop.bus.onBus = none := by decide

theorem witness_UndeliveredFramesAreCounted :
    calm.run = .running ∧ (2 : Addr) ≠ calm.address ∧ calm.peers[(2 : Addr)].state = .unknown ∧
      (1 : Addr) ≠ calm.address ∧ calm.peers[(1 : Addr)].state ≠ .unknown ∧ (15 : Addr) ≠ calm.address := by decide

/-- A SUPPLY ALARM, a CLAIM DROP and the two messages of the reset wait. -/
def waiting : BusPort := { base.bus with urgent := [.supplyAlarm 0 .failed 3000], control := [.claimDrop 40 .refused] }

theorem witness_WinsLossesAndStops_choice :
    waiting.urgent = .supplyAlarm 0 .failed 3000 :: [] ∧
      (let b := { waiting with urgent := [], routine := [] };
        b.urgent = [] ∧ b.control = .claimDrop 40 .refused :: [] ∧ b.routine = []) ∧
      (base.bus.urgent = [] ∧ base.bus.control = [] ∧ base.bus.routine = .rollCall :: [.standing]) ∧
      (let b := { waiting with urgent := [] };
        b.urgent = [] ∧ b.control = .claimDrop 40 .refused :: [] ∧ b.routine = .rollCall :: [.standing]) := by decide

theorem witness_WinsLossesAndStops :
    calm.run = .running ∧ calm.bus.onBus = none ∧ chooseNext calm.bus = some .rollCall ∧
      winsContention Outgoing.rollCall.cls calm.address [⟨.routine, 0⟩, ⟨.routine, 1⟩] = true ∧
      winsContention Outgoing.rollCall.cls calm.address [⟨.control, 15⟩] = false ∧
      (claiming 0 false).run = .running ∧ (claiming 0 false).bus.onBus.isSome = true := by decide

theorem witness_SendsConsumeTheirNumbers :
    (claiming 0 false).run = .running ∧ (claiming 0 false).bus.onBus = some (.control, .claim ⟨40, 260, 3, 0⟩) ∧
      owesRestart (.claim ⟨40, 260, 3, 0⟩) = false := by decide

theorem witness_OffersJoinMergeOrAreRefused :
    merges base.bus .standing = true ∧ merges waiting (.supplyAlarm 0 .ok 3000) = true ∧
      (merges base.bus .rollCall = false ∧
        (base.bus.fifo Outgoing.rollCall.cls).length < fifoCapacity Outgoing.rollCall.cls) ∧
      (let b := { base.bus with control := List.replicate 6 (.claimDrop 1 .refused) };
        merges b (.claimDrop 2 .refused) = false ∧
          fifoCapacity (Outgoing.claimDrop 2 .refused).cls ≤ (b.fifo (Outgoing.claimDrop 2 .refused).cls).length) := by
  decide

/-- Every timer of the bus port due at this very instant. -/
def busTimers : State :=
  { calm with bus := { calm.bus with standingDue := 5000, crcDue := 5000, owed := [⟨.rollCall, 5000⟩], foreignUntil := some 5000 } }

theorem witness_BusTimersAct :
    busTimers.run = .running ∧ busTimers.bus.standingDue ≤ busTimers.now ∧ busTimers.bus.crcDue ≤ busTimers.now ∧
      busTimers.bus.owed[0]? = some ⟨.rollCall, 5000⟩ ∧ (5000 : Nat) ≤ busTimers.now ∧
      busTimers.bus.foreignUntil = some 5000 := by decide

/-- A ROLL CALL of the largest role set, with another digest. -/
def someRollCall (epoch : Serial) : RollCall :=
  ⟨epoch, ⟨4, [⟨0, 0⟩, ⟨1, 3⟩], [⟨0, .a⟩, ⟨1, .b⟩], some ⟨3, 8⟩, false⟩, 346⟩

/-- A STANDING of the most entries. -/
def someStanding (epoch : Serial) : Standing :=
  { plain with
    epoch := epoch, zones := [⟨0, 30⟩, ⟨1, 0⟩, ⟨2, 99⟩, ⟨3, 100⟩], fans := [⟨0, .ok⟩, ⟨3, .failed⟩]
    supplies := [⟨.a, .ok, 3000, 0⟩, ⟨.b, .absent, 1, 0⟩], trunk := some ⟨3, 8, 8⟩ }

theorem witness_RollCallsAreRecorded :
    calm.run = .running ∧ (2 : Addr) ≠ calm.address ∧ (someRollCall 0).inRange = true ∧
      calm.peers[(2 : Addr)].epoch = none ∧ calm.peers[(1 : Addr)].epoch = some (someRollCall 0).epoch ∧
      calm.peers[(1 : Addr)].mismatch = false ∧ (someRollCall 0).roles.operator = false ∧
      (someRollCall 0).digest ≠ calm.self.digest := by decide

theorem witness_StandingsAreRecorded :
    calm.run = .running ∧ (2 : Addr) ≠ calm.address ∧ (someStanding 0).inRange = true ∧
      calm.peers[(2 : Addr)].epoch = none ∧ calm.peers[(1 : Addr)].epoch = some (someStanding 0).epoch := by decide

theorem witness_NewEpochsReclaim :
    calm.run = .running ∧ (1 : Addr) ≠ calm.address ∧ (someStanding 1).inRange = true ∧
      (someRollCall 1).inRange = true ∧ calm.peers[(1 : Addr)].epoch.isSome = true ∧
      calm.peers[(1 : Addr)].epoch ≠ some (someStanding 1).epoch ∧
      calm.peers[(1 : Addr)].epoch ≠ some (someRollCall 1).epoch := by decide

theorem witness_ClaimsDropsAndAlarmsAreRecorded :
    calm.run = .running ∧ (1 : Addr) ≠ calm.address ∧ (⟨0, 1, 3, 2⟩ : ClaimMsg).inRange = true ∧
      (⟨255, 16000, 0, 0⟩ : ClaimMsg).inRange = true ∧ (⟨0, 2⟩ : ClaimDropMsg).inRange = true := by decide

/-- Peer 1 of an age at which a limit passes now, with a claim as old. -/
def aging (st : PeerState) (ms : Nat) : State :=
  setPeer 1 (fun p => { p with state := st, ageFrom := some (5000 - ms), pending := some ⟨9, 200, 5000 - ms⟩ }) calm

theorem witness_AgesPass :
    (aging .live 300).run = .running ∧ (1 : Addr) ≠ (aging .live 300).address ∧
      ((aging .live 300).peers[(1 : Addr)].state = .live ∧ (aging .live 300).peers[(1 : Addr)].ageFrom = some 4700 ∧
        4700 + 3 * (aging .live 300).tst ≤ (aging .live 300).now) ∧
      ((aging .stale 1000).peers[(1 : Addr)].state = .stale ∧
        (aging .stale 1000).peers[(1 : Addr)].ageFrom = some 4000 ∧
        4000 + 10 * (aging .stale 1000).tst ≤ (aging .stale 1000).now) ∧
      ((aging .live 400).peers[(1 : Addr)].pending = some ⟨9, 200, 4600⟩ ∧
        4600 + 4 * (aging .live 400).tst ≤ (aging .live 400).now) := by decide

theorem witness_ClaimsWithinHeadroomAreAdmitted :
    let s := claiming 260 false
    s.run = .running ∧ s.bus.onBus = some (.control, .claim ⟨40, 260, 3, 0⟩) ∧ s.budget.own.state = .onBus ∧
      claimedEntry s = some ⟨3, .admission, 260, 7⟩ ∧ s.budget.deficit = false ∧ ((260 : Nat) : Int) ≤ s.budget.ha := by
  decide

theorem witness_ClaimsBeyondHeadroomAreRefused :
    let s := claiming 259 false
    let d := claiming 260 true
    s.run = .running ∧ s.bus.onBus = some (.control, .claim ⟨40, 260, 3, 0⟩) ∧ s.budget.own.state = .onBus ∧
      claimedEntry s = some ⟨3, .admission, 260, 7⟩ ∧ s.budget.ha < ((260 : Nat) : Int) ∧
      s.bus.control.length ≤ 6 ∧ d.budget.own.state = .onBus ∧ claimedEntry d = some ⟨3, .admission, 260, 7⟩ ∧
      d.budget.deficit = true := by decide

/-- A bar whose raised mark is set, refused one Tst ago. -/
def barred : State := { calm with budget := { calm.budget with bar := some ⟨7, 75, 4900, true⟩ } }

theorem witness_ClaimsBeyondHeadroomAreRefused_bar :
    barred.run = .running ∧ barred.budget.bar = some ⟨7, 75, 4900, true⟩ ∧ 4900 + barred.tst ≤ barred.now := by decide

theorem witness_FailedReceiptsDropTheClaim :
    let s := claiming 260 false
    s.run = .running ∧ s.bus.onBus = some (.control, .claim ⟨40, 260, 3, 0⟩) ∧ s.budget.own.state = .onBus ∧
      s.bus.control.length ≤ 6 := by decide

theorem witness_AdmissionsCarryOutTheirPurpose :
    (⟨0, .admission, 500, 0⟩ : Entry).purpose = .admission ∧ (⟨0, .restorePower, 500, 0⟩ : Entry).purpose = .restorePower ∧
      (⟨0, .restoreCeiling, 5, 0⟩ : Entry).purpose = .restoreCeiling ∧
      ((⟨0, .heldFigures, 5, 0⟩ : Entry).purpose = .heldFigures ∧
        (bay (runningLink fun l => { l with held := some ⟨600, 300⟩ })).link.held = some ⟨600, 300⟩) ∧
      ((⟨0, .operatorRaise, 5, 0⟩ : Entry).purpose = .operatorRaise ∧
        (bay (slotIn .running fun q => { q with pendingOp := some (.figure 450) })).seq.pendingOp = some (.figure 450)) := by
  decide

theorem witness_AsksAreAnswered :
    calm.run = .running ∧ (1 : Addr) ≠ calm.address ∧ (0 : Addr) = calm.address ∧
      calm.peers[(1 : Addr)].state ≠ .unknown ∧ (⟨false, 3, 3⟩ : AskOperands).unknownTopic = false ∧
      (⟨true, 0, 0⟩ : AskOperands).unknownTopic = true := by decide

/-- The bid of port 1 of station 1's slot 0 for some lanes of module 2, tag 7. -/
def bid (lanes : Nat) : BidMsg := ⟨2, 0, 1, lanes, 7⟩

/-- Two lanes held by that port under that tag. -/
def holder : Holder := ⟨1, 0, 1, 7, ⟨0, 2⟩⟩

/-- A latch of that port under that tag, with the lanes reserved for it, due now. -/
def latch (g : Option Group) : Latch := ⟨1, 0, 1, 2, 7, 3, g, 5000⟩

def free : LaneState := .free

/-- What every clause of the owner side assumes of the state. -/
def ownerReady (s : State) : Prop :=
  s.run = .running ∧ (1 : Addr) ≠ s.address ∧ (0 : Addr) = s.address ∧ s.peers[(1 : Addr)].state ≠ .unknown ∧
    s.owner.map (·.module) = some 2

theorem witness_BidsAreAnsweredByTheFirstCase_held :
    let s := withOwner [.held holder, .held holder] []
    ownerReady s ∧ lanesOk (bid 3).lanes = false ∧ lanesOk (bid 2).lanes = true ∧
      s.owner.map (fun o => findHolder (fun h => holderOfPort 1 (bid 2) h && h.tag == (bid 2).tag) o.lanes) =
        some (some holder) := by unfold ownerReady; decide

theorem witness_BidsAreAnsweredByTheFirstCase_latched :
    let s := withOwner [.reserved 3, .reserved 3] [latch (some ⟨0, 2⟩)]
    let d := withOwner [.fenced, .fenced] [latch none]
    ownerReady s ∧ ownerReady d ∧
      s.owner.map (fun o => (findHolder (fun h => holderOfPort 1 (bid 2) h && h.tag == (bid 2).tag) o.lanes,
        o.latches.find? (fun l => latchOfPort 1 (bid 2) l && l.tag == (bid 2).tag))) =
          some (none, some (latch (some ⟨0, 2⟩))) ∧
      d.owner.map (fun o => (findHolder (fun h => holderOfPort 1 (bid 2) h && h.tag == (bid 2).tag) o.lanes,
        o.latches.find? (fun l => latchOfPort 1 (bid 2) l && l.tag == (bid 2).tag))) =
          some (none, some (latch none)) := by unfold ownerReady; decide

/-- A latch of another port. -/
def otherLatch (k : Nat) : Latch := ⟨2, 0, 1, 2, 7, k, none, 6000⟩

/-- No latch and no lane of the port stands in the owner record, and the first fit is as given. -/
def newBidAt (s : State) (lanes : Nat) (fit : Option Group) : Bool :=
  lanesOk lanes && match s.owner with
    | some o =>
      o.latches.all (fun l => !latchOfPort 1 (bid lanes) l) && findHolder (holderOfPort 1 (bid lanes)) o.lanes == none &&
        firstFit o.lanes lanes == fit
    | none => false

/-- A fit; too wide a bid; a free latch; none free. -/
theorem witness_BidsAreAnsweredByTheFirstCase_new :
    ownerReady (withOwner [] []) ∧ newBidAt (withOwner [.fenced, .fenced, free, free] []) 2 (some ⟨2, 2⟩) = true ∧
      newBidAt (withOwner [free, free, free] []) 4 none = true ∧
      newBidAt (withOwner [free, .fenced, free, .fenced] [otherLatch 0, otherLatch 1, otherLatch 2]) 4 none = true ∧
      newBidAt (withOwner [free, .fenced, free, .fenced] [otherLatch 0, otherLatch 1, otherLatch 2, otherLatch 4]) 2
        none = true := by unfold ownerReady; decide

/-- Station 2 is UNKNOWN, with no role set, to a station that owns module 2. -/
theorem witness_unknownSource :
    let s := withOwner [.fenced, free] []
    s.run = .running ∧ (2 : Addr) ≠ s.address ∧ (0 : Addr) = s.address ∧ s.peers[(2 : Addr)].state = .unknown ∧
      s.peers[(2 : Addr)].roles = none ∧ s.owner.map (fun o => o.module) = some (bid 1).module := by decide

theorem witness_FirstFitIsTheLowestFreeGroup : lanesOk 1 = true ∧ lanesOk 2 = true ∧ lanesOk 4 = true := by decide

theorem witness_ReturnsAndDiscardsFreeLanes :
    let s := withOwner [.held holder, .held holder] [latch none]
    let p (m : ReturnMsg) (h : Holder) : Bool :=
      h.requester == (1 : Addr) && h.group.first == m.first && h.group.lanes == m.lanes
    ownerReady s ∧
      s.owner.map (fun o => ((findHolder (p ⟨2, 0, 2⟩) o.lanes).isSome, findHolder (p ⟨2, 0, 1⟩) o.lanes, o.latches[0]?)) =
        some (true, none, some (latch none)) ∧ (latch none).discard ≤ s.now := by unfold ownerReady; decide

/-- What every clause of the requester side assumes of the state. -/
def portReady (s : State) : Prop :=
  s.run = .running ∧ (1 : Addr) ≠ s.address ∧ (0 : Addr) = s.address ∧ s.peers[(1 : Addr)].state ≠ .unknown

/-- A port lane record in a state, for two lanes of module 2 at station 1, under tag 7. -/
def portRec (st : PortState) (g : Option Group) (timer : Due) : PortRec :=
  ⟨st, some ⟨2, none⟩, some 2, some 1, some 7, g, timer, g.map fun g => ⟨2, g⟩⟩

/-- Port 1 of slot 0 with that record. -/
def portIn (st : PortState) (g : Option Group) (timer : Due) : State := withPort fun _ => portRec st g timer

theorem witness_LaneAnswersActOnTheirRecord_offers :
    (⟨2, 7, 6, 2⟩ : OfferMsg).inRange = true ∧
      (let s := portIn .bidding none (some 5100);
        portReady s ∧ matchAnswer s 2 7 = some (0, 1) ∧ (port s).state = .bidding) ∧
      (let s := portIn .deferred none (some 5100); matchAnswer s 2 7 = some (0, 1) ∧ (port s).state = .deferred) ∧
      (let s := portIn .held (some ⟨6, 2⟩) none;
        matchAnswer s 2 7 = some (0, 1) ∧ (port s).state = .held ∧ (port s).group = some ⟨6, 2⟩) ∧
      (let s := portIn .held (some ⟨4, 2⟩) none;
        matchAnswer s 2 7 = some (0, 1) ∧ (port s).state = .held ∧ (port s).group ≠ some ⟨6, 2⟩) ∧
      (∀ st ∈ [PortState.none, .lost, .unplaced], matchAnswer (portIn st none none) 2 7 = some (0, 1) ∧
        (port (portIn st none none)).state = st) := by unfold portReady; decide

theorem witness_LaneAnswersActOnTheirRecord_others :
    (⟨2, 7, 1⟩ : RefuseMsg).inRange = true ∧ (⟨2, 6, 2, 1⟩ : WithdrawMsg).inRange = true ∧
      (let s := portIn .held (some ⟨6, 2⟩) none; portReady s ∧ matchWithdraw s ⟨2, 6, 2, 1⟩ = some (0, 1)) := by
  unfold portReady; decide

/-- Lane 0 in a state, its fault input at a level that it has held for 10 ms but not yet taken. -/
def faulting (l : LaneState) (raw : Bool) : State :=
  { calm with owner := some { module := 2, lanes := [l, l], latches := [], nextLatch := 0, lastServed := 0
                              faults := Vector.replicate 8 ⟨raw, !raw, some 5000⟩ } }

/-- Run phase, lane 0 and its fault input. -/
def lane0 (s : State) : RunPhase × Option (Option LaneState × LaneFault) :=
  (s.run, s.owner.map fun o => (o.lanes[0]?, o.faults[(0 : LaneIx)]))

theorem witness_LaneFaultsFenceLanes :
    lane0 (faulting .free true) = (.running, some (some .free, ⟨true, false, some 5000⟩)) ∧
      lane0 (faulting (.held holder) true) = (.running, some (some (.held holder), ⟨true, false, some 5000⟩)) ∧
      lane0 (faulting .fenced false) = (.running, some (some .fenced, ⟨false, true, some 5000⟩)) ∧
      5000 ≤ (faulting .free true).now := by decide

/-- The station runs; the port has the state, the need of two lanes of any module, and a timer due now; and the module
chosen for that need is as given. -/
def choosing (s : State) (st : PortState) (c : Option (ModuleIx × Addr)) : Bool :=
  s.run == .running && (port s).state == st && (port s).timer == some 5000 && (port s).need == some ⟨2, none⟩ &&
    s.now == 5000 && chooseModule s ⟨2, none⟩ == c

theorem witness_UnplacedRecordsChooseAfresh :
    choosing (withModule (portIn .unplaced none (some 5000))) .unplaced (some (2, 3)) = true ∧
      choosing (portIn .unplaced none (some 5000)) .unplaced none = true := by decide

theorem witness_BidsArePresentedAgain_bidding :
    ∀ st ∈ [PortState.bidding, .deferred],
      let s := withModule (portIn st none (some 5000))
      choosing s st (some (2, 3)) = true ∧ (port s).chosen = some 2 ∧ (port s).tag = some 7 ∧ ownerOf s 2 = some 3 ∧
        bidQueued s 0 1 = false ∧ bidQueued (offer (.laneBid 3 ⟨2, 0, 1, 2, 7⟩) s) 0 1 = true := by decide

theorem witness_BidsArePresentedAgain_lost :
    choosing (withModule (portIn .lost none (some 5000))) .lost (some (2, 3)) = true ∧
      choosing (portIn .lost none (some 5000)) .lost none = true := by decide

theorem witness_OrdersNotTakenAreRefused :
    calm.run = .running ∧ head.route.src ≠ calm.address ∧ head.route.dst = calm.address ∧
      calm.peers[head.route.src].state ≠ .unknown ∧
      (setPeer 1 (fun p => { p with roles := none }) calm).peers[head.route.src].operatorRole = false ∧
      ([] : List OrderAction).length + OwnAction.absent.length + ([] : List OrderAction).length = 0 ∧
      4 < [(⟨0, 0, 0⟩ : OrderAction), ⟨0, 0, 0⟩].length + (OwnAction.act 0 0).length +
        [(⟨0, 0, 0⟩ : OrderAction), ⟨0, 0, 0⟩].length := by decide

/-- What the ORDERs' statements assume of the state and of slot 0. -/
def orderable (s : State) : Bool :=
  s.run == .running && head.route.src != s.address && head.route.dst == s.address &&
    s.peers[head.route.src].operatorRole && head.cond == .none && (bay s).fitted

theorem witness_OrderReady : OrderReady calm head := ⟨by decide, by decide, by decide, by decide, by decide⟩

theorem witness_PowerOrdersMoveTheSlot :
    (let s := slotIn .off id; orderable s = true ∧ (bay s).seq.state = .off ∧ (bay s).seq.allowance.isSome = true) ∧
      (∀ st ∈ [SlotState.ramp, .waitPower, .retryWait, .shedOff, .latched],
        orderable (slotIn st id) = true ∧ (bay (slotIn st id)).seq.state = st) ∧
      (orderable running = true ∧ (bay running).seq.state = .running ∧ (bay running).recordValid = true ∧
        (bay running).seq.adopted = false ∧ (bay running).link.held = none ∧ (bay running).seq.pendingOp = none) ∧
      (bay (slotIn .off id)).seq.state ≠ .running := by decide

theorem witness_SettingOrdersSetTheSlot :
    let s := slotIn .off fun q => { q with floor := some 250 }
    orderable s = true ∧ (bay s).powered = false ∧ (bay s).seq.pendingOp = none ∧ (bay s).seq.shedCeiling = none ∧
      entryOf s 0 = none ∧ (bay s).seq.allowance.isSome = true ∧ (bay s).seq.state = .off ∧
      (bay s).link.inventory = none := by decide

theorem witness_StationOrdersActOnTheStation :
    orderable calm = true ∧ (1 : Addr) ≠ calm.address ∧ calm.peers[(1 : Addr)].state ≠ .unknown ∧
      calm.settings.lineMode = .latched ∧ calm.attention.restartOwed = false ∧ calm.bus.routine.length < 4 ∧
      4 ≤ ({ calm with bus := { calm.bus with routine := List.replicate 4 .rollCall } } : State).bus.routine.length := by
  decide

/-- Run phase, whether slot 0 is fitted, its state and whether it is powered. -/
def slot0 (s : State) : RunPhase × Bool × SlotState × Bool := (s.run, (bay s).fitted, (bay s).seq.state, (bay s).powered)

theorem witness_SlotInputsAreTaken :
    (slot0 calm = (.running, true, .empty, false) ∧ (bay calm).seq.presence = false) ∧
      (let s := withSeq fun q => { q with state := .off };
        slot0 s = (.running, true, .off, false) ∧ (bay s).seq.presence = false) ∧
      (let s := slotIn .empty id; slot0 s = (.running, true, .empty, false) ∧ (bay s).seq.presence = true) ∧
      (bay calm).seq.ejectorRaw ≠ true ∧
      (slot0 running = (.running, true, .running, true) ∧ (bay running).seq.inLimit = false) ∧
      (let s := slotIn .running fun q => { q with inLimit := true };
        slot0 s = (.running, true, .running, true) ∧ (bay s).seq.inLimit = true) ∧
      (bay calm).seq.inLimit ≠ true ∧
      (let s := slotIn .running fun q => { q with gateFreeTimer := some 5000, retryClearTimer := some 5000 };
        (bay s).seq.gateFreeTimer = some 5000 ∧ (bay s).seq.retryClearTimer = some 5000 ∧ 5000 ≤ s.now) := by decide

theorem witness_SeatingsAndRemovals :
    (let s := withSeq fun q => { q with presence := true, presenceTimer := some 5000 };
        slot0 s = (.running, true, .empty, false) ∧ (bay s).seq.presenceTimer = some 5000 ∧ 5000 ≤ s.now) ∧
      ((bay running).seq.presence = true ∧ (bay running).seq.state ≠ .empty ∧ (bay running).seq.state ≠ .stuck) ∧
      (let s := slotIn .stuck id; (bay s).seq.presence = true ∧ (bay s).seq.state = .stuck) := by decide

/-- Slot 0 with its ejector held at a new level for 20 ms. -/
def ejecting (o : Bool) (s : State) : State :=
  setBay 0 (fun b => { b with seq := { b.seq with ejectorTimer := some 5000, ejectorRaw := o, ejectorOpen := !o } }) s

theorem witness_EjectorsAct_opening :
    (∀ st ∈ [SlotState.off, .waitPower, .retryWait, .shedOff, .ramp, .identify, .latched, .stuck],
      let s := ejecting true (slotIn st id)
      s.run = .running ∧ (bay s).seq.ejectorTimer = some 5000 ∧ 5000 ≤ s.now ∧ (bay s).seq.ejectorRaw = true ∧
        (bay s).seq.ejectorOpen = false ∧ (bay s).seq.state = st) ∧
      (let s := ejecting true running;
        (bay s).seq.state = .running ∧ (bay s).recordValid = true ∧ (bay s).seq.adopted = false ∧
          (bay s).link.held = none ∧ (bay s).seq.pendingOp = none) ∧
      (let s := ejecting true (draining id);
        (bay s).draining = true ∧ (bay s).link.held = none ∧ (bay s).seq.pendingOp = none) := by decide

theorem witness_EjectorsAct_closing :
    (let s := ejecting false (slotIn .off fun q => { q with ejectorHold := true });
      (bay s).seq.ejectorRaw = false ∧ (bay s).seq.ejectorOpen = true ∧ (bay s).seq.state = .off ∧
        (bay s).seq.ejectorHold = true ∧ (bay s).seq.allowance.isSome = true ∧ (bay s).cfg.startPolicy = .auto ∧
        (bay (setBay 0 (fun b => { b with cfg := { b.cfg with startPolicy := .hold } }) s)).cfg.startPolicy = .hold) ∧
      (let s := ejecting false (slotIn .stopping fun q => { q with phase := some .unseating });
        (bay s).seq.state = .stopping ∧ (bay s).seq.phase = some .unseating) := by decide

theorem witness_FaultsCutTheSlot :
    (let s := slotIn .running fun q => { q with gate := .lifted, ocCount := 4, ocSince := some 4994 };
      s.run = .running ∧ (bay s).powered = true ∧ (bay s).seq.ocSince = some 4994 ∧
        (bay s).cfg.faultTime ≤ (bay s).seq.ocCount + (s.now - 4994) ∧ (bay s).seq.gate ≠ .off) ∧
      (let s := slotIn .ramp fun q => { q with rampTimer := some 5000, gate := .limited 400 };
        (bay s).seq.state = .ramp ∧ (bay s).seq.rampTimer = some 5000 ∧ 5000 ≤ s.now ∧ (bay s).powered = true) ∧
      (bay (draining id)).draining = true := by decide

theorem witness_SlotTimersAct :
    (let s := slotIn .retryWait fun q => { q with retryTimer := some 5000 };
      s.run = .running ∧ 5000 ≤ s.now ∧ (bay s).seq.state = .retryWait ∧ (bay s).seq.retryTimer = some 5000) ∧
      (let s := slotIn .off fun q => { q with cycleTimer := some 5000, cycle := true };
        (bay s).seq.state = .off ∧ (bay s).seq.cycleTimer = some 5000) ∧
      (let s := draining fun q => { q with gracefulTimer := some 5000 };
        (bay s).draining = true ∧ (bay s).seq.gracefulTimer = some 5000 ∧ (bay s).seq.gate ≠ .off) ∧
      (let s := setBay 0 (fun b => { b with meter := { b.meter with amp := 201 } })
          (slotIn .off fun q => { q with stuckTimer := some 5000 });
        (bay s).seq.stuckTimer = some 5000 ∧ (bay s).cfg.stuckThreshold < (bay s).meter.amp) ∧
      (let s := setBay 0 (fun b => { b with meter := { b.meter with amp := 200 } })
          (slotIn .off fun q => { q with stuckTimer := some 5000 });
        (bay s).seq.stuckTimer = some 5000 ∧ (bay s).meter.amp ≤ (bay s).cfg.stuckThreshold ∧
          (bay s).link.held = none ∧ (bay s).seq.pendingOp = none) := by decide

/-- What the start of a transaction assumes of slot 0. -/
def idleLink (s : State) : Prop := s.run = .running ∧ (bay s).seq.standby = true ∧ (bay s).link.inFlight = none

theorem witness_LinksStartTheHighestItem :
    (let s := runningLink fun l => { l with inventory := some ⟨.adoption, 3, 2, []⟩ };
      idleLink s ∧ (bay s).link.inventory = some ⟨.adoption, 3, 2, []⟩) ∧
      (let s := runningLink fun l => { l with cap := some ⟨500, .writing, 2⟩ };
        idleLink s ∧ (bay s).link.inventory = none ∧ (bay s).link.cap = some ⟨500, .writing, 2⟩) ∧
      (let s := runningLink fun l => { l with cap := some ⟨500, .confirming none true 5100, 0⟩ };
        idleLink s ∧ (bay s).link.inventory = none ∧ (bay s).link.cap = some ⟨500, .confirming none true 5100, 0⟩) ∧
      (let s := runningLink fun l => { l with shutdown := .pending, status := .pending };
        idleLink s ∧ (bay s).link.inventory = none ∧ (bay s).link.cap = none ∧ (bay s).link.shutdown = .pending) ∧
      (let s := runningLink fun l => { l with status := .pending };
        idleLink s ∧ (bay s).link.inventory = none ∧ (bay s).link.cap = none ∧ (bay s).link.shutdown ≠ .pending ∧
          (bay s).link.status = .pending) := by unfold idleLink; decide

/-- A record of 96 zero bytes but for a serial length of 1, base watts 1, start-up class 1, and the checksum, 3. -/
def smallRecord : List Byte := ((((List.replicate 96 0).set 3 1).set 20 1).set 24 1).set 94 3

theorem witness_ChecksumsDecideSuspect :
    (((smallRecord.set 93 1).take 94).map (·.toNat)).sum % 65536 ≠
        natAt (smallRecord.set 93 1) 95 * 256 + natAt (smallRecord.set 93 1) 94 ∧
      ((smallRecord.take 94).map (·.toNat)).sum % 65536 = natAt smallRecord 95 * 256 + natAt smallRecord 94 ∧
      fieldsInRange (busLayout smallRecord) = true := by decide

/-- The sum 9321 of the manual's example, as 36 bytes of 255 and one of 141. -/
theorem witness_ChecksumsDecideSuspect_example :
    let l : List Byte := List.replicate 36 255 ++ [141] ++ List.replicate 57 0 ++ [0x69, 0x24]
    ((l.take 94).map (·.toNat)).sum = 9321 ∧ l.getD 94 0 = 0x69 ∧ l.getD 95 0 = 0x24 := by decide

/-- A transaction in flight since 4975 ms, held 25 ms by now. -/
def flight (k : TxnKind) : Txn := ⟨.read, 0, 24, [], k, 1, 4975⟩

/-- Slot 0 in a state, with an inventory READ in flight. -/
def reading (st : SlotState) (index failed : Nat) : State :=
  setBay 0 (fun b => { b with link := { b.link with
    inFlight := some (flight .inventory), inventory := some ⟨.seating, index, failed, []⟩ } }) (slotIn st id)

theorem witness_InventoryReadsGather :
    ∀ x ∈ [(2, 0), (3, 0), (0, 1), (0, 2)],
      let s := reading .identify x.1 x.2
      s.run = .running ∧ (bay s).link.inFlight = some (flight .inventory) ∧ (flight .inventory).kind = .inventory ∧
        (bay s).link.inventory = some ⟨.seating, x.1, x.2, []⟩ ∧ (bay s).seq.state = .identify := by decide

theorem witness_CapWritesAreConfirmed :
    (∀ n ∈ [1, 2],
      let s := runningLink fun l => { l with inFlight := some (flight (.capWrite 500 true)), cap := some ⟨500, .writing, n⟩ }
      s.run = .running ∧ (bay s).link.inFlight = some (flight (.capWrite 500 true)) ∧
        (bay s).link.cap = some ⟨500, .writing, n⟩) ∧
      (bay (runningLink fun l => { l with inFlight := some (flight (.capWrite 500 false)) })).link.inFlight =
        some (flight (.capWrite 500 false)) ∧
      (bay (runningLink fun l => { l with cap := some ⟨500, .confirming (some 5000) false 5000, 0⟩ })).link.cap =
        some ⟨500, .confirming (some 5000) false 5000, 0⟩ ∧ 5000 ≤ running.now := by decide

theorem witness_StatusReadsAreJudged :
    let s := runningLink fun l => { l with inFlight := some (flight .status), lastCap := some 500 }
    let idle := setBay 0 (fun b => { b with link := { b.link with inFlight := some (flight .status) } }) (draining id)
    let v : Vector Byte 8 := #v[12, 2, 0xF4, 0x01, 0, 0, 0, 0]
    s.run = .running ∧ (bay s).link.inFlight = some (flight .status) ∧ (flight .status).kind = .status ∧
      bladeStateOf 1 = some .up ∧ bladeStateOf 0 = some .booting ∧ bladeStateOf 3 = none ∧
      (bladeStateOf v[1].toNat = some .softOffRequest ∧ (bay idle).link.inFlight = some (flight .status) ∧
        (bay idle).seq.state ≠ .running) ∧
      (v[1].toNat = 2 ∧ (bay s).seq.state = .running ∧ (bay s).recordValid = true ∧ (bay s).seq.adopted = false ∧
        (bay s).link.held = none ∧ (bay s).seq.pendingOp = none) := by decide

theorem witness_LinkTimersAct :
    (let s := runningLink fun l =>
        { l with heartbeat := some 5000, hold := .running 5000, inFlight := some (flight .shutdown) };
      s.run = .running ∧ (bay s).link.inFlight = some (flight .shutdown) ∧ (bay s).link.heartbeat = some 5000 ∧
        (bay s).link.hold = .running 5000 ∧ (flight .shutdown).started + 25 ≤ s.now) := by decide

/-- A sample of 54 V everywhere and 18.5 A. -/
def sample : Sample := ⟨54000, #v[54000, 54000, 54000, 54000], #v[18500, 18500, 18500, 18500], #v[11110, 11110]⟩

/-- Slot 0 in RUNNING and supply channel 0, with a window of 16 and a block of 16 filled up to some samples. -/
def metered (n : Nat) : State :=
  let s := setBay 0 (fun b => { b with meter := { b.meter with count := n } }) running
  { s with
    settings := { s.settings with supplyCount := 1 }
    supplies := updAt s.supplies 0 fun p => { p with blockCount := n } }

theorem witness_SamplesAreGathered :
    (metered 15).run = .running ∧ (metered 15).meterDue ≤ (metered 15).now ∧ windowEnds (metered 15) 0 = true ∧
      blockEnds (metered 15) 0 = true ∧ supplyFitted (metered 15) 0 = true ∧ (bay (metered 15)).fitted = true ∧
      (bay (metered 15)).seq.state ≠ .empty ∧ (bay calm).seq.state = .empty ∧
      2 ^ (metered 15).settings.windowExp ≤ (bay (metered 15)).meter.count + 1 ∧
      (bay (metered 14)).meter.count + 1 < 2 ^ (metered 14).settings.windowExp := by decide

theorem witness_SamplesMoveTheSequencer :
    (let s := setBay 0 (fun b => { b with meter := { b.meter with volt := 1944 } })
        { slotIn .ramp id with stationVolt := 2160 };
      (bay s).seq.state = .ramp ∧ 9 * s.stationVolt ≤ 10 * (bay s).meter.volt) ∧
      (let s := setBay 0 (fun b => { b with meter := { b.meter with amp := 199 } })
          (draining fun q => { q with shutdownEnded := true });
        (bay s).draining = true ∧ (bay s).seq.shutdownEnded = true ∧ (bay s).meter.amp < (bay s).cfg.stuckThreshold) ∧
      (let s := setBay 0 (fun b => { b with meter := { b.meter with powerAvg := 2104 } })
          (runningLink fun l => { l with hold := .ended });
        (bay s).seq.state = .running ∧ (bay s).link.hold = .ended ∧
          (bay s).activeCeiling + (bay s).activeCeiling / 20 < (bay s).meter.powerAvg / 4 ∧ s.census = none ∧
          s.budget.deficit = false ∧
          ({ s with budget := { s.budget with deficit := true } } : State).budget.deficit = true) := by decide

theorem witness_SupplyInputsAreConditioned :
    let s := { metered 0 with
      supplies := Vector.replicate 2 ⟨.ok, true, true, false, 0, false, 0, 0, false, false, true, some 5000, some 5000, some 5000⟩ }
    let r := { metered 0 with
      supplies := Vector.replicate 2 ⟨.failed, true, false, false, 0, false, 0, 0, true, true, false, none, some 5000, none⟩ }
    s.run = .running ∧ supplyFitted s 0 = true ∧ s.supplies[(0 : ChanIx)].presentRaw ≠ true ∧
      s.supplies[(0 : ChanIx)].goodRaw ≠ true ∧ s.supplies[(0 : ChanIx)].warnedRaw ≠ false ∧ 5000 ≤ s.now ∧
      s.supplies[(0 : ChanIx)].presentTimer = some 5000 ∧ s.supplies[(0 : ChanIx)].goodTimer = some 5000 ∧
      s.supplies[(0 : ChanIx)].goodRaw = false ∧ s.supplies[(0 : ChanIx)].warnedTimer = some 5000 ∧
      supplyFitted r 0 = true ∧ r.supplies[(0 : ChanIx)].goodTimer = some 5000 ∧
      r.supplies[(0 : ChanIx)].goodRaw = true := by decide

theorem witness_SupplyStatesAreDerived :
    let p (present good warned loaded : Bool) : Supply :=
      ⟨.absent, present, good, warned, 0, loaded, 0, 0, present, good, warned, none, none, none⟩
    (p false true true true).derived = .absent ∧ (p true false true true).derived = .failed ∧
      (p true true true false).derived = .degraded ∧ (p true true false true).derived = .degraded ∧
      (p true true false false).derived = .ok := by decide

theorem witness_DemandFollowsTheMargin :
    (100 : Nat) ≤ 100 ∧ (30 : Int) ≤ 30 ∧ (0 : Int) ≤ 0 ∧ ((0 : Int) < 1 ∧ (1 : Int) < 30) ∧ (0 : Int) < 29 ∧ (29 : Int) < 30 := by
  decide

theorem witness_InletReadingsSetTheDemand :
    let s := { calm with
      settings := { calm.settings with inletZone := some 3 }, cooling := { calm.cooling with inletTimer := some 5000 } }
    s.run = .running ∧ s.cooling.inletTimer = some 5000 ∧ 5000 ≤ s.now ∧ s.settings.inletZone = some 3 := by decide

theorem witness_ResetsBegin :
    running.run = .running ∧ ({ running with run := .warmRestart 4990 } : State).run = .warmRestart 4990 ∧
      (bay { running with run := .warmRestart 4990 }).seq.gate ≠ .off ∧
      ({ running with run := .powerOnReset 4990 } : State).run = .powerOnReset 4990 := by decide

/-- Nothing on the lines, and no read of the record. -/
def quiet : ResetInputs where
  reads := Vector.replicate 3 none
  presence := #v[true, false, true, false]
  ejectorOpen := #v[false, false, true, false]
  inLimit := Vector.replicate 4 false
  supplyPresent := Vector.replicate 2 false
  supplyGood := Vector.replicate 2 false
  supplyWarning := Vector.replicate 2 false
  laneFault := Vector.replicate 8 false
  inlet := none
  sample := ⟨0, Vector.replicate 4 0, Vector.replicate 4 0, Vector.replicate 2 0⟩

/-- A start-up record: Tst 100, NONE, G 200, M 300, no slots, supplies or fans, w 4, cooling at its defaults, all causes
enabled, LATCHED; every byte written from section 12.5's table, with its checksum. -/
def startRecord : Vector Byte 96 :=
  ((((((((Vector.replicate 96 0).set 1 100).set 4 200).set 5 1).set 6 44).set 69 4).set 79 30).set 80 80).set 81 10
    |>.set 82 255 |>.set 83 35 |>.set 91 1 |>.set 92 255 |>.set 94 3 |>.set 95 247

theorem witness_PowerOnResetEnds :
    ({ calm with run := .powerOnReset 4990 } : State).run = .powerOnReset 4990 ∧ settingsFrom quiet.reads = none ∧
      (settingsFrom { quiet with reads := #v[none, none, some startRecord] }.reads).isSome = true := by decide

theorem witness_WarmRestartEnds :
    ({ running with run := .warmRestart 4990 } : State).run = .warmRestart 4990 ∧ ((0 : SlotIx).val < 4) ∧
      ((3 : SlotIx).val < Settings.default.slotCount) ∧ (bay (slotIn .stuck id)).seq.state = .stuck ∧
      ((bay running).seq.state ≠ .stuck ∧ (bay running).seq.gate ≠ .off ∧ (bay running).seq.cutInRestart = false ∧
        quiet.presence[(0 : SlotIx)] = true ∧ quiet.ejectorOpen[(0 : SlotIx)] = false) ∧
      (quiet.presence[(2 : SlotIx)] = true ∧ quiet.ejectorOpen[(2 : SlotIx)] = true) ∧
      quiet.presence[(1 : SlotIx)] = false ∧
      ((bay calm).seq.gate = .off ∧ (bay calm).seq.state ≠ .stuck ∧ (bay calm).seq.cutInRestart = false) ∧
      (bay (slotIn .running fun q => { q with gate := .off, cutInRestart := true })).seq.cutInRestart = true := by decide

theorem witness_CensusEnds :
    ({ calm with census := some 5000 } : State).run = .running ∧ ({ calm with census := some 5000 } : State).census = some 5000 ∧
      5000 ≤ calm.now ∧ calm.budget.deficit = false := by decide

/-! ### Witnesses of the clauses about parts of a command -/

theorem witness_EveryStepKeepsTheFigures_reports :
    (⟨running, [.charge 0 500]⟩ : Work).tied ∧ (⟨running, [.charge 0 500, .check 1]⟩ : Work).tied ∧
      (flush ⟨running, [.charge 0 500]⟩).reports = [] := by unfold Work.tied; decide

/-- The states that draw nothing. -/
def idleStates : List SlotState := [.empty, .identify, .off, .waitPower, .retryWait, .latched, .shedOff]

theorem witness_EveryStepKeepsTheFigures_charges :
    (bay calm).seq.allowance = none ∧ (bay running).seq.allowance = some 500 ∧
      (∀ st ∈ idleStates ++ [.stuck, .ramp, .running], (bay (slotIn st id)).seq.state = st) ∧
      (bay (slotIn .running fun q => { q with adopted := true })).seq.adopted = true ∧
      (bay (draining id)).seq.phase = some .draining ∧
      (bay (slotIn .stopping fun q => { q with phase := some .unseating })).seq.phase = some .unseating := by decide

theorem witness_UndeliveredFramesAreCounted_ranges :
    (⟨0, ⟨5, [], [], none, false⟩, 0⟩ : RollCall).inRange = false ∧ { plain with zones := [⟨4, 0⟩] }.inRange = false ∧
      (⟨0, 1, 4, 0⟩ : ClaimMsg).inRange = false ∧ (⟨0, 3⟩ : ClaimDropMsg).inRange = false ∧
      (⟨2, 7, 0, 3⟩ : OfferMsg).inRange = false ∧ (⟨2, 7, 2⟩ : RefuseMsg).inRange = false ∧
      (⟨2, 0, 2, 2⟩ : WithdrawMsg).inRange = false := by decide

theorem noHead {s : State} {e : Entry} (h : s.budget.queue = []) : ¬HeadFits s e := fun x => by simpa [h] using x.head

/-- A STANDING alone waits, in a station with two fan channels. -/
def standingWaits (census : Due) (judging : Bool) : State :=
  { calm with
    census := census, bus := { calm.bus with routine := [.standing] }
    settings := { calm.settings with fanCount := 2 }, cooling := { calm.cooling with judging := judging } }

theorem witness_WinsLossesAndStops_standing :
    ∀ s ∈ [standingWaits (some 6000) false, standingWaits none false, standingWaits none true],
      s.run = .running ∧ s.bus.onBus = none ∧ chooseNext s.bus = some .standing ∧
        winsContention Outgoing.standing.cls s.address [] = true := by decide

/-- The own CLAIM of the entry at the head of the queue, of 260 W for slot 3, ADMITTED with number 40, and a STANDING that
folds 40 on the bus. -/
def folding (queue : List Entry) : State :=
  { calm with
    bus := { calm.bus with onBus := some (.routine, .standing { plain with folded := 40 }), routine := [.standing] }
    budget := { calm.budget with
      queue := queue, own := ⟨.admitted, none, 3, .admission, 260, some 40⟩, ha := 260 } }

/-- An admission entry of slot 3 of 260 W. -/
def entry3 : Entry := ⟨3, .admission, 260, 7⟩

theorem witness_SendsConsumeTheirNumbers_standing :
    (folding []).bus.onBus = some (.routine, .standing { plain with folded := 40 }) ∧
      (folding []).budget.own.number = some 40 ∧ (∀ e, ¬HeadFits (folding []) e) ∧
      HeadFits (folding [entry3]) entry3 ∧ (folding [entry3]).bus.control.length < 6 ∧
      calm.budget.own.state ≠ .admitted :=
  ⟨rfl, rfl, fun _ => noHead rfl, ⟨rfl, rfl, rfl, rfl, by decide, by decide⟩, by decide, by decide⟩

theorem witness_NewEpochsReclaim_ports :
    let s := portIn .held (some ⟨6, 2⟩) none
    s.run = .running ∧ (1 : Addr) ≠ s.address ∧ s.peers[(1 : Addr)].epoch.isSome = true ∧ (port s).state = .held ∧
      (port s).owner = some 1 := by decide

/-- Peer 1 about to enter SILENT, holding lanes 0 and 1, and port 1 of slot 0 in a state at it. -/
def fading (st : PortState) : State :=
  { setPort 0 1 (fun _ => portRec st none (some 5100)) (aging .stale 1000) with
    owner := (withOwner [.held holder, .held holder] []).owner }

theorem witness_AgesPass_lanes :
    ∀ st ∈ [PortState.bidding, .deferred, .held],
      let s := fading st
      s.run = .running ∧ (1 : Addr) ≠ s.address ∧ s.peers[(1 : Addr)].state = .stale ∧
        s.peers[(1 : Addr)].ageFrom = some 4000 ∧ 4000 + 10 * s.tst ≤ s.now ∧
        s.owner.map (fun o => (s.bus.control.length + o.lanes.length, o.lanes[0]?)) = some (2, some (.held holder)) ∧
        holder.requester = 1 ∧ holder.group.first = 0 ∧ (port s).state = st ∧ (port s).owner = some 1 := by decide

/-- An entry of 260 W at the head, Ha of 260 W, the own claim NONE, and some messages in the CONTROL FIFO. -/
def checking (n : Nat) : State :=
  { calm with
    bus := { calm.bus with control := List.replicate n (.claimDrop 1 .refused) }
    budget := { calm.budget with queue := [entry3], ha := 260 } }

theorem witness_ClaimsBeyondHeadroomAreRefused_check :
    (∀ x, ¬HeadFits calm x) ∧ (claiming 260 false).budget.own.state ≠ .none ∧
      (HeadFits (checking 5) entry3 ∧ (checking 5).budget.own.state = .none ∧ (checking 5).bus.control.length < 6) ∧
      (HeadFits (checking 6) entry3 ∧ (checking 6).budget.own.state = .none ∧ 6 ≤ (checking 6).bus.control.length) :=
  ⟨fun _ => noHead rfl, by decide,
    ⟨⟨rfl, rfl, rfl, rfl, by decide, by decide⟩, by decide, by decide⟩,
    ⟨⟨rfl, rfl, rfl, rfl, by decide, by decide⟩, by decide, by decide⟩⟩

theorem witness_FailedReceiptsDropTheClaim_withdrawn :
    (let s := { claiming 260 false with budget := { (claiming 260 false).budget with queue := [] } };
      s.bus.onBus = some (.control, .claim ⟨40, 260, 3, 0⟩) ∧ s.budget.own.state = .onBus ∧ claimedEntry s = none) ∧
      entryOf calm 0 = none ∧ entryOf (checking 0) 3 = some entry3 ∧ (checking 0).budget.own.state ≠ .queued ∧
      (let s := { checking 0 with
          budget := { (checking 0).budget with own := ⟨.queued, some 7, 3, .admission, 260, none⟩ } };
        s.budget.own.state = .queued ∧ s.budget.own.claimed = some entry3.arrival ∧ entryOf s 3 = some entry3) := by
  decide

/-- `running`, its slot capped at 300 W, with Ha at the restore margin. -/
def restorable (s : State) (f : Seq → Seq) : State :=
  let t := setBay 0 (fun b => { b with seq := f { b.seq with shedCeiling := some 300, cause := .shed } }) s
  { t with budget := { t.budget with ha := t.settings.constants.restoreMargin } }

theorem witness_AdmissionsCarryOutTheirPurpose_queue :
    Ordered calm [entry3, ⟨0, .admission, 1, 8⟩] ∧ (entryOf (checking 0) 3).isSome = true ∧
      entryOf (checking 0) 0 = none ∧ (bay running).seq.allowance = some 500 ∧ (bay calm).seq.allowance = none := by
  unfold Ordered; decide

theorem witness_AdmissionsCarryOutTheirPurpose_restoration :
    (let s := restorable running id;
      s.census = none ∧ s.budget.deficit = false ∧ (s.settings.constants.restoreMargin : Int) ≤ s.budget.ha ∧
        s.budget.restoreEntry = none ∧ s.bays[(1 : SlotIx)].seq.state ≠ .running ∧
        s.bays[(1 : SlotIx)].seq.state ≠ .shedOff ∧ (bay s).fitted = true ∧ (bay s).seq.state = .running ∧
        (bay s).seq.shedCeiling.isSome = true ∧ entryOf s 0 = none ∧
        (bay s).charge < (bay s).withoutShed.charge) ∧
      (let s := restorable running fun q => { q with allowance := some 300 };
        (bay s).seq.state = .running ∧ (bay s).withoutShed.charge ≤ (bay s).charge ∧ entryOf s 0 = none) ∧
      (let s := restorable (slotIn .shedOff id) id;
        (bay s).fitted = true ∧ (bay s).seq.state = .shedOff ∧ (bay s).seq.restoreBarred = false ∧
          (bay s).seq.cause = .shed ∧ entryOf s 0 = none) ∧
      calm.budget.ha < (calm.settings.constants.restoreMargin : Int) + 1 := by decide

theorem witness_AsksAreAnswered_selectors :
    calm.peers[(2 : Addr)].state = .unknown ∧ (∀ i : SlotIx, i.val = 4 → calm.bays[i].fitted = false) ∧
      (∀ c : ChanIx, c.val = 2 → calm.settings.supplyCount ≤ 2) ∧ (bay calm).seq.state = .empty ∧
      (bay (slotIn .identify id)).seq.state = .identify ∧
      ((bay running).fitted = true ∧ (bay running).seq.state ≠ .empty ∧ (bay running).seq.state ≠ .identify ∧
        (bay running).seq.adopted = false ∧ (bay running).link.record = some ⟨[], .valid⟩ ∧
        (bay (runningLink fun l => { l with inventory := some ⟨.reidentify, 0, 0, []⟩ })).link.inventory.isSome = true) ∧
      (0 < (metered 0).settings.supplyCount ∧ calm.budget.factor < 32) ∧
      (let r := port (portIn .held (some ⟨6, 2⟩) none); r.need = some ⟨2, none⟩ ∧ r.group = some ⟨6, 2⟩) := by decide

theorem witness_BidsAreAnsweredByTheFirstCase_superseded :
    let s := withOwner [.held { holder with tag := 8 }, .held { holder with tag := 8 }] []
    ownerReady s ∧ s.owner.map (fun o => (findHolder (fun h => holderOfPort 1 (bid 2) h && h.tag == (bid 2).tag) o.lanes,
      o.latches.find? (fun l => latchOfPort 1 (bid 2) l && l.tag == (bid 2).tag),
      firstFit (supersede 1 (bid 2) o).lanes 2)) = some (none, none, some ⟨0, 2⟩) := by unfold ownerReady; decide

theorem witness_ReturnsAndDiscardsFreeLanes_scan :
    firstFit [free, .fenced] (latch none).lanes = none ∧ firstFit [free, free] (latch none).lanes = some ⟨0, 2⟩ := by
  decide

theorem witness_LaneAnswersActOnTheirRecord_unmatched :
    portReady calm ∧ matchAnswer calm 2 7 = none ∧ matchWithdraw calm ⟨2, 6, 2, 1⟩ = none := by
  unfold portReady; decide

theorem witness_LaneFaultsFenceLanes_others :
    lane0 (faulting (.reserved 3) true) = (.running, some (some (.reserved 3), ⟨true, false, some 5000⟩)) ∧
      lane0 (faulting .fenced true) = (.running, some (some .fenced, ⟨true, false, some 5000⟩)) ∧
      lane0 (faulting .free false) = (.running, some (some .free, ⟨false, true, some 5000⟩)) := by decide

theorem witness_UnplacedRecordsChooseAfresh_choice :
    tagInUse (portIn .unplaced none (some 5000)) 0 1 calm.tagCounter = false ∧
      chooseModule (withModule calm) ⟨2, some 2⟩ = some (2, 3) ∧ chooseModule (withModule calm) ⟨2, some 1⟩ = none ∧
      trunkRoleAt (withModule calm) 3 = some ⟨2, 8⟩ ∧ ownerOf (withModule calm) 2 = some 3 := by decide

/-- The smallest record with one port: port 1, two lanes, any module. -/
def portRecord : List Byte := ((smallRecord.set 25 1).set 26 0x12).set 27 255

/-- Slot 0 in RUNNING with that record, its need taken. -/
def needing : State :=
  setBay 0 (fun b => { b with
    link := { b.link with record := some ⟨portRecord, .valid⟩ }, needs := #v[none, some ⟨2, none⟩, none, none] }) running

theorem witness_BidsArePresentedAgain_runs :
    (let a := (bay (slotIn .ramp id)).seq; let b := (bay running).seq;
      a.state ≠ .running ∧ b.state = .running ∧ b.adopted = false) ∧
      (needing.census = none ∧ (bay needing).seq.state = .running ∧ (bay needing).seq.adopted = false ∧
        (bay needing).recordValid = true ∧ natAt portRecord 25 = 1 ∧ natAt portRecord 26 / 16 = (1 : PortIx).val ∧
        (bay needing).needOf 1 = some ⟨2, none⟩ ∧ (bay needing).needOf 0 = none ∧ (bay calm).recordValid = false ∧
        (bay needing).needs[(1 : PortIx)] = some ⟨2, none⟩ ∧ (bay needing).needs[(0 : PortIx)] = none ∧
        ({ needing with census := some 6000 } : State).census.isSome = true ∧
        (bay (slotIn .running fun q => { q with adopted := true })).seq.adopted = true ∧
        chooseModule needing ⟨2, none⟩ = none ∧ chooseModule (withModule needing) ⟨2, none⟩ = some (2, 3)) ∧
      (let r := port (portIn .held (some ⟨6, 2⟩) none);
        r.state = .held ∧ r.chosen = some 2 ∧ r.owner = some 1 ∧ r.group = some ⟨6, 2⟩) ∧
      ∀ st ∈ [PortState.none, .bidding, .deferred, .lost, .unplaced], (port (portIn st none none)).state = st := by
  decide

theorem witness_OrdersNotTakenAreRefused_lists :
    calm.peers[(2 : Addr)].state = .unknown ∧ calm.peers[(2 : Addr)].roles = none ∧
      calm.peers[head.route.src].operatorRole = true ∧ (OwnAction.act 0 0).length = 1 ∧
      (0b0010#4).getLsbD 1 = true ∧ (0b0010#4).getLsbD 0 ≠ true ∧ Action.restart.code = 11 := by decide

theorem witness_PowerOrdersMoveTheSlot_others :
    (∀ i : SlotIx, i.val = 4 → calm.bays[i].fitted = false) ∧
      (∀ st ∈ idleStates ++ [.ramp, .running, .stopping, .stuck], orderable (slotIn st id) = true ∧
        (bay (slotIn st id)).seq.state = st ∧ (bay (slotIn st id)).seq.presence = true ∧
        (bay (slotIn st id)).seq.restoreBarred = false) ∧
      (bay (slotIn .shedOff fun q => { q with restoreBarred := true })).seq.restoreBarred = true ∧
      ((bay (slotIn .stuck id)).meter.amp < (bay (slotIn .stuck id)).cfg.stuckThreshold ∧
        (bay (slotIn .stuck id)).link.record = none ∧
        (bay (slotIn .stuck fun q => { q with presence := false })).seq.presence = false) ∧
      (let s := setBay 0 (fun b => { b with meter := { b.meter with amp := 200 }
                                            link := { b.link with record := some ⟨[], .absent⟩ } }) (slotIn .stuck id);
        (bay s).cfg.stuckThreshold ≤ (bay s).meter.amp ∧ (bay s).link.record.isSome = true) ∧
      (bay (withSeq fun q => { q with state := .off })).seq.allowance = none := by decide

/-- `running` with an operator ceiling of 200 W. -/
def ceiled (f : Seq → Seq) : State := setBay 0 (fun b => { b with seq := f { b.seq with opCeiling := some 200 } }) running

theorem witness_SettingOrdersSetTheSlot_raises :
    (let s := ceiled id;
      orderable s = true ∧ (bay s).seq.allowance.isSome = true ∧ (bay s).seq.shedCeiling = none ∧ (bay s).powered = true ∧
        (bay s).charge < Bay.charge { bay s with seq := { (bay s).seq with opCeiling := some 201 } } ∧ entryOf s 0 = none ∧
        (bay s).activeCeiling ≠ (bay running).activeCeiling) ∧
      (let s := { ceiled id with budget := { (ceiled id).budget with
          queue := [⟨0, .operatorRaise, 1, 7⟩], nextArrival := 8 } };
        entryOf s 0 = some ⟨0, .operatorRaise, 1, 7⟩ ∧ 7 < s.budget.nextArrival ∧ (bay s).seq.opCeiling.isSome = true) ∧
      (let s := { ceiled id with budget := { (ceiled id).budget with queue := [⟨0, .heldFigures, 1, 7⟩] } };
        (entryOf s 0).isSome = true ∧ (⟨0, .heldFigures, 1, 7⟩ : Entry).purpose ≠ .operatorRaise) ∧
      (bay (ceiled fun q => { q with shedCeiling := some 150 })).seq.shedCeiling.isSome = true ∧
      (bay (ceiled fun q => { q with allowance := some 200 })).charge ≤ 200 ∧
      (let s := slotIn .off fun q => { q with pendingOp := some (.figure 450) };
        (bay s).seq.opCeiling = none ∧ (bay s).seq.pendingOp.isSome = true) ∧
      ((bay calm).seq.allowance = none ∧ (bay running).link.inventory = none ∧ (bay running).seq.opCeiling = none ∧
        (bay running).seq.pendingOp = none ∧ (bay (slotIn .waitPower id)).seq.state = .waitPower) := by decide

/-- Slot 0 in a state, its last inventory READ in flight for some purpose. -/
def readingFor (st : SlotState) (p : ReadPurpose) : State :=
  setBay 0 (fun b => { b with link := { b.link with inFlight := some (flight .inventory), inventory := some ⟨p, 3, 0, []⟩ } })
    (slotIn st id)

theorem witness_InventoryReadsGather_ends :
    (∀ x ∈ [(SlotState.identify, ReadPurpose.release), (.off, .seating), (.running, .adoption), (.running, .reidentify),
        (.waitPower, .reidentify), (.shedOff, .reidentify), (.off, .reidentify)],
      (bay (readingFor x.1 x.2)).link.inventory = some ⟨x.2, 3, 0, []⟩ ∧ (bay (readingFor x.1 x.2)).seq.state = x.1) ∧
      (let s := { readingFor .running .reidentify with budget := { calm.budget with queue := [⟨0, .heldFigures, 1, 7⟩] } };
        entryOf s 0 = some ⟨0, .heldFigures, 1, 7⟩) ∧
      (bay running).powered = true ∧ (bay (slotIn .off id)).powered = false ∧
      (let s := runningLink fun l => { l with held := some ⟨501, 250⟩ };
        (bay s).link.held = some ⟨501, 250⟩ ∧ entryOf s 0 = none ∧ (bay s).charge <
          Bay.charge { bay s with seq := { (bay s).seq with allowance := some 501, floor := some 250 } }) ∧
      (let s := runningLink fun l => { l with held := some ⟨500, 250⟩ };
        (bay s).link.held = some ⟨500, 250⟩ ∧
          Bay.charge { bay s with seq := { (bay s).seq with allowance := some 500, floor := some 250 } } ≤ (bay s).charge) := by
  decide

theorem witness_InletReadingsSetTheDemand_contributors :
    (bay running).powered ≠ (bay calm).powered ∧ ((bay running).fitted = true ∧ (bay running).powered = true) ∧
      (bay calm).powered = false ∧ rawDemand calm 0 = none ∧ rawDemand running 0 = some running.settings.failSafe ∧
      (let s := setPeer 1 (fun p => { p with standing := some { plain with zones := [⟨3, 77⟩] } }) calm;
        s.peers[(1 : Addr)].state = .live ∧ fanTarget s 3 = 77) := by decide

/-- An excess of 80 W, with a deficit and a census as given and a shed mark of 80. -/
def short (deficit : Bool) (census : Due) : State :=
  { running with
    census := census
    budget := { running.budget with hs := -80, committed := 500, deficit := deficit, shedMark := some 80 } }

theorem witness_CensusEnds_deficit :
    (∀ d ∈ [true, false], ∀ c ∈ [none, some 6000],
      (short d c).budget.hs < 0 ∧ (short d c).budget.deficit = d ∧ (short d c).census = c ∧
        (short d c).budget.shedMark = some 80 ∧ 0 < (short d c).budget.committed) ∧
      0 ≤ calm.budget.hs ∧ calm.budget.deficit = false ∧ calm.budget.committed = 0 ∧
      0 ≤ ({ short true none with budget := { (short true none).budget with hs := 0 } } : State).budget.hs := by decide

theorem witness_CensusEnds_shedding :
    ((bay running).fitted = true ∧ (bay running).seq.state = .running ∧ (bay running).recordValid = true ∧
      (bay running).seq.adopted = false ∧ (bay running).seq.floor.getD 0 < (bay running).charge ∧
      (bay running).powered = true ∧ (bay running).seq.ejectorOpen = false) ∧
      (bay (slotIn .ramp id)).powered = true ∧ (bay (slotIn .ramp id)).seq.state ≠ .running ∧
      (bay calm).powered = false ∧
      (bay (slotIn .running fun q => { q with ejectorOpen := true })).seq.ejectorOpen = true := by decide

/-- `busy` in LIVE mode, slot 1 LATCHED. -/
def busyLive : State :=
  settleFlags (setBay 1 (fun b => { b with seq := { b.seq with state := .latched } })
    { busy with settings := { busy.settings with lineMode := .live } })

theorem witness_EveryStepKeepsTheAttentionLine_flags :
    FlagsInv busy ∧ FlagsInv busyLive ∧ busyLive.settings.lineMode = .live ∧ busyLive.run = .running ∧
      busyLive.attention.slots[(1 : SlotIx)].latched = true ∧ (∃ t, step busy = .next t) ∧ ∃ t, step busyLive = .next t :=
  ⟨⟨by unfold SlotFlags.grows; decide, by unfold StationFlags.grows; decide, by decide⟩,
    ⟨by unfold SlotFlags.grows; decide, by unfold StationFlags.grows; decide, by decide⟩, by decide, by decide, by decide,
    ⟨_, rfl⟩, _, rfl⟩

/-- A bar set `ms` ago at an Ha of 75 W, the Ha now as given. -/
def barHolding (ms : Nat) (raised : Bool) (ha : Int) : State :=
  { calm with budget := { calm.budget with bar := some ⟨7, 75, 5000 - ms, raised⟩, ha := ha } }

theorem witness_ClaimsBeyondHeadroomAreRefused_mark :
    calm.budget.bar = none ∧ (barHolding 100 false 75).budget.bar = some ⟨7, 75, 4900, false⟩ ∧
      ¬((75 : Int) < (barHolding 100 false 75).budget.ha) ∧ (75 : Int) < (barHolding 99 false 76).budget.ha ∧
      (barHolding 99 false 76).now < 4901 + (barHolding 99 false 76).tst ∧
      (barHolding 99 true 0).budget.bar = some ⟨7, 75, 4901, true⟩ ∧
      4900 + (barHolding 100 true 0).tst ≤ (barHolding 100 true 0).now := by decide

/-- Slot 0 in a state, with an entry of a purpose. -/
def withEntry (p : Purpose) (s : State) : State := { s with budget := { s.budget with queue := [⟨0, p, 260, 7⟩] } }

theorem witness_FailedReceiptsDropTheClaim_check :
    (∀ x ∈ [(Purpose.admission, SlotState.waitPower), (.heldFigures, .ramp), (.operatorRaise, .running),
        (.restorePower, .shedOff), (.restoreCeiling, .running), (.admission, .off), (.restorePower, .off)],
      let s := withEntry x.1 (slotIn x.2 id)
      entryOf s 0 = some ⟨0, x.1, 260, 7⟩ ∧ (bay s).seq.state = x.2) ∧
      (let s := withEntry .heldFigures (draining id);
        entryOf s 0 = some ⟨0, .heldFigures, 260, 7⟩ ∧ (bay s).seq.state = .stopping ∧
          (bay s).seq.phase = some .draining) ∧
      entryOf calm 0 = none ∧ (bay (slotIn .ramp id)).seq.state ≠ (bay running).seq.state ∧
      (bay (draining id)).seq.phase ≠ (bay running).seq.phase := by decide

/-- Slot 0 in RUNNING, adopted, with no record, held figures and a setting that waits. -/
def loaded : State :=
  setBay 0 (fun b => { b with link := { b.link with held := some ⟨400, 200⟩ } })
    (slotIn .running fun q => { q with adopted := true, gate := .lifted, pendingOp := some (.figure 300) })

theorem witness_PowerOrdersMoveTheSlot_loaded :
    orderable loaded = true ∧ (bay loaded).seq.state = .running ∧ (bay loaded).recordValid = false ∧
      (bay loaded).seq.adopted = true ∧ (bay loaded).link.held.isSome = true ∧
      (bay loaded).seq.pendingOp.isSome = true := by decide

theorem witness_SettingOrdersSetTheSlot_settled :
    (let s := ceiled fun q => { q with pendingOp := some (.figure 300) };
      (bay s).seq.pendingOp = some (.figure 300) ∧ (bay s).seq.shedCeiling = none ∧ (bay s).powered = true ∧
        (bay s).charge < Bay.charge { bay s with seq := { (bay s).seq with opCeiling := some 300 } } ∧
        entryOf s 0 = none ∧ (entryOf (withEntry .heldFigures s) 0).isSome = true) ∧
      (let s := slotIn .off fun q => { q with pendingOp := some .removal };
        (bay s).seq.pendingOp = some .removal ∧ (bay s).seq.shedCeiling = none ∧ (bay s).powered = false) ∧
      (bay (slotIn .shedOff fun q => { q with shedCeiling := some 150 })).seq.shedCeiling.isSome = true ∧
      (bay running).seq.pendingOp = none ∧ (bay loaded).link.held.isSome = true := by decide

theorem witness_StationOrdersActOnTheStation_live :
    (let s := { calm with settings := { calm.settings with lineMode := .live } };
      orderable s = true ∧ s.settings.lineMode = .live) := by decide

theorem witness_EjectorsAct_loaded :
    (let s := ejecting true loaded;
      s.run = .running ∧ (bay s).seq.ejectorTimer = some 5000 ∧ 5000 ≤ s.now ∧ (bay s).seq.ejectorRaw = true ∧
        (bay s).seq.ejectorOpen = false ∧ (bay s).seq.state = .running ∧ (bay s).seq.adopted = true) ∧
      (let s := ejecting true (draining fun q => { q with pendingOp := some .removal });
        (bay s).draining = true ∧ (bay s).seq.pendingOp.isSome = true) := by decide

theorem witness_LinksStartTheHighestItem_between :
    ∀ w ∈ [WorkItem.pending, .absent],
      let s := runningLink fun l =>
        { l with cap := some ⟨500, .confirming (some 5010) false 5100, 0⟩, shutdown := w, status := .pending }
      idleLink s ∧ (bay s).link.inventory = none ∧
        (bay s).link.cap = some ⟨500, .confirming (some 5010) false 5100, 0⟩ ∧ (bay s).link.shutdown = w ∧
        (bay s).link.status = .pending := by unfold idleLink; decide

theorem witness_StatusReadsAreJudged_confirming :
    let s := runningLink fun l => { l with
      inFlight := some (flight .confirm), lastCap := some 500, cap := some ⟨500, .confirming none false 5100, 0⟩ }
    let t := setBay 0 (fun b => { b with link := { b.link with inFlight := some (flight .status) } }) loaded
    let v : Vector Byte 8 := #v[12, 2, 0xF4, 0x01, 0, 0, 0, 0]
    s.run = .running ∧ (bay s).link.inFlight = some (flight .confirm) ∧ (flight .confirm).kind = .confirm ∧
      bladeStateOf v[1].toNat = some .softOffRequest ∧
      (bay s).link.lastCap = some (v[3].toNat * 256 + v[2].toNat) ∧
      (bay s).link.cap = some ⟨500, .confirming none false 5100, 0⟩ ∧
      ((bay t).link.inFlight = some (flight .status) ∧ (bay t).seq.state = .running ∧ (bay t).link.lastCap = none) := by
  decide

theorem witness_SupplyInputsAreConditioned_derived :
    let p (good : Bool) : Supply := ⟨.ok, true, good, false, 0, false, 0, 0, true, good, false, none, none, none⟩
    (p true).derived = (p true).state ∧ (p false).derived ≠ (p false).state ∧ alarmed (p false).state (p false).derived = true := by
  decide

/-- A station with two fan channels, the first at its third low reading. -/
def fanning : State :=
  { calm with
    settings := { calm.settings with fanCount := 2 }
    cooling := { calm.cooling with judging := true, fans := updAt calm.cooling.fans 0 fun f => { f with low := 2 } } }

theorem witness_CensusEnds_fans :
    (0 : ChanIx).val < fanning.settings.fanCount ∧ fanning.cooling.judging = true ∧
      (judgeFan 0 0 fanning).cooling.fans[(0 : ChanIx)].health ≠ fanning.cooling.fans[(0 : ChanIx)].health ∧
      (judgeFan 1 0 fanning).cooling.fans[(1 : ChanIx)].health = fanning.cooling.fans[(1 : ChanIx)].health := by decide

/-- A CONTROL FIFO full of CLAIM DROPs and a ROUTINE FIFO full of ASK ROLLs, with what is owed as given. -/
def crammed (owed : List Owed) : BusPort :=
  { base.bus with
    control := List.replicate 6 (.claimDrop 1 .refused), routine := List.replicate 4 (.askRoll 3), owed := owed }

/-- A message of each kind that a full FIFO refuses. -/
def refusable : List Outgoing :=
  [.claim 260 3 .admission, .claimDrop 2 .refused, .laneBid 3 ⟨2, 0, 1, 2, 7⟩, .laneOffer 3 ⟨2, 7, 0, 2⟩, .laneReturn 3 ⟨2, 0, 2⟩,
    .rollCall, .standing, .askRoll 3, .answer 1 ⟨7, .ok, [0]⟩ false]

theorem witness_OffersJoinMergeOrAreRefused_owed :
    (∀ m ∈ refusable, ∀ owed ∈ [[], [(⟨.rollCall, 5000⟩ : Owed)]],
      merges (crammed owed) m = false ∧ fifoCapacity m.cls ≤ ((crammed owed).fifo m.cls).length) ∧
      (∃ o ∈ (crammed [⟨.rollCall, 5000⟩]).owed, o.msg = .rollCall) ∧
      (∀ o ∈ (crammed []).owed, o.msg ≠ .rollCall) ∧
      (isClaim (.claim 260 3 .admission) = true ∧ base.bus.control.length < fifoCapacity .control) := by decide

theorem witness_AdmissionsCarryOutTheirPurpose_entry :
    (∀ st ∈ [SlotState.off, .identify, .retryWait], (bay (slotIn st id)).seq.state ≠ .waitPower) ∧
      (Bay.enter (bay (slotIn .off id)) 5000 .waitPower none).seq.state = .waitPower ∧
      (bay (slotIn .waitPower id)).seq.state = .waitPower := by decide

/-- Records of four ports of slot 1 in each of the states that hold a tag or not, their tags those of the counter's first
values, beside port 1 of slot 0 in a state with its timer due. -/
def crowded (st : PortState) : State :=
  let held (n : Nat) (p : PortState) (r : PortRec) : PortRec := { r with state := p, tag := some (BitVec.ofNat 8 n) }
  withModule (setBay 1 (fun b => { b with ports := #v[held 0 .bidding b.ports[0], held 1 .held b.ports[1],
    held 2 .unplaced b.ports[2], held 3 .deferred b.ports[3]] }) { portIn st none (some 5000) with tagCounter := 0 })

theorem witness_UnplacedRecordsChooseAfresh_tags :
    (∀ st ∈ [PortState.unplaced, .lost], choosing (crowded st) st (some (2, 3)) = true) ∧
      tagInUse (crowded .unplaced) 0 1 0 = true ∧ tagInUse (crowded .unplaced) 0 1 1 = true ∧
      tagInUse (crowded .unplaced) 0 1 2 = false ∧ tagInUse (crowded .unplaced) 0 1 3 = true ∧
      ((1 : SlotIx), (2 : PortIx)) ≠ (0, 1) ∧ (portOf (crowded .unplaced) 1 2).tag = some 2 := by decide

theorem witness_BidsArePresentedAgain_tags :
    let s := setBay 0 (fun b => { b with needs := (bay needing).needs }) (crowded .none)
    s.bays[(0 : SlotIx)].needs[(1 : PortIx)] = some ⟨2, none⟩ ∧ chooseModule s ⟨2, none⟩ = some (2, 3) ∧
      tagInUse s 0 1 s.tagCounter = true := by decide

theorem witness_SeatingsAndRemovals_states :
    ∀ st ∈ [SlotState.identify, .off, .waitPower, .ramp, .running, .stopping, .retryWait, .latched, .shedOff],
      let s := slotIn st id
      s.run = .running ∧ (bay s).fitted = true ∧ (bay s).seq.presence = true ∧ (bay s).seq.state = st ∧
        (bay s).seq.state ≠ .empty ∧ (bay s).seq.state ≠ .stuck := by decide

theorem witness_SlotTimersAct_loaded :
    let s := setBay 0 (fun b => { b with
      meter := { b.meter with amp := 0 }, link := { b.link with held := some ⟨400, 200⟩ } })
      (slotIn .waitPower fun q => { q with stuckTimer := some 5000, pendingOp := some .removal })
    (bay s).seq.stuckTimer = some 5000 ∧ 5000 ≤ s.now ∧ (bay s).meter.amp ≤ (bay s).cfg.stuckThreshold ∧
      (bay s).link.held.isSome = true ∧ (bay s).seq.pendingOp.isSome = true := by decide

theorem witness_SamplesAreGathered_parts :
    (bay (metered 15)).fitted = true ∧
      (setBay 0 (fun b => { b with fitted := false }) (metered 15)).bays[(0 : SlotIx)].fitted = false ∧
      (bay calm).seq.state = .empty ∧ (bay (metered 15)).seq.state ≠ .empty ∧
      supplyFitted (metered 15) 1 = false ∧ supplyFitted (metered 14) 0 = true ∧
      (metered 14).supplies[(0 : ChanIx)].blockCount + 1 < 16 ∧
      16 ≤ (metered 15).supplies[(0 : ChanIx)].blockCount + 1 := by decide

theorem witness_SamplesMoveTheSequencer_others :
    (let s := setBay 0 (fun b => { b with meter := { b.meter with powerAvg := 2104 } })
        (runningLink fun l => { l with hold := .ended });
      (bay s).seq.state = .running ∧ (bay s).link.hold = .ended ∧
        (bay s).activeCeiling + (bay s).activeCeiling / 20 < (bay s).meter.powerAvg / 4 ∧
        ({ s with census := some 6000 } : State).census.isSome = true) ∧
      ((bay running).seq.state ≠ .ramp ∧ (bay running).draining = false ∧ (bay running).link.hold ≠ .ended) := by decide

theorem witness_WarmRestartEnds_rows :
    (let q := (bay (slotIn .running fun q => { q with gate := .off, cutInRestart := true })).seq;
      q.state ≠ .stuck ∧ q.cutInRestart = true ∧ quiet.presence[(1 : SlotIx)] = false ∧
        quiet.presence[(2 : SlotIx)] = true) ∧
      ({ Settings.default with slotCount := 2 } : Settings).slotCount ≤ (2 : SlotIx).val ∧
      settingsFrom quiet.reads = none ∧
      (settingsFrom { quiet with reads := #v[none, none, some startRecord] }.reads).isSome = true := by decide

/-- A state whose own message has won the bus, at the head of its FIFO. -/
def justWon (k : MsgClass) (x : Outgoing) (s : State) : State :=
  { s with bus := { s.bus.setFifo k [x] with onBus := some (k, .fixed x) } }

/-- The ANSWER that a restart waits for. -/
def owing : Outgoing := .answer 1 ⟨7, .ok, [1]⟩ true

theorem witness_SendsConsumeTheirNumbers_receipts :
    (∀ x ∈ [Outgoing.laneBid 0 (bid 2), .laneReturn 0 ⟨2, 0, 2⟩, .laneOffer 0 ⟨2, 7, 0, 2⟩, .laneDefer 0 ⟨2, 7⟩,
        .laneRefuse 0 ⟨2, 7, 0⟩, .laneWithdraw 0 ⟨2, 0, 2, 1⟩, .laneBid 3 (bid 2), .laneReturn 3 ⟨2, 0, 2⟩,
        .laneOffer 3 ⟨2, 7, 0, 2⟩, .laneDefer 3 ⟨2, 7⟩, .laneRefuse 3 ⟨2, 7, 0⟩, .laneWithdraw 3 ⟨2, 0, 2, 1⟩,
        .claimDrop 2 .refused],
      (justWon .control x calm).run = .running ∧ (justWon .control x calm).bus.onBus = some (.control, .fixed x)) ∧
      (∀ x ∈ [Outgoing.askRoll 0, .askRoll 3, .answer 1 ⟨7, .ok, [0]⟩ false, owing],
        (justWon .routine x calm).bus.onBus = some (.routine, .fixed x)) ∧
      (justWon .urgent (.supplyAlarm 0 .ok 3000) calm).bus.onBus =
        some (.urgent, .fixed (.supplyAlarm 0 .ok 3000)) ∧
      calm.address = 0 ∧ (3 : Addr) ≠ calm.address ∧ owesRestart (.fixed owing) = true ∧
      owesRestart (.fixed (.claimDrop 2 .refused)) = false := by decide

theorem witness_BidsAreAnsweredByTheFirstCase_arrives :
    (let s := withOwner [free, free] []
      ∃ u, Arrives (.laneBidReceived ⟨1, 0⟩ (bid 2)) (.laneBid 0 (bid 2)) 1 (.laneBidReceived ⟨1, 0⟩ (bid 2)) s u) ∧
      (let s := justWon .control (.laneBid 0 (bid 2)) (withOwner [free, free] [])
        ∃ u, Arrives (.laneBidReceived ⟨0, 0⟩ (bid 2)) (.laneBid 0 (bid 2)) s.address (.messageSent true) s u) :=
  ⟨⟨_, arrives_peer rfl (by decide) (by decide)⟩, ⟨_, arrives_own rfl rfl⟩⟩

theorem witness_BidsAreAnsweredByTheFirstCase_elsewhere :
    calm.owner = none ∧ (withOwner [free] []).owner.map (·.module) = some 2 ∧ ({ bid 2 with module := 1 } : BidMsg).module ≠ 2 ∧
      calm.peers[(2 : Addr)].state = .unknown ∧ (2 : Addr) ≠ calm.address := by decide

theorem witness_ReturnsAndDiscardsFreeLanes_arrives :
    (let h : Holder := { holder with requester := 0 }
      let s := justWon .control (.laneReturn 0 ⟨2, 0, 2⟩) (withOwner [.held h, .held h] [])
      (∃ u, Arrives (.laneReturnReceived ⟨0, 0⟩ ⟨2, 0, 2⟩) (.laneReturn 0 ⟨2, 0, 2⟩) s.address (.messageSent true) s u) ∧
        s.owner.map (fun o => (findHolder (fun h => h.requester == 0 && h.group.first == 0 && h.group.lanes == 2)
          o.lanes).isSome) = some true) ∧
      (∃ u, Arrives (.laneReturnReceived ⟨1, 0⟩ ⟨1, 0, 2⟩) (.laneReturn 0 ⟨1, 0, 2⟩) 1
        (.laneReturnReceived ⟨1, 0⟩ ⟨1, 0, 2⟩) (withOwner [free, free] []) u) :=
  ⟨⟨⟨_, arrives_own rfl rfl⟩, by decide⟩, ⟨_, arrives_peer rfl (by decide) (by decide)⟩⟩

theorem witness_LaneAnswersActOnTheirRecord_arrives :
    (∀ st ∈ [PortState.none, .bidding, .deferred, .held, .lost, .unplaced],
      let s := justWon .control (.laneOffer 0 ⟨2, 7, 6, 2⟩) (portIn st (some ⟨6, 2⟩) none)
      s.run = .running ∧ s.bus.onBus = some (.control, .fixed (.laneOffer 0 ⟨2, 7, 6, 2⟩)) ∧
        matchAnswer s 2 7 = some (0, 1) ∧ (portOf s 0 1).state = st) ∧
      (∃ u, Arrives (.laneDeferReceived ⟨1, 0⟩ ⟨2, 7⟩) (.laneDefer 0 ⟨2, 7⟩) 1 (.laneDeferReceived ⟨1, 0⟩ ⟨2, 7⟩)
        (portIn .held (some ⟨6, 2⟩) none) u) ∧
      (⟨2, 7, 2⟩ : RefuseMsg).inRange = false ∧ (15 : Addr) ≠ calm.address :=
  ⟨by decide, ⟨_, arrives_peer rfl (by decide) (by decide)⟩, by decide, by decide⟩

/-- `s` with a LANE BID of port 1 of slot 0, to station 1, queued. -/
def bidWaits (s : State) : State := { s with bus := { s.bus with control := [.laneBid 1 (bid 2)] } }

/-- The states of a port lane record. -/
def portStates : List PortState := [.none, .bidding, .deferred, .held, .lost, .unplaced]

theorem witness_AgesPass_bids :
    ∀ st ∈ portStates, let s := bidWaits (fading st)
      s.run = .running ∧ s.peers[(1 : Addr)].state = .stale ∧ s.peers[(1 : Addr)].ageFrom = some 4000 ∧
        4000 + 10 * s.tst ≤ s.now ∧ (port s).state = st ∧ (port s).owner = some 1 ∧ bidQueued s 0 1 = true := by decide

theorem witness_BidsArePresentedAgain_ends :
    ∀ st ∈ portStates, let s := bidWaits (portIn st (some ⟨6, 2⟩) none)
      (port s).state = st ∧ (port s).chosen = some 2 ∧ (port s).owner = some 1 ∧ (port s).group = some ⟨6, 2⟩ ∧
        bidQueued s 0 1 = true := by decide

theorem witness_StationOrdersActOnTheStation_bids :
    ∀ st ∈ portStates, let s := bidWaits (portIn st none (some 5100))
      orderable s = true ∧ (1 : Addr) ≠ s.address ∧ s.peers[(1 : Addr)].state ≠ .unknown ∧ (port s).state = st ∧
        (port s).owner = some 1 ∧ bidQueued s 0 1 = true := by decide

/-- Slots 0 and 1 shed: slot 0 in RUNNING with a shed ceiling that binds nothing and a raise to 400 W that waits, slot 1 in
SHED_OFF. -/
def restoring : State :=
  setBay 1 (fun b => { b with seq := { b.seq with state := .shedOff, cause := .shed, allowance := some 500 } })
    (restorable running fun q => { q with opCeiling := some 200, pendingOp := some (.figure 400) })

theorem witness_AdmissionsCarryOutTheirPurpose_settled :
    (bay restoring).seq.state = .running ∧ (bay restoring).seq.shedCeiling = some 300 ∧
      (bay restoring).withoutShed.charge ≤ (bay restoring).charge ∧ (bay restoring).seq.pendingOp.isSome = true ∧
      entryOf restoring 0 = none ∧ restoreOrder restoring = [0, 1, 2, 3] := by decide

/-! ### One step of some commands -/

/-- R9: a bid presented again and still queued is withdrawn where its owner enters SILENT, whatever its record's state. -/
theorem test_silent_owner_withdraws_every_bid :
    ∀ st ∈ portStates,
      after (exec (.peerEntersSilent 1) (bidWaits (fading st))) (fun t => !bidQueued t 0 1) = true := by decide

/-- R9, R172: a slot leaves RUNNING with a bid of its HELD port still queued: the lanes are returned and the bid is gone. -/
theorem test_leaving_running_withdraws_a_held_bid :
    after (exec (.severeOvercurrent 0)
      (bidWaits (setPort 0 1 (fun _ => portRec .held (some ⟨6, 2⟩) none) running))) (fun t =>
        t.bus.control == [.laneReturn 1 ⟨2, 6, 2⟩] && (port t).state == .none) = true := by decide

/-- R139, R141: the raise that waits under a shed ceiling that binds nothing is handed where the ceiling goes, before the
next shed slot's RESTORE entry: of equal priorities it is the earlier one, and its CLAIM is the one offered. -/
theorem test_freed_raise_is_handed_first :
    let t := (restorationStep ⟨restoring, []⟩).st
    t.budget.queue.map (fun e => (e.slot, e.purpose)) = [(0, .operatorRaise), (1, .restorePower)] ∧
      t.budget.restoreEntry = some 1 ∧ t.budget.own.slot = 0 ∧ t.budget.own.state = .queued := by decide

/-- R4: an own LANE BID to the own module is taken as it is sent: its lanes are held, and the LANE OFFER waits. -/
theorem test_own_bid_is_taken :
    after (exec (.messageSent true) (justWon .control (.laneBid 0 (bid 2)) (withOwner [free, free] []))) (fun t =>
      t.bus.control == [.laneOffer 0 ⟨2, 7, 0, 2⟩] && t.owner.any fun o =>
        o.lanes == [.held ⟨0, 0, 1, 7, ⟨0, 2⟩⟩, .held ⟨0, 0, 1, 7, ⟨0, 2⟩⟩]) = true := by decide

/-- R178: the warm restart takes effect as the ANSWER is sent. -/
theorem test_restart_at_the_send :
    after (exec (.messageSent true) (justWon .routine owing calm)) (fun t => t.run == .warmRestart 5000) = true := by
  decide

/-- R138, as the model takes it (notes/assumptions/50): the removal of a ceiling above the allowance waits for the end of the
shed ceiling, and is answered STARTED (1). -/
theorem test_clear_ceiling_waits_under_a_shed_ceiling :
    after (exec (.clearCeiling head [] (.act 0 0) [])
      (slotIn .shedOff fun q => { q with opCeiling := some 600, shedCeiling := some 150 })) (fun t =>
        (bay t).seq.opCeiling == some 600 && (bay t).seq.pendingOp == some .removal &&
          t.bus.routine.getLast? == some (.answer 1 ⟨7, .ok, [1]⟩ false)) = true := by decide

/-- No input asserted and no read of the record. -/
def silentLines : ResetInputs :=
  { quiet with presence := Vector.replicate 4 false, ejectorOpen := Vector.replicate 4 false }

/-- State.reset is what a power-on reset with no input asserted and no readable record leaves. -/
theorem test_reset_is_the_end_of_power_on_reset :
    after (exec (.powerOnResetEnd 0 silentLines) { State.reset with run := .powerOnReset 0 }) (· == State.reset) = true := by
  decide

/-- A command that waits is run, and the rest of the queue stays (notes/assumptions/1). -/
theorem test_step_takes_the_front :
    after (step { calm with pending := [.badCrcFrame, .foreignFrame] }) (fun t =>
      t.pending == [.foreignFrame] && t.bus.crcDrops == 1) = true := by decide

/-- R23: the eighth CRC drop of a window raises BUS_FAULTS and asserts the line. -/
theorem test_eighth_crc_drop :
    after (exec .badCrcFrame eighthDrop) (fun t => t.attention.station.busFaults && t.bus.crcCount == 8 && t.attention.line) =
      true := by decide

/-- R62: SLOT ON of a slot in OFF whose allowance is known moves it to WAIT_POWER, where its ADMIT entry is handed; the
ANSWER follows with outcome STARTED (1). -/
theorem test_slot_on :
    after (exec (.slotOn head [] (.act 0 0) []) (slotIn .off id)) (fun t =>
      (bay t).seq.state == .waitPower && t.budget.queue == [⟨0, .admission, 500, 0⟩] &&
        t.bus.routine.getLast? == some (.answer 1 ⟨7, .ok, [1]⟩ false)) = true := by decide

/-- R177: an unknown slot is rejected (4), and nothing happens. -/
theorem test_slot_on_of_no_slot :
    after (exec (.slotOn head [] (.act 4 0) []) calm) (fun t =>
      t.bus.routine.getLast? == some (.answer 1 ⟨7, .ok, [4]⟩ false) && t.bays == calm.bays) = true := by decide

/-- `calm` with a supply of 3000 W at station 2. -/
def supplied (s : State) : State :=
  setPeer 2 (fun _ => { Peer.fresh with
    state := .live, standing := some { plain with supplies := [⟨.a, .ok, 3000, 0⟩] } }) s

/-- R46: at the own receipt of CLAIM 40 the slot goes to RAMP with the limit 400 × 16 / 16. -/
theorem test_admission :
    after (exec .ownClaimReceipt (setBay 3 (fun b => { b with seq := { b.seq with
      state := .waitPower, allowance := some 260 } }) (supplied (claiming 275 false)))) (fun t =>
        (t.bays[(3 : SlotIx)]).seq.state == .ramp && (t.bays[(3 : SlotIx)]).seq.gate == .limited 400 &&
          t.budget.folded == 40 && t.budget.queue == []) = true := by decide

/-- Section 6.10's refusal: 260 W over a headroom of 75 W. -/
theorem test_refusal :
    after (exec .ownClaimReceipt (claiming 75 false)) (fun t =>
      t.budget.bar == some ⟨7, 75, 5000, false⟩ && t.bus.control == [.claimDrop 40 .refused] &&
        t.budget.queue.length == 1) = true := by decide

/-- R51: a first overcurrent fault waits to retry, a second latches. -/
theorem test_overcurrent :
    let s (n : Nat) := slotIn .running fun q => { q with gate := .lifted, retryCount := n, ocCount := 10, ocSince := some 5000 }
    after (exec (.overcurrentFault 0) (s 0)) (fun t => (bay t).seq.state == .retryWait && (bay t).seq.gate == .off) = true ∧
      after (exec (.overcurrentFault 0) (s 1)) (fun t => (bay t).seq.state == .latched && t.attention.slots[0].latched) =
        true := by decide

/-- R101 and its example: power-good lost for 2 ms makes the channel FAILED, and a SUPPLY ALARM of 3000 W is offered. -/
theorem test_supply_alarm :
    let s := { metered 0 with
      settings := { (metered 0).settings with supplies := updAt (metered 0).settings.supplies 0 fun x => { x with rated := 3000 } }
      supplies := Vector.replicate 2
        ⟨.ok, true, true, false, 0, false, 0, 0, false, false, false, none, some 5000, none⟩ }
    after (exec (.supplyPowerGoodLost 0) s) (fun t =>
      t.supplies[0].state == .failed && t.bus.urgent == [.supplyAlarm 0 .failed 3000]) = true := by decide

/-- R31 and R34: a peer's alarm changes what its record counts. -/
theorem test_peer_alarm :
    let s := setPeer 1 (fun p => { p with standing := some { plain with supplies := [⟨.a, .ok, 3000, 0⟩] } }) calm
    after (exec (.supplyAlarmReceived 1 ⟨0, .degraded, 3000⟩) s) (fun t => t.budget.base == 1500) = true := by decide

/-- R158, R160: a bid for two lanes is offered lanes 2 and 3, which it then holds. -/
theorem test_lane_bid :
    after (exec (.laneBidReceived ⟨1, 0⟩ (bid 2)) (withOwner [.fenced, free, free, free] [])) (fun t =>
      t.owner.map (·.lanes) == some [.fenced, free, .held ⟨1, 0, 1, 7, ⟨2, 2⟩⟩, .held ⟨1, 0, 1, 7, ⟨2, 2⟩⟩] &&
        t.bus.control == [.laneOffer 1 ⟨2, 7, 2, 2⟩]) = true := by decide

/-- R42: the ejector's debounce stops at a return. -/
theorem test_ejector_bounce :
    after (exec (.ejectorInputChange 0 false) (withSeq fun q => { q with ejectorRaw := true, ejectorTimer := some 5010 }))
      (fun t => (bay t).seq.ejectorTimer == none) = true := by decide

/-- R91 to R94: the sixteenth sample of a window ends it. -/
theorem test_window_end :
    after (exec (.meterWindowEnd 0 sample) (metered 15)) (fun t =>
      (bay t).meter.count == 0 && (bay t).meter.volt == 2160 && (bay t).meter.power == 3996 &&
        (bay t).meter.powerAvg == 249) = true := by decide

/-- R185: in a warm restart the inputs are not read. -/
theorem test_inputs_wait_in_a_restart :
    let s := { running with run := .warmRestart 4990 }
    after (exec (.surpriseRemoval 0) s) (· == s) = true := by decide

/-- R186: a blade that is powered through a warm restart is adopted. -/
theorem test_adoption :
    after (exec (.warmRestartEnd quiet) { running with run := .warmRestart 4990 }) (fun t =>
      (bay t).seq.state == .running && (bay t).seq.adopted && (bay t).seq.gate == .lifted && t.self.epoch == 1) = true := by
  decide

/-- R6, R116: a CLAIM that was refused stays unoffered before a recomputation, whatever other CLAIM was refused since. -/
theorem test_refused_claims_wait :
    let s := { checking 0 with budget := { (checking 0).budget with blocked := [8, 7] } }
    sendingCheck s = s := by decide

/-- R43, R63, R70: the read that CLEAR LATCH of a STUCK slot joins ends identification. -/
theorem test_release_joins_a_read :
    let s := setBay 0 (fun b => { b with link := { b.link with inventory := some ⟨.reidentify, 2, 1, []⟩ } }) (slotIn .stuck id)
    after (exec (.clearLatch head [] (.act 0 0) []) s) (fun t => (bay t).seq.state == .identify &&
      (bay t).link.inventory == some ⟨.release, 2, 1, []⟩) = true := by decide

/-- R42: a closing in OFF with the hold mark, under AUTO, goes to WAIT_POWER, with an entry though no allowance is held. -/
theorem test_closing_without_allowance :
    after (exec (.ejectorClosing 0) { ejecting false (withSeq fun q => { q with state := .off, ejectorHold := true }) with
      census := some 6000 })
      (fun t => (bay t).seq.state == .waitPower && t.budget.queue.length == 1) = true := by decide

/-- R68: at the adoption read's end a cap write is queued for a ceiling that is not the worst case, though the active
ceiling was the same before. -/
theorem test_adoption_cap_write :
    let b : Bay := bay (slotIn .running fun q => { q with adopted := true, opCeiling := some 200 })
    (b.endRead 5000 .adoption ⟨smallRecord, .absent⟩).link.cap.map (·.figure) =
      some (b.endRead 5000 .adoption ⟨smallRecord, .absent⟩).activeCeiling ∧
      (b.endRead 5000 .adoption ⟨smallRecord, .absent⟩).activeCeiling ≠ b.cfg.worstCase := by decide

/-- R148, R66: slots of demand 80 and 76 switched off in one shedding, the inlet at 74: reported 80, 76, and 76, a fall of
2 being held. -/
theorem test_each_switch_off_derives :
    let on (b : Bay) (m : Option Int) : Bay := { b with
      cfg := { b.cfg with zone := 0 }
      seq := { b.seq with state := .running, presence := true, gate := .lifted }
      link := { b.link with health := .responsive, margin := m } }
    let s := setBay 1 (on · none) (setBay 0 (on · (some 10)) { calm with
      settings := { calm.settings with inletZone := some 0 }
      cooling := { calm.cooling with
        inletDemand := some 74, raw := calm.cooling.raw.set 0 (some 80), reported := calm.cooling.reported.set 0 (some 80) } })
    slotDemand s 0 = some 76 ∧
      (powerOffPass [1, 0] (⟨s, []⟩, 5000)).1.st.cooling.reported[(0 : ZoneIx)] = some 76 := by decide

/-- R88, R113, R129: the withdrawal of a restore entry is reported, and the held figures that waited on it are handed. -/
theorem test_withdrawn_restore_frees_held_figures :
    let s := setBay 0 (fun b => { b with link := { b.link with held := some ⟨600, 100⟩ } }) (restorable running id)
    let w : Work := ⟨{ s with budget := { s.budget with
      queue := [⟨0, .restoreCeiling, 200, 7⟩], restoreEntry := some 0 } }, []⟩
    (withdrawRestore w).reports = [.settle 0] ∧
      (flush (withdrawRestore { w with st := setBay 0 (fun b => { b with
        seq := { b.seq with shedCeiling := none } }) w.st })).st.budget.queue.map (·.purpose) = [.heldFigures] := by decide

/-- R189: the census ends and tach judging begins. -/
theorem test_census_end :
    after (exec .censusEnd { calm with census := some 5000 }) (fun t => t.census == none && t.cooling.judging) = true := by
  decide

/-- R76, R166, R188: the needs taken at a report in the census are those the records start with at its end, whatever
record a REIDENTIFY has put in the place of theirs meanwhile. -/
theorem test_needs_are_taken_at_the_report :
    let s := takeEntered 0 { needing with census := some 5000 }
    let t := setBay 0 (fun b => { b with link := { b.link with record := some ⟨smallRecord, .valid⟩ } }) s
    (port s).need = none ∧
      after (exec .censusEnd t) (fun u => (port u).need == some ⟨2, none⟩ && (port u).state == .unplaced) = true := by
  decide

end Sys2Proof.Tests
end

section
/-! PROOF. The checksum of a gathered inventory record and the status it decides (section 4.3, R74). -/

namespace Sys2Proof.Machine

theorem byteSum_eq_sum_mod (l : List Byte) : byteSum l = (l.map (·.toNat)).sum % 65536 := by
  rw [byteSum, List.sum_eq_foldl, List.foldl_map]

/-- R74 in arithmetic: the sum of bytes 0 to 93 against bytes 94 and 95, the low byte first. -/
theorem checksumGood_iff (l : List Byte) :
    checksumGood l = true ↔ ((l.take 94).map (·.toNat)).sum % 65536 = natAt l 95 * 256 + natAt l 94 := by
  rw [checksumGood, beq_iff_eq, byteSum_eq_sum_mod, le16At]

theorem gatheredRecord_status_of_checksum_bad {l : List Byte} (hbad : ¬ checksumGood l = true) :
    (gatheredRecord l).status = .suspect := by
  simp [gatheredRecord, hbad]

theorem gatheredRecord_status_of_good {l : List Byte} (hsum : checksumGood l = true)
    (hrange : fieldsInRange (busLayout l) = true) : (gatheredRecord l).status = .valid := by
  simp [gatheredRecord, hsum, hrange]

/-- Settles O46: the status follows the arithmetic form of the checksum test, and the manual's example, 9321 = 0x2469
stored as 0x69 then 0x24, passes it. -/
theorem checksumsDecideSuspect : Obligations.ChecksumsDecideSuspect := by
  refine ⟨fun l hne => ?differ, fun l heq hrange => ?agree, fun l hsum hlow hhigh => ?manual⟩
  case differ => exact gatheredRecord_status_of_checksum_bad (mt (checksumGood_iff l).mp hne)
  case agree => exact gatheredRecord_status_of_good ((checksumGood_iff l).mpr heq) hrange
  case manual =>
    rw [checksumGood_iff, hsum, natAt, natAt, hlow, hhigh]
    decide

end Sys2Proof.Machine
end

section
/-! PROOF. The demand for a margin under a floor duty (section 8.2, R145). -/

namespace Sys2Proof.Machine

theorem demandFor_of_thirty_le (f : Nat) {m : Int} (h : 30 ≤ m) : demandFor f m = f := if_pos h

theorem demandFor_of_nonpos (f : Nat) {m : Int} (h : m ≤ 0) : demandFor f m = 100 := by
  have hlow : ¬ 30 ≤ m := by omega
  rw [demandFor, if_neg hlow, if_pos h]

/-- R145's last row. The model works in natural numbers; the two bounds keep both of its subtractions exact, so that
the quotient is the one of the integers. -/
theorem demandFor_of_between {f : Nat} {m : Int} (hf : f ≤ 100) (hpos : 0 < m) (hlt : m < 30) :
    (demandFor f m : Int) = f + (100 - f) * (30 - m) / 30 := by
  lift m to Nat using hpos.le with n
  have hn : n ≤ 30 := by omega
  rw [demandFor, if_neg hlt.not_ge, if_neg hpos.not_ge, Int.toNat_natCast]
  push_cast [Nat.cast_sub hf, Nat.cast_sub hn]
  rfl

/-- Settles O55: one equation for each row of R145's table. -/
theorem demandFollowsTheMargin : Obligations.DemandFollowsTheMargin :=
  fun f _ hf => ⟨demandFor_of_thirty_le f, demandFor_of_nonpos f, demandFor_of_between hf⟩

end Sys2Proof.Machine
end

section
/-! PROOF. The first fit of a lane table (section 9.1, R158). -/

namespace Sys2Proof.Machine

/-- R158: `f` is the first lane of an aligned group of `n` lanes, below the lane count, whose lanes are all FREE. -/
def FreeGroupAt (lanes : List LaneState) (n f : Nat) : Prop :=
  f % n = 0 ∧ f + n ≤ lanes.length ∧ ∀ k, f ≤ k → k < f + n → lanes[k]? = some .free

theorem pos_of_lanesOk {n : Nat} (hn : lanesOk n = true) : 0 < n := by
  simp only [lanesOk, Bool.or_eq_true, beq_iff_eq] at hn
  omega

/-- `groupFree` cuts a group off at the table's end, so it speaks of all `n` lanes only for a group inside the table. -/
theorem groupFree_iff {lanes : List LaneState} {f n : Nat} (hin : f + n ≤ lanes.length) :
    groupFree lanes f n = true ↔ ∀ k, f ≤ k → k < f + n → lanes[k]? = some .free := by
  rw [groupFree, List.all_eq_true]
  constructor
  · intro hall k hfk hkn
    have hk : lanes[k]? = some lanes[k] := List.getElem?_eq_getElem (by omega)
    have hmem : lanes[k] ∈ (lanes.drop f).take n := by
      refine List.mem_iff_getElem?.mpr ⟨k - f, ?_⟩
      rw [List.getElem?_take_of_lt (by omega), List.getElem?_drop, Nat.add_sub_cancel' hfk, hk]
    rw [hk, beq_iff_eq.mp (hall _ hmem)]
  · intro hfree x hmem
    obtain ⟨i, hi, rfl⟩ := List.mem_iff_getElem.mp hmem
    have hlt : i < n := hi.trans_le (List.length_take_le n _)
    rw [List.getElem_take, List.getElem_drop, beq_iff_eq, List.getElem_eq_iff]
    exact hfree (f + i) (by omega) (by omega)

theorem freeGroupAt_iff {lanes : List LaneState} {n f : Nat} :
    FreeGroupAt lanes n f ↔
      (f % n == 0 && decide (f + n ≤ lanes.length)) = true ∧ groupFree lanes f n = true := by
  rw [Bool.and_eq_true, beq_iff_eq, decide_eq_true_eq, and_assoc]
  exact and_congr_right fun _ => and_congr_right fun hin => (groupFree_iff hin).symm

/-- A group of no lanes could start at the lane count itself, past the lanes searched: hence `0 < n`. -/
theorem FreeGroupAt.lt_length {lanes : List LaneState} {n f : Nat} (hn : 0 < n) (h : FreeGroupAt lanes n f) :
    f < lanes.length := by
  obtain ⟨-, hin, -⟩ := h
  omega

open Classical in
/-- The filter of aligned groups and the search for a free one are one search for a free group, from lane 0 up. -/
theorem firstFit_eq_find (lanes : List LaneState) (n : Nat) :
    firstFit lanes n =
      ((List.range lanes.length).find? fun f => decide (FreeGroupAt lanes n f)).map fun f => ⟨f, n⟩ := by
  rw [firstFit, alignedFirsts, List.find?_filter]
  simp only [freeGroupAt_iff]

theorem firstFit_eq_some_iff {lanes : List LaneState} {n : Nat} {g : Group} (hn : 0 < n) :
    firstFit lanes n = some g ↔
      g.lanes = n ∧ FreeGroupAt lanes n g.first ∧ ∀ f, f < g.first → ¬ FreeGroupAt lanes n f := by
  obtain ⟨first, count⟩ := g
  simp only [firstFit_eq_find, Option.map_eq_some_iff, List.find?_range_eq_some, List.mem_range, decide_eq_true_eq,
    Bool.not_eq_true', decide_eq_false_iff_not, Group.mk.injEq]
  constructor
  · rintro ⟨f, ⟨hfree, -, hlowest⟩, rfl, rfl⟩
    exact ⟨rfl, hfree, hlowest⟩
  · rintro ⟨rfl, hfree, hlowest⟩
    exact ⟨first, ⟨hfree, hfree.lt_length hn, hlowest⟩, rfl, rfl⟩

theorem firstFit_eq_none_iff {lanes : List LaneState} {n : Nat} (hn : 0 < n) :
    firstFit lanes n = none ↔ ∀ f, ¬ FreeGroupAt lanes n f := by
  simp only [firstFit_eq_find, Option.map_eq_none_iff, List.find?_range_eq_none, Bool.not_eq_true',
    decide_eq_false_iff_not]
  exact ⟨fun hnone f hfree => hnone f (hfree.lt_length hn) hfree, fun hnone f _ => hnone f⟩

/-- Settles O30: the search meets the free groups in ascending order of their first lanes. -/
theorem firstFitIsTheLowestFreeGroup : Obligations.FirstFitIsTheLowestFreeGroup := fun _ _ _ hn =>
  ⟨firstFit_eq_some_iff (pos_of_lanesOk hn), firstFit_eq_none_iff (pos_of_lanesOk hn)⟩

end Sys2Proof.Machine
end

section
/-! PROOF. What the delivery of reports is made of: every recomputation and every report delivered is a run of few kinds of
moves, so that an invariant of the delivery needs one case for each kind. -/

namespace Sys2Proof.Machine

/-! ### The kinds of moves -/

/-- The changes of a bay that the recomputation and the settling of figures make, from bay `b`. -/
inductive BayMove (b : Bay) : Bay → Prop
  /-- The capping pass (R135). -/
  | capped (n : Nat) (h : b.cappable = true) : BayMove b (b.capped n)
  /-- The power-off pass, and a switch-off for an overdraw (R61, R136). -/
  | shedOff (now : Nat) (c : ShutdownCause) (h : b.powered = true) : BayMove b (b.toShedOff now c)
  /-- From SHED_OFF on to OFF with an open ejector (R57). -/
  | eject (now : Nat) (h : b.seq.state = .shedOff) : BayMove b (b.toOff now true)
  /-- Held figures set at once (R88). -/
  | figures (f : Figures) (h : b.seq.state = .running) : BayMove b (b.fixFigures f)
  /-- A pending setting in force (R139). -/
  | settled : BayMove b b.settled
  /-- A shed ceiling that falls away with no claim (R141). -/
  | restored (h : b.seq.state = .running) : BayMove b b.withoutShed

/-- No entry that has been in the claim queue, and is not, comes back: each has an arrival of its own (R112). -/
def Budget.NoReturn (a b : Budget) : Prop :=
  ∀ e, e ∉ a.queue → e.arrival < a.nextArrival → e ∉ b.queue ∧ e.arrival < b.nextArrival

/-- A budget record edited in the claim queue and the deficit's marks alone; the deficit is left or stays. -/
def Budget.Edited (a b : Budget) : Prop :=
  a.NoReturn b ∧ ∃ q n r x d m, (d = true → a.deficit = true) ∧
    b = { a with queue := q, nextArrival := n, restoreEntry := r, bar := x, deficit := d, shedMark := m }

/-- One move of a recomputation or of the settling of a slot. -/
inductive Move : Work → Work → Prop
  | refigure (w : Work) : Move w (w.map refigure)
  | budget (w : Work) (b : Budget) (h : w.st.budget.Edited b) : Move w (w.map fun s => { s with budget := b })
  | claim (w : Work) (e : Entry) (h : w.st.budget.own.state = .none) : Move w (w.map (offerClaim e))
  | unclaim (w : Work) : Move w (w.map withdrawClaim)
  | deficit (w : Work) : Move w (w.map setDeficit)
  | bay (w : Work) (i : SlotIx) (f : Bay → Bay) (h : BayMove w.st.bays[i] (f w.st.bays[i])) :
      Move w (modBay .fault i f w)
  | settle (w : Work) (i : SlotIx) : Move w (w.emit [.settle i])

/-- A run of moves. -/
abbrev Moves : Work → Work → Prop := Relation.ReflTransGen Move


theorem edited_refl (a : Budget) : a.Edited a := ⟨fun _ n l => ⟨n, l⟩, _, _, _, _, _, _, id, rfl⟩

theorem Move.moves {v w : Work} (h : Move v w) : Moves v w := .single h

/-- What every move keeps, a run of moves keeps. -/
theorem Moves.keeps {P : Work → Prop} {v w : Work} (m : Moves v w) (h : ∀ a b, Move a b → P a → P b) (p : P v) :
    P w := by
  induction m with
  | refl => exact p
  | tail _ k ih => exact h _ _ k ih

/-- A relation that every move is in, and that composes, holds of a run of moves. -/
theorem Moves.rel {R : Work → Work → Prop} {v w : Work} (m : Moves v w) (refl : ∀ a, R a a)
    (trans : ∀ a b c, R a b → R b c → R a c) (h : ∀ a b, Move a b → R a b) : R v w := by
  induction m with
  | refl => exact refl _
  | tail _ k ih => exact trans _ _ _ ih (h _ _ k)

/-! ### The operations as runs of moves -/

theorem sendingCheck_moves (w : Work) : Moves w (w.map sendingCheck) := by
  have same : w.map (fun s => s) = w := rfl
  cases h : w.st.budget.queue.head? with
  | none =>
    have e : w.map sendingCheck = w := by simp [Work.map, sendingCheck, h]
    rw [e]
  | some x =>
    by_cases c : canClaim w.st x = true
    · have e : w.map sendingCheck = w.map (offerClaim x) := by simp [Work.map, sendingCheck, h, c]
      rw [e]
      simp only [canClaim, Bool.and_eq_true, beq_iff_eq] at c
      exact (Move.claim w x c.1.1.1.2).moves
    · have e : w.map sendingCheck = w := by simp [Work.map, sendingCheck, h, c]
      rw [e]

/-- An edit of the budget record, and the sending check where it asks for one. -/
theorem recheck_moves (w : Work) (r : State) (b : Budget) (h : w.st.budget.Edited b) :
    Moves w (w.map fun s => recheck r { s with budget := b }) := by
  have m : Moves w (w.map fun s => { s with budget := b }) := (Move.budget w b h).moves
  simp only [recheck, Work.map]
  split
  · exact m.trans (sendingCheck_moves (w.map fun s => { s with budget := b }))
  · exact m

theorem insertEntry_perm (s : State) (e : Entry) (l : List Entry) : (insertEntry s e l).Perm (e :: l) := by
  induction l with
  | nil => exact .refl _
  | cons x xs ih =>
    simp only [insertEntry]
    split
    · exact .refl _
    · exact (ih.cons x).trans (.swap ..)

theorem handEntry_moves (i : SlotIx) (p : Purpose) (n : Nat) (w : Work) : Moves w (w.map (handEntry i p n)) := by
  by_cases c : (entryOf w.st i).isSome = true
  · obtain ⟨e, he⟩ := Option.isSome_iff_exists.mp c
    have k : w.map (handEntry i p n) = w := by simp [Work.map, handEntry, he]
    rw [k]
  · have he : entryOf w.st i = none := by simpa using c
    have k : w.map (handEntry i p n) = w.map fun s => recheck w.st { s with budget := { w.st.budget with
        queue := insertEntry w.st ⟨i, p, n, w.st.budget.nextArrival⟩ w.st.budget.queue
        nextArrival := w.st.budget.nextArrival + 1 } } := by simp [Work.map, handEntry, he]
    rw [k]
    refine recheck_moves _ _ _ ⟨fun e n l => ⟨fun m => ?_, Nat.lt_succ_of_lt l⟩, _, _, _, _, _, _, id, rfl⟩

    obtain rfl | m := List.mem_cons.1 ((insertEntry_perm ..).mem_iff.1 m)
    · exact Nat.lt_irrefl _ l
    · exact n m

theorem takeOut_moves (e : Entry) (w : Work) (r : State) : Moves w (w.map fun s => recheck r (takeOut e s)) :=
  recheck_moves w r (takeOut e w.st).budget ⟨fun _ n l => ⟨fun m => n (List.mem_filter.1 m).1, l⟩, _, _, _, _, _, _, id, rfl⟩

theorem withdrawEntry_moves (i : SlotIx) (w : Work) : Moves w (w.map (withdrawEntry i)) := by
  cases he : entryOf w.st i with
  | none =>
    have k : w.map (withdrawEntry i) = w := by simp [Work.map, withdrawEntry, he]
    rw [k]
  | some e =>
    by_cases c : (w.st.budget.own.state == .queued && w.st.budget.own.claimed == some e.arrival) = true
    · have k : w.map (withdrawEntry i) = (w.map withdrawClaim).map fun s => recheck w.st (takeOut e s) := by
        simp only [Work.map, withdrawEntry, he, c, if_true]
      rw [k]
      exact (Move.unclaim w).moves.trans (takeOut_moves e _ _)
    · have k : w.map (withdrawEntry i) = w.map fun s => recheck w.st (takeOut e s) := by
        simp only [Work.map, withdrawEntry, he, c, if_false, Bool.false_eq_true]
      rw [k]
      exact takeOut_moves e w _

theorem leaveQueue_moves (i : SlotIx) (w : Work) : Moves w (leaveQueue i w) := by
  simp only [leaveQueue]
  split
  · exact (withdrawEntry_moves i w).trans (Move.settle _ i).moves
  · exact .refl

theorem withdrawRestore_moves (w : Work) : Moves w (withdrawRestore w) := by
  simp only [withdrawRestore]
  split
  · next i _ =>
    exact (leaveQueue_moves i w).trans (Move.budget (leaveQueue i w) { (leaveQueue i w).st.budget with restoreEntry := none }
      ⟨fun _ n l => ⟨n, l⟩, _, _, _, _, _, _, id, rfl⟩).moves
  · exact .refl

theorem setMark_moves (m : Nat) (w : Work) : Moves w (w.map (setMark m)) :=
  (Move.budget w { w.st.budget with shedMark := some m } ⟨fun _ n l => ⟨n, l⟩, _, _, _, _, _, _, id, rfl⟩).moves

theorem capPass_moves (l : List SlotIx) (w : Work) (n : Nat) : Moves w (capPass l (w, n)).1 := by
  induction l generalizing w n with
  | nil => exact .refl
  | cons i l ih =>
    simp only [capPass]
    split
    · next c =>
      simp only [Bool.and_eq_true] at c
      exact (Move.bay w i _ (.capped n c.2)).moves.trans (ih _ _)
    · exact ih _ _

/-- The cooling report writes the cooling record alone. -/
theorem coolingReport_eq (i : SlotIx) (a b : Bay) (s : State) :
    ∃ x, coolingReport i a b s = { s with cooling := x } := by
  simp only [coolingReport]
  split
  · exact ⟨_, rfl⟩
  · exact ⟨_, rfl⟩

/-- What a change of bay `i` writes: the bay, the cooling record, the slot's flags and the reports. -/
theorem modBay_eq (o : StepOrder) (i : SlotIx) (f : Bay → Bay) (w : Work) :
    ∃ x, modBay o i f w = ⟨raiseFor i w.st.bays[i] (capFollows w.st.now w.st.bays[i] (f w.st.bays[i]))
        { setBay i (fun _ => capFollows w.st.now w.st.bays[i] (f w.st.bays[i])) w.st with cooling := x },
      w.reports ++ reportsOf o i w.st.bays[i] (capFollows w.st.now w.st.bays[i] (f w.st.bays[i]))⟩ := by
  obtain ⟨x, e⟩ := coolingReport_eq i w.st.bays[i] (capFollows w.st.now w.st.bays[i] (f w.st.bays[i]))
    (setBay i (fun _ => capFollows w.st.now w.st.bays[i] (f w.st.bays[i])) w.st)
  exact ⟨x, by rw [← e]; rfl⟩

/-- Bay `i` as a change of it leaves it, with what follows inside the slot. -/
theorem modBay_bay (o : StepOrder) (i : SlotIx) (f : Bay → Bay) (w : Work) :
    (modBay o i f w).st.bays[i] = capFollows w.st.now w.st.bays[i] (f w.st.bays[i]) := by
  obtain ⟨x, e⟩ := modBay_eq o i f w
  rw [e]
  exact updAt_self ..

theorem modBay_other (o : StepOrder) {i j : SlotIx} (f : Bay → Bay) (w : Work) (n : i ≠ j) :
    (modBay o i f w).st.bays[j] = w.st.bays[j] := by
  obtain ⟨x, e⟩ := modBay_eq o i f w
  rw [e]
  exact updAt_ne _ _ _ _ n

@[simp] theorem modBay_budget (o : StepOrder) (i : SlotIx) (f : Bay → Bay) (w : Work) :
    (modBay o i f w).st.budget = w.st.budget := by
  obtain ⟨x, e⟩ := modBay_eq o i f w
  rw [e]; rfl

@[simp] theorem modBay_bus (o : StepOrder) (i : SlotIx) (f : Bay → Bay) (w : Work) :
    (modBay o i f w).st.bus = w.st.bus := by
  obtain ⟨x, e⟩ := modBay_eq o i f w
  rw [e]; rfl

@[simp] theorem modBay_stationFlags (o : StepOrder) (i : SlotIx) (f : Bay → Bay) (w : Work) :
    (modBay o i f w).st.attention.station = w.st.attention.station := by
  obtain ⟨x, e⟩ := modBay_eq o i f w
  rw [e]; rfl

theorem capFollows_seq (now : Nat) (a b : Bay) : (capFollows now a b).seq = b.seq := by
  simp only [capFollows]; split <;> rfl

theorem powerOff_moves (i : SlotIx) (c : ShutdownCause) (w : Work) : Moves w (powerOff i c w) := by
  simp only [powerOff]
  split
  · next p =>
    have m := (Move.bay w i (fun b => b.toShedOff w.st.now c) (.shedOff w.st.now c p)).moves
    split
    · refine m.trans (Move.bay _ i (fun b => b.toOff w.st.now true) (.eject w.st.now ?_)).moves
      rw [modBay_bay, capFollows_seq]
      rfl
    · exact m
  · exact .refl

theorem powerOffPass_moves (l : List SlotIx) (w : Work) (n : Nat) : Moves w (powerOffPass l (w, n)).1 := by
  induction l generalizing w n with
  | nil => exact .refl
  | cons i l ih =>
    simp only [powerOffPass]
    split
    · exact (powerOff_moves i .shed w).trans (ih _ _)
    · exact ih _ _

theorem shed_moves (n : Nat) (w : Work) : Moves w (shed n w) :=
  (capPass_moves ..).trans (powerOffPass_moves _ _ _)

theorem answerDeficit_moves (w : Work) : Moves w (answerDeficit w) :=
  (withdrawRestore_moves w).trans ((setMark_moves _ _).trans (shed_moves ..))

theorem enterDeficit_moves (w : Work) : Moves w (enterDeficit w) :=
  (Move.deficit w).moves.trans ((Move.unclaim _).moves.trans (answerDeficit_moves _))

theorem reshed_moves (w : Work) : Moves w (reshed w) := by
  simp only [reshed]
  split
  · exact setMark_moves ..
  · exact (setMark_moves _ w).trans (shed_moves ..)

theorem deficitStep_moves (w : Work) : Moves w (deficitStep w) := by
  simp only [deficitStep]
  split
  · split
    · split
      · exact .refl
      · exact (Move.deficit w).moves
    · split
      · exact reshed_moves w
      · exact enterDeficit_moves w
  · split
    · exact (Move.budget w { w.st.budget with deficit := false, shedMark := none }
        ⟨fun _ n l => ⟨n, l⟩, _, _, _, _, false, _, fun h => absurd h Bool.false_ne_true, rfl⟩).moves
    · exact .refl

theorem settleHeld_moves (i : SlotIx) (w : Work) : Moves w (settleHeld i w) := by
  simp only [settleHeld]
  split
  · exact .refl
  · split
    · next f _ c =>
      simp only [Bool.and_eq_true, beq_iff_eq] at c
      split
      · exact (Move.bay w i (fun x => x.fixFigures f) (.figures f c.1)).moves
      · exact handEntry_moves ..
    · exact .refl

theorem settlePending_moves (i : SlotIx) (w : Work) : Moves w (settlePending i w) := by
  simp only [settlePending]
  split
  · exact .refl
  · split
    · exact .refl
    · split
      · split
        · exact handEntry_moves ..
        · exact .refl
      · exact (Move.bay w i Bay.settled .settled).moves

theorem settleSlot_moves (i : SlotIx) (w : Work) : Moves w (settleSlot i w) :=
  (settleHeld_moves i w).trans (settlePending_moves ..)

theorem restoreEntry_moves (i : SlotIx) (p : Purpose) (n : Nat) (w : Work) :
    Moves w (w.map fun s => handEntry i p n { s with budget := { s.budget with restoreEntry := some i } }) :=
  (Move.budget w { w.st.budget with restoreEntry := some i } ⟨fun _ n l => ⟨n, l⟩, _, _, _, _, _, _, id, rfl⟩).moves.trans
    (handEntry_moves i p n _)

/-- A shed slot that is not in SHED_OFF is RUNNING. -/
theorem isShed_running {b : Bay} (h : b.isShed = true) (n : (b.seq.state == .shedOff) ≠ true) : b.seq.state = .running := by
  simp only [Bay.isShed, Bool.and_eq_true, Bool.or_eq_true, beq_iff_eq] at h
  rcases h.2 with ⟨r, _⟩ | ⟨⟨r, _⟩, _⟩
  · exact r
  · exact absurd (by simpa using r) n

theorem restoreVisit_moves (l : List SlotIx) (w : Work) : Moves w (restoreVisit l w) := by
  induction l generalizing w with
  | nil => exact .refl
  | cons i l ih =>
    simp only [restoreVisit]
    split
    · exact ih w
    · next c =>
      simp only [Bool.or_eq_true, Bool.not_eq_true', not_or, Bool.not_eq_false] at c
      split
      · exact (Move.budget w { w.st.budget with restoreEntry := some i } ⟨fun _ n l => ⟨n, l⟩, _, _, _, _, _, _, id, rfl⟩).moves.trans
          (handEntry_moves i _ (entryWatts w.st i) _)
      · next d =>
        split
        · exact restoreEntry_moves ..
        · exact (Move.bay w i Bay.withoutShed (.restored (isShed_running c.1 d))).moves.trans
            ((settleSlot_moves i _).trans (ih _))

theorem restorationStep_moves (w : Work) : Moves w (restorationStep w) := by
  simp only [restorationStep]
  split
  · exact restoreVisit_moves ..
  · exact .refl

theorem markBar_moves (w : Work) : Moves w (w.map markBar) := by
  cases h : w.st.budget.bar with
  | none =>
    have e : w.map markBar = w := by simp [Work.map, markBar, h]
    rw [e]
  | some b =>
    have e : w.map markBar = w.map fun s => { s with budget := (markBar w.st).budget } := by
      simp [Work.map, markBar, h]
    rw [e]
    refine (Move.budget w _ ?_).moves
    simp only [markBar, h]
    exact ⟨fun _ n l => ⟨n, l⟩, _, _, _, _, _, _, id, rfl⟩

/-- A recomputation is the computing of the figures and a run of moves. -/
theorem recompute_moves_refigured (w : Work) : Moves (w.map refigure) (recompute w) :=
  (markBar_moves _).trans ((deficitStep_moves _).trans ((restorationStep_moves _).trans (sendingCheck_moves _)))

theorem recompute_moves (w : Work) : Moves w (recompute w) :=
  (Move.refigure w).moves.trans (recompute_moves_refigured w)

theorem checkEntry_moves (i : SlotIx) (w : Work) : Moves w (checkEntry i w) := by
  simp only [checkEntry]
  split
  · split
    · exact .refl
    · exact leaveQueue_moves i w
  · exact .refl

/-! ### The reports as moves -/

/-- One step of the delivery: a report leaves the list, and the station takes it; what it sets off are moves. -/
inductive Step : Work → Work → Prop
  | move {v w : Work} (h : Move v w) : Step v w
  | charge (s : State) (i : SlotIx) (n : Nat) (l : List Report) :
      Step ⟨s, .charge i n :: l⟩ ⟨{ s with budget := { s.budget with reported := s.budget.reported.set i n } }, l⟩
  | entered (s : State) (i : SlotIx) (l : List Report) : Step ⟨s, .entered i :: l⟩ ⟨takeEntered i s, l⟩
  | left (s : State) (i : SlotIx) (l : List Report) : Step ⟨s, .left i :: l⟩ ⟨endPorts i s, l⟩
  | check (s : State) (i : SlotIx) (l : List Report) : Step ⟨s, .check i :: l⟩ ⟨s, l⟩
  | admission (s : State) (i : SlotIx) (l : List Report) : Step ⟨s, .admission i :: l⟩ ⟨s, l⟩
  | settle (s : State) (i : SlotIx) (l : List Report) : Step ⟨s, .settle i :: l⟩ ⟨s, l⟩

abbrev Steps : Work → Work → Prop := Relation.ReflTransGen Step

theorem Moves.steps {v w : Work} (m : Moves v w) : Steps v w := by
  induction m with
  | refl => exact .refl
  | tail _ k ih => exact ih.tail (.move k)

/-- What every step of the delivery keeps, a delivery keeps. -/
theorem Steps.keeps {P : Work → Prop} {v w : Work} (m : Steps v w) (h : ∀ a b, Step a b → P a → P b) (p : P v) :
    P w := by
  induction m with
  | refl => exact p
  | tail _ k ih => exact h _ _ k ih

/-- A relation that every step is in, and that composes, holds of a delivery. -/
theorem Steps.rel {R : Work → Work → Prop} {v w : Work} (m : Steps v w) (refl : ∀ a, R a a)
    (trans : ∀ a b c, R a b → R b c → R a c) (h : ∀ a b, Step a b → R a b) : R v w := by
  induction m with
  | refl => exact refl _
  | tail _ k ih => exact trans _ _ _ ih (h _ _ k)

theorem deliver_steps (r : Report) (s : State) (l : List Report) : Steps ⟨s, r :: l⟩ (deliver r ⟨s, l⟩) := by
  cases r with
  | charge i n => exact .head (.charge s i n l) (recompute_moves _).steps
  | entered i => exact .single (.entered s i l)
  | left i => exact .single (.left s i l)
  | check i => exact .head (.check s i l) (checkEntry_moves i _).steps
  | admission i =>
    refine .head (.admission s i l) ?_
    simp only [deliver]
    split
    · exact (handEntry_moves ..).steps
    · exact .refl
  | settle i => exact .head (.settle s i l) (settleSlot_moves i _).steps

theorem drain_steps (n : Nat) (w : Work) : Steps w (drain n w) := by
  induction n generalizing w with
  | zero => exact .refl
  | succ n ih =>
    obtain ⟨s, l⟩ := w
    cases l with
    | nil => exact .refl
    | cons r l => exact (deliver_steps r s l).trans (ih _)

theorem flush_steps (w : Work) : Steps w (flush w) := drain_steps _ w

end Sys2Proof.Machine
end

section
/-! PROOF. What the moves of a delivery keep: the bus port's bounds, the agreement of the switches, the covering of every
condition by its flag, and the figures (R5, R22, R107 to R110, R179, R180, section 3.2). -/

namespace Sys2Proof.Machine

/-! ### The bus port -/

/-- The bus port's bounds, as a predicate of the port alone (R5, R22). -/
def BusPort.Bounded (b : BusPort) : Prop := b.withinCapacity ∧ b.countersHold

theorem busInv_iff (s : State) : BusInv s ↔ s.bus.Bounded := ⟨fun h => ⟨h.1, h.2⟩, fun h => ⟨h.1, h.2⟩⟩

theorem satInc_le {n : Nat} (h : n ≤ Config.counterMax) : satInc n ≤ Config.counterMax := by
  simp only [satInc]; split <;> omega

/-- A port whose FIFOs are no longer and whose counters stand is bounded. -/
theorem BusPort.Bounded.of_shorter {a b : BusPort} (h : a.Bounded) (u : b.urgent.length ≤ a.urgent.length)
    (c : b.control.length ≤ a.control.length) (r : b.routine.length ≤ a.routine.length)
    (k : a.countersHold → b.countersHold) : b.Bounded :=
  ⟨⟨u.trans h.1.1, c.trans h.1.2.1, r.trans h.1.2.2⟩, k h.2⟩

theorem withinCapacity_iff (b : BusPort) : b.withinCapacity ↔ ∀ c, (b.fifo c).length ≤ fifoCapacity c := by
  constructor
  · rintro ⟨u, c, r⟩ (_ | _ | _)
    · exact u
    · exact c
    · exact r
  · exact fun h => ⟨h .urgent, h .control, h .routine⟩

theorem setFifo_fifo (b : BusPort) (c d : MsgClass) (l : List Outgoing) :
    (b.setFifo c l).fifo d = if c = d then l else b.fifo d := by
  cases c <;> cases d <;> rfl

theorem setFifo_counters {b : BusPort} {c : MsgClass} {l : List Outgoing} :
    (b.setFifo c l).countersHold ↔ b.countersHold := by cases c <;> rfl

/-- A FIFO replaced by one within its capacity. -/
theorem setFifo_bounded {b : BusPort} {c : MsgClass} {l : List Outgoing} (h : b.Bounded)
    (k : l.length ≤ fifoCapacity c) : (b.setFifo c l).Bounded := by
  refine ⟨(withinCapacity_iff _).mpr fun d => ?_, setFifo_counters.mpr h.2⟩
  rw [setFifo_fifo]
  split
  · next e => exact e ▸ k
  · exact (withinCapacity_iff b).mp h.1 d

/-- The waiting messages replaced by no more than there were. -/
theorem setWaiting_bounded {b : BusPort} {c : MsgClass} {l : List Outgoing} (h : b.Bounded)
    (k : l.length ≤ (b.waiting c).length) : (b.setWaiting c l).Bounded := by
  refine setFifo_bounded h (Nat.le_trans ?_ ((withinCapacity_iff b).mp h.1 c))
  simp only [BusPort.waiting] at k
  split
  · next e =>
    simp only [e, if_true, List.length_drop] at k
    simp only [List.length_append, List.length_take]
    omega
  · next e =>
    simpa [e] using k

theorem offer_bounded {b : BusPort} (h : b.Bounded) (m : Outgoing) (now tst : Nat) : (b.offer m now tst).Bounded := by
  simp only [BusPort.offer]
  split
  · split
    · exact setWaiting_bounded h (by simp)
    · exact h
  · split
    · next r =>
      refine setFifo_bounded (c := m.cls) (l := b.fifo m.cls ++ [m]) h ?_
      simp only [hasRoom, decide_eq_true_eq] at r
      simp only [List.length_append, List.length_singleton]
      omega
    · exact ⟨h.1, h.2.1, h.2.2.1, satInc_le h.2.2.2.1, h.2.2.2.2⟩

/-- What the bus port's bounds are kept by, as a relation of stations. -/
def KeepsBus (s t : State) : Prop := s.bus.Bounded → t.bus.Bounded

theorem KeepsBus.of_eq {s t : State} (h : t.bus = s.bus) : KeepsBus s t := fun k => h ▸ k

theorem offer_keepsBus (m : Outgoing) (s : State) : KeepsBus s (offer m s) := fun h => offer_bounded h ..

theorem offerAll_keepsBus (ms : List Outgoing) (s : State) : KeepsBus s (offerAll ms s) := by
  induction ms generalizing s with
  | nil => exact id
  | cons m ms ih => exact fun h => ih _ (offer_keepsBus m s h)

theorem withdrawQueued_keepsBus (c : MsgClass) (p : Outgoing → Bool) (s : State) :
    KeepsBus s (withdrawQueued c p s) :=
  fun h => setWaiting_bounded h (List.length_filter_le _ _)

/-! ### The switches -/

/-- The main switch of a bay is on exactly while the slot is powered, and off while a stuck check runs. -/
def Bay.Switched (b : Bay) : Prop :=
  (b.seq.gate ≠ .off ↔ b.powered = true) ∧ (b.seq.stuckTimer.isSome = true → b.seq.gate = .off)

theorem switchInv_iff (s : State) : SwitchInv s ↔ (s.run = .running → ∀ i : SlotIx, s.bays[i].Switched) := Iff.rfl

/-- Only gate, state, phase and stuck timer count. -/
theorem Bay.Switched.of_same {a b : Bay} (h : a.Switched) (g : b.seq.gate = a.seq.gate)
    (s : b.seq.state = a.seq.state) (p : b.seq.phase = a.seq.phase) (t : b.seq.stuckTimer = a.seq.stuckTimer) :
    b.Switched := by
  simpa [Bay.Switched, Bay.powered, g, s, p, t] using h

/-- A bay whose switch is off and whose state is not powered. -/
theorem Bay.Switched.of_off {b : Bay} (g : b.seq.gate = .off) (u : b.powered = false) : b.Switched :=
  ⟨⟨fun n => absurd g n, fun p => absurd p (by simp [u])⟩, fun _ => g⟩

/-- A bay whose switch is on, powered, with no stuck check. -/
theorem Bay.Switched.of_on {b : Bay} (g : b.seq.gate ≠ .off) (u : b.powered = true)
    (t : b.seq.stuckTimer = none) : b.Switched :=
  ⟨⟨fun _ => u, fun _ => g⟩, fun h => by simp [t] at h⟩

theorem Bay.Switched.gate_off {b : Bay} (h : b.Switched) (u : b.powered = false) : b.seq.gate = .off :=
  Classical.byContradiction fun g => by
    have := h.1.mp g
    simp [u] at this

theorem Bay.Switched.timer_none {b : Bay} (h : b.Switched) (u : b.powered = true) : b.seq.stuckTimer = none := by
  have g := h.1.mpr u
  cases e : b.seq.stuckTimer with
  | none => rfl
  | some d => exact absurd (h.2 (by simp [e])) g

@[simp] theorem Seq.cut_gate (q : Seq) (now : Nat) : (q.cut now).gate = .off := by
  simp only [Seq.cut]
  split
  · next h => simpa using h
  · rfl

@[simp] theorem Bay.enter_gate (b : Bay) (now : Nat) (st : SlotState) (ph : Option StopPhase) :
    (b.enter now st ph).seq.gate = b.seq.gate := rfl

@[simp] theorem Bay.enter_state (b : Bay) (now : Nat) (st : SlotState) (ph : Option StopPhase) :
    (b.enter now st ph).seq.state = st := rfl

@[simp] theorem Bay.enter_phase (b : Bay) (now : Nat) (st : SlotState) (ph : Option StopPhase) :
    (b.enter now st ph).seq.phase = ph := rfl

@[simp] theorem Bay.enter_stuckTimer (b : Bay) (now : Nat) (st : SlotState) (ph : Option StopPhase) :
    (b.enter now st ph).seq.stuckTimer = b.seq.stuckTimer := rfl

/-- An unpowered state entered with the switch off. -/
theorem enter_off_switched {b : Bay} (g : b.seq.gate = .off) (now : Nat) {st : SlotState} {ph : Option StopPhase}
    (u : poweredIn st ph = false) : (b.enter now st ph).Switched := .of_off g u

theorem toOff_switched {b : Bay} (g : b.seq.gate = .off) (now : Nat) (hold : Bool) : (b.toOff now hold).Switched :=
  .of_off g rfl

theorem BayMove.switched {b c : Bay} (m : BayMove b c) (h : b.Switched) : c.Switched := by
  cases m with
  | capped n _ => exact h.of_same rfl rfl rfl rfl
  | shedOff now c _ => exact .of_off (Seq.cut_gate ..) rfl
  | eject now e => exact toOff_switched (h.gate_off (by simp [Bay.powered, poweredIn, e])) ..
  | figures f _ => exact h.of_same rfl rfl rfl rfl
  | settled =>
    simp only [Bay.settled]
    split
    · exact h.of_same rfl rfl rfl rfl
    · exact h
  | restored _ => exact h.of_same rfl rfl rfl rfl

/-- Every slot's switch agrees with its state. -/
def KeepsSwitches (s t : State) : Prop := (∀ i : SlotIx, s.bays[i].Switched) → ∀ i : SlotIx, t.bays[i].Switched

theorem KeepsSwitches.of_eq {s t : State} (h : t.bays = s.bays) : KeepsSwitches s t := fun k => h ▸ k

/-- One bay changed, its switch agreeing with its state afterwards. -/
theorem setBay_keepsSwitches {i : SlotIx} {f : Bay → Bay} {s : State} (h : s.bays[i].Switched → (f s.bays[i]).Switched) :
    KeepsSwitches s (setBay i f s) := fun k j => by
  simp only [setBay_bays, updAt_get]
  split
  · exact h (k i)
  · exact k j

theorem modBay_keepsSwitches {o : StepOrder} {i : SlotIx} {f : Bay → Bay} {w : Work}
    (h : w.st.bays[i].Switched → (f w.st.bays[i]).Switched) : KeepsSwitches w.st (modBay o i f w).st := fun k j => by
  by_cases e : i = j
  · subst e
    rw [modBay_bay]
    have q := capFollows_seq w.st.now w.st.bays[i] (f w.st.bays[i])
    exact (h (k i)).of_same (by rw [q]) (by rw [q]) (by rw [q]) (by rw [q])
  · rw [modBay_other _ _ _ e]
    exact k j

/-! ### The flags -/

/-- The conditions of the station's causes; with `x` false the one of the fan channels is left out. -/
def conditionsBut (x : Bool) (s : State) : StationFlags := { stationConditions s with fanFailed := x && anyFanFailed s }

/-- Every cause whose condition holds has its flag set (R179, R180), the fan channels' left out where `x` is false: an
update instant handles a FAILED channel's other effects before it raises the cause (R151, R154). -/
def FlagsCover (x : Bool) (s : State) : Prop :=
  (∀ i : SlotIx, (slotConditions s.bays[i]).grows s.attention.slots[i]) ∧ (conditionsBut x s).grows s.attention.station

theorem conditionsBut_true (s : State) : conditionsBut true s = stationConditions s := by
  simp only [conditionsBut, Bool.true_and]
  rfl

theorem SlotFlags.grows_refl (a : SlotFlags) : a.grows a := ⟨id, id, id⟩

theorem SlotFlags.grows_trans {a b c : SlotFlags} (h : a.grows b) (k : b.grows c) : a.grows c :=
  ⟨fun e => k.1 (h.1 e), fun e => k.2.1 (h.2.1 e), fun e => k.2.2 (h.2.2 e)⟩

theorem StationFlags.grows_refl (a : StationFlags) : a.grows a := ⟨id, id, id, id, id, id⟩

theorem StationFlags.grows_trans {a b c : StationFlags} (h : a.grows b) (k : b.grows c) : a.grows c :=
  ⟨fun e => k.1 (h.1 e), fun e => k.2.1 (h.2.1 e), fun e => k.2.2.1 (h.2.2.1 e), fun e => k.2.2.2.1 (h.2.2.2.1 e),
    fun e => k.2.2.2.2.1 (h.2.2.2.2.1 e), fun e => k.2.2.2.2.2 (h.2.2.2.2.2 e)⟩

def KeepsFlags (s t : State) : Prop := ∀ x, FlagsCover x s → FlagsCover x t

theorem conditionsBut_grows (x : Bool) {s t : State} (c : (stationConditions t).grows (stationConditions s)) :
    (conditionsBut x t).grows (conditionsBut x s) := by
  obtain ⟨d, r, f, m, sd, b⟩ := c
  refine ⟨d, r, fun h => ?_, m, sd, b⟩
  simp only [conditionsBut, Bool.and_eq_true] at h ⊢
  exact ⟨h.1, f h.2⟩

/-- No condition that did not hold before, and no flag cleared. -/
theorem KeepsFlags.of_conditions {s t : State} (b : ∀ i : SlotIx, (slotConditions t.bays[i]).grows (slotConditions s.bays[i]))
    (c : (stationConditions t).grows (stationConditions s)) (a : s.attention.grows t.attention) : KeepsFlags s t :=
  fun x h => ⟨fun i => SlotFlags.grows_trans (b i) (SlotFlags.grows_trans (h.1 i) (a.1 i)),
    StationFlags.grows_trans (conditionsBut_grows x c) (StationFlags.grows_trans h.2 a.2)⟩

theorem anyFanFailed_congr {s t : State} (st : t.settings = s.settings)
    (f : ∀ c : ChanIx, t.cooling.fans[c].health = s.cooling.fans[c].health) : anyFanFailed t = anyFanFailed s := by
  have f0 : t.cooling.fans[0].health = s.cooling.fans[0].health := f 0
  have f1 : t.cooling.fans[1].health = s.cooling.fans[1].health := f 1
  simp only [anyFanFailed, st, f0, f1]

/-- The parts of the station that the six station conditions read. -/
structure SameConditions (s t : State) : Prop where
  settings : t.settings = s.settings
  fans : ∀ c : ChanIx, t.cooling.fans[c].health = s.cooling.fans[c].health
  peers : t.peers = s.peers
  foreign : t.bus.foreignUntil = s.bus.foreignUntil
  defaults : t.startDefaults = s.startDefaults
  busFaults : t.bus.busFaults = s.bus.busFaults

theorem CoolingKept.health {a b : Cooling} (h : CoolingKept a b) (c : ChanIx) : b.fans[c].health = a.fans[c].health := by
  obtain ⟨x, e⟩ := h.fans c
  rw [e]

theorem Kept.sameConditions {s t : State} (k : Kept s t) : SameConditions s t :=
  ⟨k.settings, k.cooling.health, k.peers, k.bus.foreignUntil, k.startDefaults, k.bus.busFaults⟩

theorem SameConditions.grows {s t : State} (k : SameConditions s t)
    (d : t.budget.deficit = true → s.budget.deficit = true)
    (r : t.budget.redundancyLost = true → s.budget.redundancyLost = true) :
    (stationConditions t).grows (stationConditions s) := by
  refine ⟨d, r, ?_, ?_, ?_, ?_⟩
  · simp [stationConditions, anyFanFailed_congr k.settings k.fans]
  · simp [stationConditions, k.peers, k.foreign]
  · simp [stationConditions, k.defaults]
  · simp [stationConditions, k.busFaults]

/-- The bays alone are changed, or what no condition reads, and the flags stand. -/
theorem KeepsFlags.of_same {s t : State} (b : ∀ i : SlotIx, slotConditions t.bays[i] = slotConditions s.bays[i])
    (k : SameConditions s t) (d : t.budget.deficit = true → s.budget.deficit = true)
    (r : t.budget.redundancyLost = true → s.budget.redundancyLost = true) (a : t.attention = s.attention) :
    KeepsFlags s t :=
  .of_conditions (fun i => by rw [b i]; exact SlotFlags.grows_refl _) (k.grows d r) (by rw [a]; exact Attention.grows_refl _)

/-- A change that no condition reads and that leaves flags and bays. -/
theorem KeepsFlags.of_kept {s t : State} (k : Kept s t) (b : t.bays = s.bays)
    (d : t.budget.deficit = true → s.budget.deficit = true)
    (r : t.budget.redundancyLost = true → s.budget.redundancyLost = true) (a : t.attention = s.attention) :
    KeepsFlags s t := .of_same (fun i => by rw [b]) k.sameConditions d r a

/-- A raised station cause, for a condition that has come to hold with it. -/
theorem raiseStation_keepsFlags {s t : State} {f : StationFlags → StationFlags} (b : t.bays = s.bays)
    (a : t.attention = s.attention) (c : ∀ y x, (conditionsBut y s).grows x → (conditionsBut y t).grows (f x)) :
    KeepsFlags s (raiseStation f t) := fun y h =>
  ⟨fun i => by simpa [raiseStation, a, b] using h.1 i, by
    have e : conditionsBut y (raiseStation f t) = conditionsBut y t := rfl
    rw [e]
    simpa [raiseStation, a] using c _ _ h.2⟩

theorem modBay_keepsFlags (o : StepOrder) (i : SlotIx) (f : Bay → Bay) (w : Work) :
    KeepsFlags w.st (modBay o i f w).st := by
  obtain ⟨x, e⟩ := modBay_eq o i f w
  let after := capFollows w.st.now w.st.bays[i] (f w.st.bays[i])
  have k := (coolingReport_kept i w.st.bays[i] after (setBay i (fun _ => after) w.st)).cooling.health
  have same : SameConditions w.st (modBay o i f w).st :=
    ⟨by rw [e]; rfl, k, by rw [e]; rfl, by rw [e]; rfl, by rw [e]; rfl, by rw [e]; rfl⟩
  have grown := same.grows (by simp) (by simp)
  refine fun y h => ⟨fun j => ?_,
    modBay_stationFlags o i f w ▸ StationFlags.grows_trans (conditionsBut_grows y grown) h.2⟩
  by_cases n : i = j
  · subst n
    have slot : (modBay o i f w).st.attention.slots[i] =
        ⟨w.st.attention.slots[i].latched || ((slotConditions after).latched && !(slotConditions w.st.bays[i]).latched),
          w.st.attention.slots[i].stuck || ((slotConditions after).stuck && !(slotConditions w.st.bays[i]).stuck),
          w.st.attention.slots[i].noncompliant ||
            ((slotConditions after).noncompliant && !(slotConditions w.st.bays[i]).noncompliant)⟩ := by
      rw [e]
      exact updAt_self ..
    rw [modBay_bay, slot]
    obtain ⟨hl, hs, hn⟩ := h.1 i
    refine ⟨fun c => ?_, fun c => ?_, fun c => ?_⟩
    · cases v : (slotConditions w.st.bays[i]).latched <;> simp_all [after]
    · cases v : (slotConditions w.st.bays[i]).stuck <;> simp_all [after]
    · cases v : (slotConditions w.st.bays[i]).noncompliant <;> simp_all [after]
  · have slot : (modBay o i f w).st.attention.slots[j] = w.st.attention.slots[j] := by
      rw [e]
      exact updAt_ne _ _ _ _ n
    rw [modBay_other _ _ _ n, slot]
    exact h.1 j

end Sys2Proof.Machine
end

section
/-! PROOF. What every delivery keeps: the moves of P02 one by one, the figures of the budget unit, and the charges told to it
(R66, R107 to R111). -/

namespace Sys2Proof.Machine

/-! ### One relation for the invariants -/

/-- What no command but a reset changes. -/
structure Fixed (s t : State) : Prop where
  pending : t.pending = s.pending
  now : t.now = s.now
  run : t.run = s.run
  address : t.address = s.address
  settings : t.settings = s.settings
  startDefaults : t.startDefaults = s.startDefaults
  self : t.self = s.self

theorem Fixed.refl (s : State) : Fixed s s := ⟨rfl, rfl, rfl, rfl, rfl, rfl, rfl⟩

theorem Fixed.trans {s t u : State} (h : Fixed s t) (k : Fixed t u) : Fixed s u :=
  ⟨k.1.trans h.1, k.2.trans h.2, k.3.trans h.3, k.4.trans h.4, k.5.trans h.5, k.6.trans h.6, k.7.trans h.7⟩

theorem Kept.fixed {s t : State} (k : Kept s t) : Fixed s t :=
  ⟨k.pending, k.now, k.run, k.address, k.settings, k.startDefaults, k.self⟩

/-- What the invariants of every step need of a part of a command. With `m` the part also clears no flag; an ORDER may. -/
structure Keeps (m : Bool) (s t : State) : Prop where
  fixed : Fixed s t
  bus : KeepsBus s t
  switches : KeepsSwitches s t
  flags : KeepsFlags s t
  grows : m = true → s.attention.grows t.attention

theorem Keeps.refl (m : Bool) (s : State) : Keeps m s s := ⟨Fixed.refl s, id, id, fun _ => id, fun _ => Attention.grows_refl _⟩

theorem Keeps.trans {m : Bool} {s t u : State} (h : Keeps m s t) (k : Keeps m t u) : Keeps m s u where
  fixed := h.fixed.trans k.fixed
  bus := fun b => k.bus (h.bus b)
  switches := fun b => k.switches (h.switches b)
  flags := fun x b => k.flags x (h.flags x b)
  grows := fun e => Attention.grows_trans (h.grows e) (k.grows e)

theorem Keeps.weaken {m : Bool} {s t : State} (h : Keeps true s t) : Keeps m s t :=
  { h with grows := fun _ => h.grows rfl }

theorem Keeps.of_kept {s t : State} (k : Kept s t) (b : KeepsBus s t) (w : KeepsSwitches s t) (f : KeepsFlags s t)
    (g : s.attention.grows t.attention) : Keeps true s t := ⟨k.fixed, b, w, f, fun _ => g⟩

/-- A change that neither bays nor bus port, flags nor conditions show. -/
theorem Keeps.of_plain {s t : State} (k : Kept s t) (bus : t.bus = s.bus) (bays : t.bays = s.bays)
    (a : t.attention = s.attention) (d : t.budget.deficit = true → s.budget.deficit = true)
    (r : t.budget.redundancyLost = true → s.budget.redundancyLost = true) : Keeps true s t :=
  .of_kept k (.of_eq bus) (.of_eq bays) (.of_kept k bays d r a) (a ▸ Attention.grows_refl _)

/-- An offer or a withdrawal of the bus port. -/
theorem Keeps.of_bus {s : State} {b : BusPort} (k : KeepsBus s { s with bus := b }) (f : b.foreignUntil = s.bus.foreignUntil)
    (x : b.busFaults = s.bus.busFaults) : Keeps true s { s with bus := b } :=
  ⟨⟨rfl, rfl, rfl, rfl, rfl, rfl, rfl⟩, k, .of_eq rfl,
    .of_same (fun _ => rfl) ⟨rfl, fun _ => rfl, rfl, f, rfl, x⟩ id id rfl, fun _ => Attention.grows_refl _⟩

theorem offer_conditions (b : BusPort) (m : Outgoing) (now tst : Nat) :
    (b.offer m now tst).foreignUntil = b.foreignUntil ∧ (b.offer m now tst).busFaults = b.busFaults := by
  have set (c : MsgClass) (l : List Outgoing) :
      (b.setFifo c l).foreignUntil = b.foreignUntil ∧ (b.setFifo c l).busFaults = b.busFaults := by
    cases c <;> exact ⟨rfl, rfl⟩
  simp only [BusPort.offer]
  split
  · split
    · exact set ..
    · exact ⟨rfl, rfl⟩
  · split
    · exact set m.cls _
    · exact ⟨rfl, rfl⟩

theorem offer_keeps (m : Outgoing) (s : State) : Keeps true s (offer m s) :=
  .of_bus (offer_keepsBus m s) (offer_conditions ..).1 (offer_conditions ..).2

theorem offerAll_keeps (ms : List Outgoing) (s : State) : Keeps true s (offerAll ms s) := by
  induction ms generalizing s with
  | nil => exact .refl ..
  | cons m ms ih => exact (offer_keeps m s).trans (ih _)

theorem withdrawQueued_keeps (c : MsgClass) (p : Outgoing → Bool) (s : State) : Keeps true s (withdrawQueued c p s) :=
  .of_bus (withdrawQueued_keepsBus c p s) (by cases c <;> rfl) (by cases c <;> rfl)

/-- A bay changed in what neither its switch nor its causes show. -/
theorem setBay_keeps {i : SlotIx} {f : Bay → Bay} {s : State} (h : s.bays[i].Switched → (f s.bays[i]).Switched)
    (c : slotConditions (f s.bays[i]) = slotConditions s.bays[i]) : Keeps true s (setBay i f s) where
  fixed := ⟨rfl, rfl, rfl, rfl, rfl, rfl, rfl⟩
  bus := .of_eq rfl
  switches := setBay_keepsSwitches h
  flags := .of_same (fun j => by
      simp only [setBay_bays, updAt_get]
      split
      · next e => subst e; exact c
      · rfl) ⟨rfl, fun _ => rfl, rfl, rfl, rfl, rfl⟩ id id rfl
  grows := fun _ => Attention.grows_refl _

theorem setPort_keeps (i : SlotIx) (p : PortIx) (f : PortRec → PortRec) (s : State) : Keeps true s (setPort i p f s) :=
  setBay_keeps (fun h => h.of_same rfl rfl rfl rfl) rfl

theorem raiseSlot_grows (i : SlotIx) {f : SlotFlags → SlotFlags} (h : ∀ x : SlotFlags, x.grows (f x)) (s : State) :
    s.attention.grows (raiseSlot i f s).attention :=
  ⟨fun j => by
    simp only [raiseSlot_attention, updAt_get]
    split
    · next e => subst e; exact h _
    · exact SlotFlags.grows_refl _, StationFlags.grows_refl _⟩

theorem raiseStation_grows {f : StationFlags → StationFlags} (h : ∀ x : StationFlags, x.grows (f x)) {s t : State}
    (a : t.attention = s.attention) : s.attention.grows (raiseStation f t).attention :=
  ⟨fun i => by rw [← a]; exact SlotFlags.grows_refl _, by rw [← a]; exact h _⟩

theorem modBay_keeps {o : StepOrder} {i : SlotIx} {f : Bay → Bay} {w : Work}
    (h : w.st.bays[i].Switched → (f w.st.bays[i]).Switched) : Keeps true w.st (modBay o i f w).st where
  fixed := by
    obtain ⟨x, e⟩ := modBay_eq o i f w
    rw [e]
    exact ⟨rfl, rfl, rfl, rfl, rfl, rfl, rfl⟩
  bus := .of_eq (modBay_bus ..)
  switches := modBay_keepsSwitches h
  flags := modBay_keepsFlags o i f w
  grows := fun _ => by
    obtain ⟨x, e⟩ := modBay_eq o i f w
    rw [e]
    exact raiseSlot_grows i (fun x => ⟨fun e => by simp [e], fun e => by simp [e], fun e => by simp [e]⟩) w.st

/-! ### The moves -/

theorem refigure_keepsFlags (s : State) : KeepsFlags s (refigure s) := by
  have k := (refigure_kept s).sameConditions
  simp only [refigure] at k ⊢
  split
  · refine raiseStation_keepsFlags rfl rfl fun _ _ h => ?_
    obtain ⟨d, _, f, c, sd, b⟩ := h
    exact ⟨d, fun _ => rfl, f, c, sd, b⟩
  · next n =>
    refine .of_same (fun _ => rfl) ⟨rfl, fun _ => rfl, rfl, rfl, rfl, rfl⟩ id (fun e => ?_) rfl
    simp only [Bool.and_eq_true, Bool.not_eq_true', not_and, Bool.not_eq_false] at n
    exact n e

theorem refigure_keeps (s : State) : Keeps true s (refigure s) :=
  .of_kept (refigure_kept s) (.of_eq (by simp only [refigure]; split <;> rfl))
    (.of_eq (by simp only [refigure]; split <;> rfl)) (refigure_keepsFlags s) (by
      simp only [refigure]
      split
      · exact raiseStation_grows (f := fun f => { f with redundancyLost := true })
          (fun _ => ⟨id, fun _ => rfl, id, id, id, id⟩) rfl
      · exact Attention.grows_refl _)

theorem edited_keeps {s : State} {b : Budget} (h : s.budget.Edited b) : Keeps true s { s with budget := b } := by
  obtain ⟨-, q, n, r, x, d, m, hd, rfl⟩ := h
  exact .of_plain (kept_of_budget rfl rfl fun _ => rfl) rfl rfl rfl hd id

theorem offerClaim_keeps (e : Entry) {s : State} (n : s.budget.own.state = .none) : Keeps true s (offerClaim e s) := by
  have k := offer_keeps (.claim e.watts e.slot e.purpose.kind) s
  simp only [offerClaim]
  split
  · exact k.trans (.of_plain (kept_of_budget rfl rfl fun o => by
      simp only [offer_budget, n] at o; rcases o with o | o <;> cases o) rfl rfl rfl id id)
  · exact k.trans (.of_plain (kept_of_budget rfl rfl fun _ => rfl) rfl rfl rfl id id)

theorem withdrawClaim_keeps (s : State) : Keeps true s (withdrawClaim s) := by
  simp only [withdrawClaim]
  split
  · next q =>
    simp only [beq_iff_eq] at q
    exact (withdrawQueued_keeps .control isClaim s).trans (.of_plain (kept_of_budget rfl rfl fun o => by
      simp only [withdrawQueued_budget, q] at o; rcases o with o | o <;> cases o) rfl rfl rfl id id)
  · exact .refl ..

theorem setDeficit_keeps (s : State) : Keeps true s (setDeficit s) :=
  .of_kept (setDeficit_kept s) (.of_eq rfl) (.of_eq rfl) (raiseStation_keepsFlags rfl rfl fun _ _ h => by
    obtain ⟨_, r, f, c, sd, b⟩ := h
    exact ⟨fun _ => rfl, r, f, c, sd, b⟩) (raiseStation_grows
      (f := fun f => { f with deficit := true }) (fun _ => ⟨fun _ => rfl, id, id, id, id, id⟩) rfl)

theorem Move.keepsAll {v w : Work} (m : Move v w) : Keeps true v.st w.st := by
  cases m with
  | refigure => exact refigure_keeps _
  | budget b h => exact edited_keeps h
  | claim e h => exact offerClaim_keeps e h
  | unclaim => exact withdrawClaim_keeps _
  | deficit => exact setDeficit_keeps _
  | bay i f h => exact modBay_keeps h.switched
  | settle i => exact .refl ..

theorem Moves.keepsAll {v w : Work} (m : Moves v w) : Keeps true v.st w.st :=
  m.rel (fun _ => .refl ..) (fun _ _ _ => .trans) fun _ _ => Move.keepsAll

/-! ### The trunk unit's part -/

theorem clearTag_keeps (t : Serial) (s : State) : Keeps true s (clearTag t s) where
  fixed := ⟨rfl, rfl, rfl, rfl, rfl, rfl, rfl⟩
  bus := .of_eq rfl
  switches := fun h i => by
    simp only [clearTag, Fin.getElem_fin, Vector.getElem_ofFn]
    exact (h i).of_same rfl rfl rfl rfl
  flags := .of_same (fun i => by simp only [clearTag, Fin.getElem_fin, Vector.getElem_ofFn]; rfl)
    ⟨rfl, fun _ => rfl, rfl, rfl, rfl, rfl⟩ id id rfl
  grows := fun _ => Attention.grows_refl _

theorem newBid_keeps (i : SlotIx) (p : PortIx) (n : Need) (m : ModuleIx) (a : Addr) (s : State) :
    Keeps true s (newBid i p n m a s) := by
  simp only [newBid]
  refine Keeps.trans ?_ (offer_keeps ..)
  refine Keeps.trans ?_ (setPort_keeps ..)
  exact (clearTag_keeps (nextTag s i p 16 s.tagCounter) s).trans
    (.of_plain (tagCounter_kept (nextTag s i p 16 s.tagCounter + 1) _) rfl rfl rfl id id)

theorem placePort_keeps (i : SlotIx) (p : PortIx) (s : State) : Keeps true s (placePort i p s) := by
  simp only [placePort]
  split
  · split
    · exact newBid_keeps ..
    · exact setPort_keeps ..
  · exact .refl ..

theorem foldl_keeps {α : Type} {m : Bool} {f : State → α → State} (h : ∀ s x, Keeps m s (f s x)) (l : List α)
    (s : State) : Keeps m s (l.foldl f s) := by
  induction l generalizing s with
  | nil => exact .refl ..
  | cons x l ih => exact (h s x).trans (ih _)

theorem startPorts_keeps (i : SlotIx) (s : State) : Keeps true s (startPorts i s) :=
  foldl_keeps (fun s p => (setPort_keeps i p _ s).trans (placePort_keeps ..)) _ s

theorem takeNeeds_keeps (i : SlotIx) (s : State) : Keeps true s (takeNeeds i s) :=
  setBay_keeps (fun h => h.of_same rfl rfl rfl rfl) rfl

theorem takeEntered_keeps (i : SlotIx) (s : State) : Keeps true s (takeEntered i s) := by
  simp only [takeEntered]
  split
  · split
    · exact (takeNeeds_keeps i s).trans (startPorts_keeps ..)
    · exact takeNeeds_keeps i s
  · exact .refl ..

theorem endPort_keeps (i : SlotIx) (s : State) (p : PortIx) : Keeps true s (endPort i s p) := by
  simp only [endPort]
  refine Keeps.trans ?_ (setPort_keeps ..)
  refine (withdrawQueued_keeps .control (isBidOf i p) s).trans ?_
  split
  · exact offerAll_keeps ..
  · exact .refl ..

theorem endPorts_keeps (i : SlotIx) (s : State) : Keeps true s (endPorts i s) := foldl_keeps (endPort_keeps i) _ s

theorem reported_keeps (r : Vector Nat 4) (s : State) :
    Keeps true s { s with budget := { s.budget with reported := r } } :=
  .of_plain (kept_of_budget rfl rfl fun _ => rfl) rfl rfl rfl id id

theorem Step.keepsAll {v w : Work} (m : Step v w) : Keeps true v.st w.st := by
  cases m with
  | move h => exact h.keepsAll
  | charge s i n l => exact reported_keeps ..
  | entered s i l => exact takeEntered_keeps ..
  | left s i l => exact endPorts_keeps ..
  | check => exact .refl ..
  | admission => exact .refl ..
  | settle => exact .refl ..

theorem Steps.keepsAll {v w : Work} (m : Steps v w) : Keeps true v.st w.st :=
  m.rel (fun _ => .refl ..) (fun _ _ _ => .trans) fun _ _ => Step.keepsAll

theorem flush_keeps (w : Work) : Keeps true w.st (flush w).st := (flush_steps w).keepsAll

theorem recompute_keeps (w : Work) : Keeps true w.st (recompute w).st := (recompute_moves w).keepsAll

/-! ### The figures -/

/-- What the figures are computed from. -/
structure SameInputs (s t : State) : Prop where
  settings : t.settings = s.settings
  counted : counts t = counts s
  fans : chassisFans t = chassisFans s
  admission : admissionCharges t = admissionCharges s
  supply : supplyCharges t = supplyCharges s

/-- What the budget record holds of the figures. -/
structure SameFigures (a b : Budget) : Prop where
  base : b.base = a.base
  redundancyLost : b.redundancyLost = a.redundancyLost
  failedFans : b.failedFans = a.failedFans
  factor : b.factor = a.factor
  coolingDegraded : b.coolingDegraded = a.coolingDegraded
  usable : b.usable = a.usable
  committed : b.committed = a.committed
  reported : b.reported = a.reported
  ha : b.ha = a.ha
  hs : b.hs = a.hs

theorem SameFigures.refl (a : Budget) : SameFigures a a := ⟨rfl, rfl, rfl, rfl, rfl, rfl, rfl, rfl, rfl, rfl⟩

theorem SameFigures.trans {a b c : Budget} (h : SameFigures a b) (k : SameFigures b c) : SameFigures a c :=
  ⟨k.1.trans h.1, k.2.trans h.2, k.3.trans h.3, k.4.trans h.4, k.5.trans h.5, k.6.trans h.6, k.7.trans h.7,
    k.8.trans h.8, k.9.trans h.9, k.10.trans h.10⟩

/-- The figures follow inputs and reported charges alone. -/
theorem FiguresInv.of_same {s t : State} (k : SameInputs s t) (f : SameFigures s.budget t.budget) (h : FiguresInv s) :
    FiguresInv t where
  base := by rw [f.base, k.settings, k.counted]; exact h.base
  redundancyLost := by rw [f.redundancyLost, k.settings, k.counted]; exact h.redundancyLost
  failedFans := by rw [f.failedFans, k.fans]; exact h.failedFans
  factor := by rw [f.factor, f.failedFans]; exact h.factor
  coolingDegraded := by rw [f.coolingDegraded, f.factor]; exact h.coolingDegraded
  usable := by rw [f.usable, f.base, f.factor]; exact h.usable
  committed := by rw [f.committed, f.reported]; exact h.committed
  ha := by rw [f.ha, f.usable, k.settings, k.admission, f.committed]; exact h.ha
  hs := by rw [f.hs, f.usable, k.supply, f.committed]; exact h.hs

/-- The own fan health list, by settings and health. -/
theorem ownFans_congr {s t : State} (st : t.settings = s.settings)
    (f : ∀ c : ChanIx, t.cooling.fans[c].health = s.cooling.fans[c].health) : ownFans t = ownFans s := by
  have g : fanFitted t = fanFitted s := by funext c; simp only [fanFitted, st]
  simp only [ownFans, g]
  exact List.map_congr_left fun c _ => by rw [st, f c]

theorem peerList_congr {s t : State} (a : t.address = s.address) (p : t.peers = s.peers) : peerList t = peerList s := by
  simp only [peerList, a, p]

/-- Stations that agree in address, settings, peers, supply channels and fan health compute the same figures. -/
theorem SameInputs.of_parts {s t : State} (a : t.address = s.address) (st : t.settings = s.settings)
    (p : t.peers = s.peers) (c : ∀ c : ChanIx, t.supplies[c].state = s.supplies[c].state)
    (f : ∀ c : ChanIx, t.cooling.fans[c].health = s.cooling.fans[c].health) : SameInputs s t where
  settings := st
  counted := by
    have g : supplyFitted t = supplyFitted s := by funext c; simp only [supplyFitted, st]
    simp only [counts, ownRecords, g, peerList_congr a p, List.map_append, List.map_map]
    congr 1
    exact List.map_congr_left fun x _ => by simp only [Function.comp, ownRecord, st, c x]
  fans := by simp only [chassisFans, ownFans_congr st f, peerList_congr a p]
  admission := by simp only [admissionCharges, peerList_congr a p]
  supply := by simp only [supplyCharges, peerList_congr a p]

theorem Kept.sameInputs {s t : State} (k : Kept s t) : SameInputs s t :=
  .of_parts k.address k.settings k.peers (fun c => by rw [k.supplies]) k.cooling.health

/-- Steps 1 and 2 of a recomputation make the figures those of the station (R111). -/
theorem refigure_figures (s : State) : FiguresInv (refigure s) := by
  have k := (refigure_kept s).sameInputs
  have b : (refigure s).budget = { s.budget with
      base := (baseOf s.settings.constants.mode (counts s)).1
      failedFans := largestFailed (chassisFans s)
      factor := coolingFactor (largestFailed (chassisFans s))
      usable := usableOf (baseOf s.settings.constants.mode (counts s)).1 (coolingFactor (largestFailed (chassisFans s)))
      committed := ownCommitted s.budget
      ha := (usableOf (baseOf s.settings.constants.mode (counts s)).1
        (coolingFactor (largestFailed (chassisFans s))) : Int) - s.settings.constants.guardBand - admissionCharges s -
          ownCommitted s.budget
      hs := (usableOf (baseOf s.settings.constants.mode (counts s)).1
        (coolingFactor (largestFailed (chassisFans s))) : Int) - supplyCharges s - ownCommitted s.budget
      redundancyLost := (baseOf s.settings.constants.mode (counts s)).2
      coolingDegraded := coolingFactor (largestFailed (chassisFans s)) < 16, blocked := [] } := by
    unfold refigure
    dsimp only
    split <;> rfl
  constructor
  case failedFans => rw [k.fans, b]
  case coolingDegraded => rw [b]
  all_goals simp only [k.settings, k.counted, k.admission, k.supply, b, coolingFactor, usableOf, ownCommitted]

theorem modBay_inputs (o : StepOrder) (i : SlotIx) (f : Bay → Bay) (w : Work) : SameInputs w.st (modBay o i f w).st := by
  obtain ⟨x, e⟩ := modBay_eq o i f w
  refine .of_parts ?_ ?_ ?_ ?_ (coolingReport_kept i _ _ (setBay i _ w.st)).cooling.health
  · rw [e]; rfl
  · rw [e]; rfl
  · rw [e]; rfl
  · rw [e]; exact fun _ => rfl

theorem Move.figures {v w : Work} (m : Move v w) (h : FiguresInv v.st) : FiguresInv w.st := by
  cases m with
  | refigure => exact refigure_figures _
  | budget b e =>
    obtain ⟨-, q, n, r, x, d, m, hd, rfl⟩ := e
    exact h.of_same (Kept.sameInputs (kept_of_budget rfl rfl fun _ => rfl)) ⟨rfl, rfl, rfl, rfl, rfl, rfl, rfl, rfl, rfl, rfl⟩
  | claim e n =>
    refine h.of_same (offerClaim_kept e n).sameInputs ?_
    simp only [map_st, offerClaim]
    split <;> exact ⟨rfl, rfl, rfl, rfl, rfl, rfl, rfl, rfl, rfl, rfl⟩
  | unclaim =>
    refine h.of_same (withdrawClaim_kept _).sameInputs ?_
    simp only [map_st, withdrawClaim]
    split <;> exact ⟨rfl, rfl, rfl, rfl, rfl, rfl, rfl, rfl, rfl, rfl⟩
  | deficit => exact h.of_same (setDeficit_kept _).sameInputs ⟨rfl, rfl, rfl, rfl, rfl, rfl, rfl, rfl, rfl, rfl⟩
  | bay i f _ => exact h.of_same (modBay_inputs ..) (by rw [modBay_budget]; exact .refl _)
  | settle i => exact h

theorem Moves.figures {v w : Work} (m : Moves v w) (h : FiguresInv v.st) : FiguresInv w.st :=
  m.keeps (fun _ _ => Move.figures) h

/-- A recomputation makes the figures those of the station, whatever they were. -/
theorem recompute_figures (w : Work) : FiguresInv (recompute w).st :=
  (recompute_moves_refigured w).figures (refigure_figures w.st)

/-- What `Kept` allows, with the budget record standing. -/
theorem FiguresInv.of_kept {s t : State} (k : Kept s t) (b : t.budget = s.budget) (h : FiguresInv s) : FiguresInv t :=
  h.of_same k.sameInputs (b ▸ .refl _)

theorem foldl_budget {α : Type} {f : State → α → State} (h : ∀ s x, (f s x).budget = s.budget) (l : List α) (s : State) :
    (l.foldl f s).budget = s.budget := by
  induction l generalizing s with
  | nil => rfl
  | cons x l ih => exact (ih _).trans (h s x)

theorem offerAll_budget (ms : List Outgoing) (s : State) : (offerAll ms s).budget = s.budget :=
  foldl_budget (f := fun t m => offer m t) (fun _ _ => rfl) ms s

theorem placePort_budget (i : SlotIx) (p : PortIx) (s : State) : (placePort i p s).budget = s.budget := by
  simp only [placePort]
  split
  · split <;> rfl
  · rfl

theorem startPorts_budget (i : SlotIx) (s : State) : (startPorts i s).budget = s.budget :=
  foldl_budget (fun s p => by
    simp only [startPort, placePort_budget]
    rfl) _ s

theorem takeEntered_budget (i : SlotIx) (s : State) : (takeEntered i s).budget = s.budget := by
  simp only [takeEntered]
  split
  · split
    · exact startPorts_budget ..
    · rfl
  · rfl

theorem endPort_budget (i : SlotIx) (s : State) (p : PortIx) : (endPort i s p).budget = s.budget := by
  simp only [endPort]
  split
  · exact offerAll_budget ..
  · rfl

theorem endPorts_budget (i : SlotIx) (s : State) : (endPorts i s).budget = s.budget := foldl_budget (endPort_budget i) _ s

theorem deliver_figures (r : Report) (w : Work) (h : FiguresInv w.st) : FiguresInv (deliver r w).st := by
  cases r with
  | charge i n => exact recompute_figures _
  | entered i => exact h.of_kept (takeEntered_kept ..) (takeEntered_budget ..)
  | left i => exact h.of_kept (endPorts_kept ..) (endPorts_budget ..)
  | check i => exact (checkEntry_moves i w).figures h
  | admission i =>
    simp only [deliver]
    split
    · exact (handEntry_moves ..).figures h
    · exact h
  | settle i => exact (settleSlot_moves i w).figures h

theorem drain_figures (n : Nat) (w : Work) (h : FiguresInv w.st) : FiguresInv (drain n w).st := by
  induction n generalizing w with
  | zero => exact h
  | succ n ih =>
    simp only [drain]
    split
    · exact h
    · exact ih _ (deliver_figures _ _ h)

theorem flush_figures (w : Work) (h : FiguresInv w.st) : FiguresInv (flush w).st := drain_figures _ w h

end Sys2Proof.Machine
end

section
/-! PROOF. The charges told to the budget unit (R66): a change of a slot reports the charge it leaves, and no delivery loses
one. A slot's ceilings and charge (R64, R65). -/

namespace Sys2Proof.Machine

/-! ### Charges told -/

/-- What a report that waits makes of the charge told of slot `i`. -/
def toldBy (i : SlotIx) (c : Nat) : Report → Nat
  | .charge j x => if j = i then x else c
  | .entered _ | .left _ | .check _ | .admission _ | .settle _ => c

theorem told_eq (w : Work) (i : SlotIx) : w.told i = w.reports.foldl (toldBy i) w.st.budget.reported[i] := by
  unfold Work.told
  congr 1

theorem told_congr {v w : Work} (r : w.reports = v.reports) (b : w.st.budget.reported = v.st.budget.reported)
    (i : SlotIx) : w.told i = v.told i := by
  rw [told_eq, told_eq, r, b]

theorem told_append (s : State) (l k : List Report) (i : SlotIx) :
    Work.told ⟨s, l ++ k⟩ i = k.foldl (toldBy i) (Work.told ⟨s, l⟩ i) := by
  simp only [told_eq, List.foldl_append]

/-- Reports of no charge leave what is told. -/
theorem foldl_toldBy {i : SlotIx} {l : List Report} (h : ∀ r ∈ l, ∀ c, toldBy i c r = c) (c : Nat) :
    l.foldl (toldBy i) c = c := by
  induction l with
  | nil => rfl
  | cons r l ih =>
    rw [List.foldl_cons, h r (.head _)]
    exact ih fun x m => h x (.tail _ m)

theorem trunkReport_told (i j : SlotIx) (a b : Bay) : ∀ r ∈ trunkReport j a b, ∀ c, toldBy i c r = c := by
  intro r m c
  simp only [trunkReport] at m
  split at m
  · cases List.mem_singleton.mp m; rfl
  · split at m
    · cases List.mem_singleton.mp m; rfl
    · cases m

theorem checkReport_told (i j : SlotIx) (a b : Bay) : ∀ r ∈ checkReport j a b, ∀ c, toldBy i c r = c := by
  intro r m c
  simp only [checkReport] at m
  split at m
  · cases List.mem_singleton.mp m; rfl
  · cases m

theorem admitReport_told (i j : SlotIx) (a b : Bay) : ∀ r ∈ admitReport j a b, ∀ c, toldBy i c r = c := by
  intro r m c
  simp only [admitReport] at m
  split at m
  · cases List.mem_singleton.mp m; rfl
  · cases m

theorem settleReport_told (i j : SlotIx) (b : Bay) : ∀ r ∈ settleReport j b, ∀ c, toldBy i c r = c := by
  intro r m c
  simp only [settleReport] at m
  split at m
  · cases List.mem_singleton.mp m; rfl
  · cases m

/-- The reports of a change tell the charge it leaves, whatever their order. -/
theorem reportsOf_told (o : StepOrder) (i j : SlotIx) (a b : Bay) (c : Nat) :
    (reportsOf o j a b).foldl (toldBy i) c = if j = i ∧ a.charge ≠ b.charge then b.charge else c := by
  have t := fun c => foldl_toldBy (trunkReport_told i j a b) c
  have k := fun c => foldl_toldBy (checkReport_told i j a b) c
  have d := fun c => foldl_toldBy (admitReport_told i j a b) c
  have s := fun c => foldl_toldBy (settleReport_told i j b) c
  have x : (chargeReport j a b).foldl (toldBy i) c = if j = i ∧ a.charge ≠ b.charge then b.charge else c := by
    simp only [chargeReport, bne_iff_ne]
    by_cases h : a.charge = b.charge
    · simp [h]
    · simp [h, toldBy]
  cases o <;> simp only [reportsOf, List.foldl_append, t, k, d, s, x]

/-- A change of a slot reports the charge it leaves (R66). -/
theorem modBay_tied (o : StepOrder) (i : SlotIx) (f : Bay → Bay) {w : Work} (h : w.tied) : (modBay o i f w).tied := by
  intro j
  obtain ⟨x, e⟩ := modBay_eq o i f w
  have before : w.told j = w.st.bays[j].charge := h j
  have told : (modBay o i f w).told j = (reportsOf o i w.st.bays[i]
      (capFollows w.st.now w.st.bays[i] (f w.st.bays[i]))).foldl (toldBy j) (w.told j) := by
    rw [e, told_append]
    rfl
  rw [told, reportsOf_told, before]
  by_cases n : i = j
  · subst n
    rw [modBay_bay]
    by_cases q : w.st.bays[i].charge = (capFollows w.st.now w.st.bays[i] (f w.st.bays[i])).charge
    · simp only [true_and, ne_eq, q, not_true_eq_false, if_false]
    · simp only [true_and, ne_eq, q, not_false_eq_true, if_true]
  · rw [modBay_other _ _ _ n]
    simp [n]

/-- Reports and reported charges standing, and no slot's charge changed. -/
theorem Work.tied.of_same {v w : Work} (h : v.tied) (r : w.reports = v.reports)
    (b : w.st.budget.reported = v.st.budget.reported) (c : ∀ i : SlotIx, w.st.bays[i].charge = v.st.bays[i].charge) :
    w.tied := fun i => by rw [told_congr r b, h i, c i]

theorem refigure_bays (s : State) : (refigure s).bays = s.bays := by
  unfold refigure
  dsimp only
  split <;> rfl

theorem refigure_reported (s : State) : (refigure s).budget.reported = s.budget.reported := by
  unfold refigure
  dsimp only
  split <;> rfl

theorem Move.tied {v w : Work} (m : Move v w) (h : v.tied) : w.tied := by
  cases m with
  | refigure => exact h.of_same rfl (refigure_reported _) fun i => by rw [map_st, refigure_bays]
  | budget b e =>
    obtain ⟨-, q, n, r, x, d, m, hd, rfl⟩ := e
    exact h.of_same rfl rfl fun _ => rfl
  | claim e n =>
    refine h.of_same rfl ?_ fun i => ?_
    · simp only [map_st, offerClaim]; split <;> rfl
    · simp only [map_st, offerClaim]; split <;> rfl
  | unclaim =>
    refine h.of_same rfl ?_ fun i => ?_
    · simp only [map_st, withdrawClaim]; split <;> rfl
    · simp only [map_st, withdrawClaim]; split <;> rfl
  | deficit => exact h.of_same rfl rfl fun _ => rfl
  | bay i f _ => exact modBay_tied .fault i f h
  | settle i =>
    intro j
    have e := told_append v.st v.reports [.settle i] j
    exact e.trans (h j)

theorem Moves.tied {v w : Work} (m : Moves v w) (h : v.tied) : w.tied := m.keeps (fun _ _ => Move.tied) h

/-! ### Slots and the trunk unit -/

/-- No slot changed but in its port lane records and needs. -/
structure SameSlots (s t : State) : Prop where
  slot : ∀ i : SlotIx, ∃ p n, t.bays[i] = { s.bays[i] with ports := p, needs := n }

theorem SameSlots.of_bays {s t : State} (h : t.bays = s.bays) : SameSlots s t := ⟨fun i => ⟨_, _, by rw [h]⟩⟩

theorem SameSlots.trans {s t u : State} (h : SameSlots s t) (k : SameSlots t u) : SameSlots s u := ⟨fun i => by
  obtain ⟨p, n, e⟩ := k.slot i
  obtain ⟨_, _, e'⟩ := h.slot i
  exact ⟨p, n, by rw [e, e']⟩⟩

theorem SameSlots.charge {s t : State} (h : SameSlots s t) (i : SlotIx) : t.bays[i].charge = s.bays[i].charge := by
  obtain ⟨p, n, e⟩ := h.slot i
  rw [e]
  rfl

theorem SameSlots.seq {s t : State} (h : SameSlots s t) (i : SlotIx) : t.bays[i].seq = s.bays[i].seq := by
  obtain ⟨p, n, e⟩ := h.slot i
  rw [e]

theorem SameSlots.link {s t : State} (h : SameSlots s t) (i : SlotIx) : t.bays[i].link = s.bays[i].link := by
  obtain ⟨p, n, e⟩ := h.slot i
  rw [e]

theorem setBay_slots {i : SlotIx} {f : Bay → Bay} {s : State}
    (h : ∃ p n, f s.bays[i] = { s.bays[i] with ports := p, needs := n }) : SameSlots s (setBay i f s) := ⟨fun j => by
  simp only [setBay_bays, updAt_get]
  split
  · next e => subst e; exact h
  · exact ⟨_, _, rfl⟩⟩

theorem clearTag_slots (t : Serial) (s : State) : SameSlots s (clearTag t s) := ⟨fun i => by
  simp only [clearTag, Fin.getElem_fin, Vector.getElem_ofFn]
  exact ⟨_, _, rfl⟩⟩

theorem setPort_slots (i : SlotIx) (p : PortIx) (f : PortRec → PortRec) (s : State) : SameSlots s (setPort i p f s) :=
  setBay_slots ⟨_, _, rfl⟩

theorem placePort_slots (i : SlotIx) (p : PortIx) (s : State) : SameSlots s (placePort i p s) := by
  simp only [placePort]
  split
  · split
    · exact ⟨((clearTag_slots _ s).trans (setPort_slots i p _ { clearTag _ s with tagCounter := _ })).slot⟩
    · exact setPort_slots ..
  · exact .of_bays rfl

theorem foldl_slots {α : Type} {f : State → α → State} (h : ∀ s x, SameSlots s (f s x)) (l : List α) (s : State) :
    SameSlots s (l.foldl f s) := by
  induction l generalizing s with
  | nil => exact .of_bays rfl
  | cons x l ih => exact (h s x).trans (ih _)

theorem startPorts_slots (i : SlotIx) (s : State) : SameSlots s (startPorts i s) :=
  foldl_slots (fun s p => (setPort_slots i p _ s).trans (placePort_slots ..)) _ s

theorem takeEntered_slots (i : SlotIx) (s : State) : SameSlots s (takeEntered i s) := by
  have n : SameSlots s (takeNeeds i s) := setBay_slots ⟨_, _, rfl⟩
  simp only [takeEntered]
  split
  · split
    · exact n.trans (startPorts_slots ..)
    · exact n
  · exact .of_bays rfl

theorem offerAll_bays (ms : List Outgoing) (s : State) : (offerAll ms s).bays = s.bays := by
  induction ms generalizing s with
  | nil => rfl
  | cons m ms ih => exact ih _

theorem endPort_slots (i : SlotIx) (s : State) (p : PortIx) : SameSlots s (endPort i s p) := by
  simp only [endPort]
  refine SameSlots.trans ?_ (setPort_slots ..)
  split
  · exact .of_bays (offerAll_bays ..)
  · exact .of_bays rfl

theorem endPorts_slots (i : SlotIx) (s : State) : SameSlots s (endPorts i s) := foldl_slots (endPort_slots i) _ s

/-- A charge report delivered leaves what is told. -/
theorem told_charge (s : State) (i : SlotIx) (n : Nat) (l : List Report) (j : SlotIx) :
    Work.told ⟨{ s with budget := { s.budget with reported := s.budget.reported.set i n } }, l⟩ j =
      Work.told ⟨s, .charge i n :: l⟩ j := by
  simp only [told_eq, List.foldl_cons, toldBy]
  congr 1
  by_cases h : i = j
  · subst h; simp
  · have : i.val ≠ j.val := fun e => h (Fin.ext e)
    simp [h, this]

theorem deliver_tied (r : Report) (s : State) (l : List Report) (h : Work.tied ⟨s, r :: l⟩) :
    (deliver r ⟨s, l⟩).tied := by
  have popped (q : ∀ c i, toldBy i c r = c) : Work.tied ⟨s, l⟩ := fun i => by
    rw [← h i, told_eq, told_eq, List.foldl_cons, q]
  cases r with
  | charge i n => exact (recompute_moves _).tied fun j => (told_charge s i n l j).trans (h j)
  | entered i =>
    exact (popped fun _ _ => rfl).of_same rfl (by rw [deliver, map_st, takeEntered_budget]) (takeEntered_slots i s).charge
  | left i =>
    exact (popped fun _ _ => rfl).of_same rfl (by rw [deliver, map_st, endPorts_budget]) (endPorts_slots i s).charge
  | check i => exact (checkEntry_moves i _).tied (popped fun _ _ => rfl)
  | admission i =>
    simp only [deliver]
    split
    · exact (handEntry_moves ..).tied (popped fun _ _ => rfl)
    · exact popped fun _ _ => rfl
  | settle i => exact (settleSlot_moves i _).tied (popped fun _ _ => rfl)

theorem drain_tied (n : Nat) (w : Work) (h : w.tied) : (drain n w).tied := by
  induction n generalizing w with
  | zero => exact h
  | succ n ih =>
    obtain ⟨s, l⟩ := w
    cases l with
    | nil => exact h
    | cons r l => exact ih _ (deliver_tied r s l h)

theorem flush_tied (w : Work) (h : w.tied) : (flush w).tied := drain_tied _ w h

/-- With no report waiting, the charges told are those held. -/
theorem told_of_none {w : Work} (h : w.reports = []) (i : SlotIx) : w.told i = w.st.budget.reported[i] := by
  rw [told_eq, h]; rfl

/-! ### Ceilings and charge -/

theorem activeCeiling_none {b : Bay} (h : b.seq.allowance = none) : b.activeCeiling = 0 := by
  simp [Bay.activeCeiling, h]

theorem activeCeiling_some {b : Bay} {a : Nat} (h : b.seq.allowance = some a) :
    b.activeCeiling = max (b.seq.floor.getD 0) (min a (min (b.seq.opCeiling.getD a) (b.seq.shedCeiling.getD a))) := by
  simp [Bay.activeCeiling, h]

/-- The active ceiling is the least of the ceilings, and not below the floor (R64). -/
theorem activeCeiling_least {b : Bay} {a : Nat} (h : b.seq.allowance = some a) :
    b.seq.floor.getD 0 ≤ b.activeCeiling ∧
      (∀ y ∈ a :: (b.seq.opCeiling.toList ++ b.seq.shedCeiling.toList), b.activeCeiling ≤ max y (b.seq.floor.getD 0)) ∧
      (b.activeCeiling = b.seq.floor.getD 0 ∨
        b.activeCeiling ∈ a :: (b.seq.opCeiling.toList ++ b.seq.shedCeiling.toList)) := by
  rw [activeCeiling_some h]
  generalize b.seq.floor.getD 0 = f
  cases b.seq.opCeiling <;> cases b.seq.shedCeiling <;> simp <;> omega

theorem charge_of_zero {b : Bay}
    (h : b.seq.state ∈ [SlotState.empty, .identify, .off, .waitPower, .retryWait, .latched, .shedOff]) : b.charge = 0 := by
  simp only [List.mem_cons, List.not_mem_nil, or_false] at h
  rcases h with h | h | h | h | h | h | h <;> simp [Bay.charge, h]

theorem charge_stuck {b : Bay} (h : b.seq.state = .stuck) : b.charge = b.cfg.worstCase := by simp [Bay.charge, h]

theorem charge_powered {b : Bay} (h : b.seq.state = .ramp ∨ b.seq.state = .running) :
    b.charge = if b.seq.adopted = true ∨ b.recordValid = false then b.cfg.worstCase
      else max b.activeCeiling (b.seq.overdraw.getD 0) := by
  rcases h with h | h <;> simp [Bay.charge, h, Bay.ceilingOrOverdraw]

theorem charge_unseating {b : Bay} (h : b.seq.state = .stopping) (p : b.seq.phase = some .unseating) : b.charge = 0 := by
  simp [Bay.charge, h, p]

theorem charge_draining {b : Bay} (h : b.seq.state = .stopping) (p : b.seq.phase = some .draining) :
    b.charge = if b.recordValid = true then max b.activeCeiling (b.seq.overdraw.getD 0) else b.activeCeiling := by
  simp [Bay.charge, h, p, Bay.ceilingOrOverdraw]

end Sys2Proof.Machine
end

section
/-! PROOF. The parts of a command keep the invariants of every step: the slot's moves, the bus port's, the peer view's, the
trunk unit's and the orders'. -/

namespace Sys2Proof.Machine

/-! ### Keeping the figures as well -/

/-- A part of a command that keeps every invariant, the figures among them. -/
structure Safe (m : Bool) (s t : State) : Prop extends Keeps m s t where
  figures : FiguresInv s → FiguresInv t

theorem Safe.refl (m : Bool) (s : State) : Safe m s s := ⟨.refl m s, id⟩

theorem Safe.trans {m : Bool} {s t u : State} (h : Safe m s t) (k : Safe m t u) : Safe m s u :=
  ⟨h.toKeeps.trans k.toKeeps, fun f => k.figures (h.figures f)⟩

theorem Safe.weaken {m : Bool} {s t : State} (h : Safe true s t) : Safe m s t := ⟨h.toKeeps.weaken, h.figures⟩

/-- A change of nothing that the figures are computed from, and of none of them. -/
theorem Safe.of_same {m : Bool} {s t : State} (k : Keeps m s t) (i : SameInputs s t)
    (f : SameFigures s.budget t.budget) : Safe m s t := ⟨k, fun h => h.of_same i f⟩

/-- A change that leaves address, settings, peers, supply channels, fans and budget record. -/
theorem Safe.of_parts {m : Bool} {s t : State} (k : Keeps m s t) (p : t.peers = s.peers) (c : t.supplies = s.supplies)
    (f : t.cooling = s.cooling) (b : t.budget = s.budget) : Safe m s t :=
  .of_same k (.of_parts k.fixed.address k.fixed.settings p (fun _ => by rw [c]) fun _ => by rw [f]) (b ▸ .refl _)

theorem Moves.safe {v w : Work} (m : Moves v w) : Safe true v.st w.st := ⟨m.keepsAll, m.figures⟩

theorem flush_safe (w : Work) : Safe true w.st (flush w).st := ⟨flush_keeps w, flush_figures w⟩

/-- A recomputation makes up for whatever went before it. -/
theorem Safe.of_recompute {m : Bool} {s : State} {w : Work} (k : Keeps m s w.st) : Safe m s (recompute w).st :=
  ⟨k.trans (recompute_keeps w).weaken, fun _ => recompute_figures w⟩

theorem recompute_safe (w : Work) : Safe true w.st (recompute w).st := .of_recompute (.refl ..)

theorem deriveTargets_keeps (s : State) : Keeps true s (deriveTargets s) :=
  .of_plain (deriveTargets_kept s) rfl rfl rfl id id

/-- The notification of the units makes up for whatever went before it (R36). -/
theorem Safe.of_notify {m : Bool} {s : State} {w : Work} (k : Keeps m s w.st) : Safe m s (notifyUnits w).st :=
  .of_recompute (k.trans (deriveTargets_keeps _).weaken)

theorem foldl_safe {α : Type} {m : Bool} {f : State → α → State} (h : ∀ s x, Safe m s (f s x)) (l : List α)
    (s : State) : Safe m s (l.foldl f s) := by
  induction l generalizing s with
  | nil => exact .refl ..
  | cons x l ih => exact (h s x).trans (ih _)

theorem offer_safe (m : Outgoing) (s : State) : Safe true s (offer m s) := .of_parts (offer_keeps m s) rfl rfl rfl rfl

theorem offerAll_safe (ms : List Outgoing) (s : State) : Safe true s (offerAll ms s) := by
  induction ms generalizing s with
  | nil => exact .refl ..
  | cons m ms ih => exact (offer_safe m s).trans (ih _)

theorem withdrawQueued_safe (c : MsgClass) (p : Outgoing → Bool) (s : State) : Safe true s (withdrawQueued c p s) :=
  .of_parts (withdrawQueued_keeps c p s) rfl rfl rfl rfl

theorem setBay_safe {i : SlotIx} {f : Bay → Bay} {s : State} (h : s.bays[i].Switched → (f s.bays[i]).Switched)
    (c : slotConditions (f s.bays[i]) = slotConditions s.bays[i]) : Safe true s (setBay i f s) :=
  .of_parts (setBay_keeps h c) rfl rfl rfl rfl

/-- A bay changed in its link, meter or ports alone. -/
theorem setBay_outside_safe {i : SlotIx} {f : Bay → Bay} {s : State} (q : (f s.bays[i]).seq = s.bays[i].seq)
    (n : (f s.bays[i]).fitted = s.bays[i].fitted) : Safe true s (setBay i f s) :=
  setBay_safe (fun h => h.of_same (by rw [q]) (by rw [q]) (by rw [q]) (by rw [q])) (by simp only [slotConditions, q, n])

theorem setPort_safe (i : SlotIx) (p : PortIx) (f : PortRec → PortRec) (s : State) : Safe true s (setPort i p f s) :=
  .of_parts (setPort_keeps i p f s) rfl rfl rfl rfl

theorem modBay_safe {o : StepOrder} {i : SlotIx} {f : Bay → Bay} {w : Work}
    (h : w.st.bays[i].Switched → (f w.st.bays[i]).Switched) : Safe true w.st (modBay o i f w).st :=
  .of_same (modBay_keeps h) (modBay_inputs ..) (by rw [modBay_budget]; exact .refl _)

theorem sendingCheck_safe (s : State) : Safe true s (sendingCheck s) := (sendingCheck_moves ⟨s, []⟩).safe

/-! ### The slot's moves and its switch -/

theorem toDraining_switched {b : Bay} (h : b.Switched) (u : b.powered = true) (now : Nat) (c : ShutdownCause)
    (d : StopDest) (y : Bool) : (b.toDraining now c d y).Switched :=
  .of_on (h.1.mpr u) rfl (h.timer_none u)

theorem toRamp_switched (b : Bay) (now : Nat) : (b.toRamp now).Switched := .of_on (nofun) rfl rfl

theorem toRunning_switched {b : Bay} (h : b.Switched) (u : b.powered = true) (now tst : Nat) :
    (b.toRunning now tst).Switched := .of_on (nofun) rfl (h.timer_none u)

theorem fault_switched (b : Bay) (now : Nat) (k : ShutdownCause) : (b.fault now k).Switched := by
  simp only [Bay.fault]
  split
  · exact .of_off (Seq.cut_gate ..) rfl
  · exact .of_off (Seq.cut_gate ..) rfl

theorem endDraining_switched (b : Bay) (now : Nat) : (b.endDraining now).Switched := by
  simp only [Bay.endDraining]
  split
  · split
    · exact enter_off_switched (Seq.cut_gate ..) now rfl
    · exact toOff_switched (Seq.cut_gate ..) ..
  · exact .of_off (Seq.cut_gate ..) rfl

theorem presenceLost_switched {b : Bay} (h : b.Switched) (now : Nat) : (b.presenceLost now).Switched := by
  simp only [Bay.presenceLost]
  split
  · exact h.of_same rfl rfl rfl rfl
  · exact .of_off (Seq.cut_gate ..) rfl

theorem seat_switched {b : Bay} (h : b.Switched) (e : b.seq.state = .empty) (now : Nat) : (b.seat now).Switched :=
  .of_off (h.gate_off (by simp [Bay.powered, poweredIn, e])) rfl

/-- A slot in a state without power has its switch off. -/
theorem Bay.Switched.off_in {b : Bay} (h : b.Switched) {st : SlotState} (e : b.seq.state = st)
    (u : ∀ p, poweredIn st p = false) : b.seq.gate = .off := h.gate_off (by rw [Bay.powered, e]; exact u _)

theorem opened_switched {b : Bay} (h : b.Switched) (now : Nat) : (b.opened now).Switched := by
  simp only [Bay.opened]
  split
  case h_1 => exact h.of_same rfl rfl rfl rfl
  case h_2 e => exact toOff_switched (h.off_in e fun _ => rfl) ..
  case h_3 e => exact toOff_switched (h.off_in e fun _ => rfl) ..
  case h_4 e => exact toOff_switched (h.off_in e fun _ => rfl) ..
  case h_5 => exact .of_off (Seq.cut_gate ..) rfl
  case h_6 e => exact toDraining_switched h (by simp [Bay.powered, poweredIn, e]) ..
  case h_7 =>
    split
    · exact h.of_same rfl rfl rfl rfl
    · exact h
  all_goals exact h

theorem closed_switched {b : Bay} (h : b.Switched) (now : Nat) : (b.closed now).Switched := by
  simp only [Bay.closed]
  split
  case h_1 e =>
    split
    · split
      · exact enter_off_switched (h.off_in e fun _ => rfl) now rfl
      · exact h.of_same rfl rfl rfl rfl
    · exact h
  case h_2 e =>
    split
    · next p =>
      exact toOff_switched (h.gate_off (by simp only [beq_iff_eq] at p; simp [Bay.powered, poweredIn, e, p])) ..
    · exact h
  all_goals exact h

theorem withEjector_switched {b : Bay} (h : b.Switched) (o : Bool) : (b.withEjector o).Switched :=
  h.of_same rfl rfl rfl rfl

theorem endStuckCheck_switched {b : Bay} (h : b.Switched) (t : b.seq.stuckTimer.isSome = true) (now : Nat) :
    (b.endStuckCheck now).Switched := by
  have g := h.2 t
  simp only [Bay.endStuckCheck]
  split
  · exact .of_off g rfl
  · refine .of_off g ?_
    cases p : b.powered with
    | false => exact p
    | true => exact absurd g (h.1.mpr p)

theorem fixFigures_switched {b : Bay} (h : b.Switched) (f : Figures) : (b.fixFigures f).Switched :=
  h.of_same rfl rfl rfl rfl

theorem endRead_switched {b : Bay} (h : b.Switched) (now : Nat) (p : ReadPurpose) (r : InvRecord) :
    (b.endRead now p r).Switched := by
  have hr : (b.withRecord r).Switched := h.of_same rfl rfl rfl rfl
  simp only [Bay.endRead]
  split
  case h_3 =>
    simp only [Bay.endAdoption]
    split
    · exact h.of_same rfl rfl rfl rfl
    · exact h.of_same rfl rfl rfl rfl
  case h_4 =>
    simp only [Bay.applyReidentify]
    split
    · split
      · exact hr.of_same rfl rfl rfl rfl
      · exact fixFigures_switched hr _
    · split <;> try split
      all_goals exact hr.of_same rfl rfl rfl rfl
  all_goals
    split
    · next e =>
      simp only [beq_iff_eq] at e
      refine fixFigures_switched ?_ _
      simp only [Bay.endIdentify]
      split
      · exact enter_off_switched (h.off_in e fun _ => rfl) now rfl
      · exact toOff_switched (h.off_in e fun _ => rfl) ..
    · exact fixFigures_switched hr _

theorem endStatusRead_switched {b : Bay} (h : b.Switched) (now : Nat) (r : Option StatusRead) :
    (b.endStatusRead now r).Switched := by
  have hl : ({ b with link := b.link.statusEnd now r } : Bay).Switched := h.of_same rfl rfl rfl rfl
  simp only [Bay.endStatusRead]
  split
  · next a =>
    simp only [asksOff, Bool.and_eq_true, beq_iff_eq] at a
    exact toDraining_switched hl (by simp [Bay.powered, poweredIn, a.1]) ..
  · exact hl

theorem release_switched {b : Bay} (h : b.Switched) (e : b.seq.state = .stuck) (now : Nat) : (b.release now).Switched := by
  have g := h.off_in e fun _ => rfl
  simp only [Bay.release]
  split
  · split
    · exact toOff_switched g ..
    · exact .of_off g rfl
  · exact .of_off g rfl

theorem ceilingRestored_switched {b : Bay} (h : b.Switched) : b.ceilingRestored.Switched := by
  simp only [Bay.ceilingRestored]
  split
  · exact h.of_same rfl rfl rfl rfl
  · exact h.of_same rfl rfl rfl rfl

theorem settled_switched {b : Bay} (h : b.Switched) : b.settled.Switched := BayMove.settled.switched h

theorem carryOut_safe (e : Entry) (w : Work) : Safe true w.st (carryOut e w).st := by
  simp only [carryOut]
  split
  case h_1 => exact modBay_safe fun _ => toRamp_switched ..
  case h_2 => exact modBay_safe fun _ => toRamp_switched ..
  case h_3 => exact modBay_safe ceilingRestored_switched
  case h_4 =>
    refine modBay_safe fun h => ?_
    split
    · exact fixFigures_switched h _
    · exact h
  case h_5 => exact modBay_safe settled_switched

/-! ### The bus port -/

/-- A change of the bus port that keeps its bounds and starts no condition. -/
theorem Safe.of_bus {s : State} {b : BusPort} (k : s.bus.Bounded → b.Bounded) (f : b.foreignUntil = s.bus.foreignUntil)
    (x : b.busFaults = s.bus.busFaults) : Safe true s { s with bus := b } :=
  .of_parts (.of_bus k f x) rfl rfl rfl rfl

/-- A change of the bus port alone that may end conditions and starts none without its flag. -/
theorem Safe.of_bus_conditions {s : State} {b : BusPort} (k : s.bus.Bounded → b.Bounded)
    (f : b.foreignUntil.isSome = true → s.bus.foreignUntil.isSome = true)
    (x : b.busFaults = true → s.bus.busFaults = true) : Safe true s { s with bus := b } := by
  refine .of_parts ⟨⟨rfl, rfl, rfl, rfl, rfl, rfl, rfl⟩, k, .of_eq rfl, ?_, fun _ => Attention.grows_refl _⟩ rfl rfl rfl rfl
  refine .of_conditions (fun _ => SlotFlags.grows_refl _) ⟨id, id, id, fun h => ?_, id, x⟩ (Attention.grows_refl _)
  simp only [stationConditions, Bool.or_eq_true] at h ⊢
  exact h.imp id f

theorem countGood_safe (s : State) : Safe true s (countGood s) :=
  .of_bus (fun h => ⟨h.1, satInc_le h.2.1, h.2.2⟩) rfl rfl

theorem countOrderRefused_safe (s : State) : Safe true s (countOrderRefused s) :=
  .of_bus (fun h => ⟨h.1, h.2.1, h.2.2.1, h.2.2.2.1, satInc_le h.2.2.2.2⟩) rfl rfl

/-- A raised station cause with the bus port's change that gives rise to it. -/
theorem raise_bus_safe {s : State} {b : BusPort} {f : StationFlags → StationFlags} (k : s.bus.Bounded → b.Bounded)
    (g : ∀ x : StationFlags, x.grows (f x))
    (c : ∀ y x, (conditionsBut y s).grows x → (conditionsBut y { s with bus := b }).grows (f x)) :
    Safe true s (raiseStation f { s with bus := b }) :=
  .of_parts ⟨⟨rfl, rfl, rfl, rfl, rfl, rfl, rfl⟩, k, .of_eq rfl, raiseStation_keepsFlags rfl rfl c,
    fun _ => raiseStation_grows g rfl⟩ rfl rfl rfl rfl

theorem countCrcDrop_safe (s : State) : Safe true s (countCrcDrop s) := by
  have bounded (x : Bool) (h : s.bus.Bounded) : BusPort.Bounded { s.bus with
      crcDrops := satInc s.bus.crcDrops, crcCount := s.bus.crcCount + 1, busFaults := x } :=
    ⟨h.1, h.2.1, satInc_le h.2.2.1, h.2.2.2⟩
  simp only [countCrcDrop]
  split
  · refine raise_bus_safe (bounded true) (fun x => ⟨id, id, id, id, id, fun _ => rfl⟩) fun _ _ h => ?_
    obtain ⟨d, r, f, c, sd, _⟩ := h
    exact ⟨d, r, f, c, sd, fun _ => rfl⟩
  · exact .of_bus (bounded s.bus.busFaults) rfl rfl

theorem foreignHeard_safe (s : State) : Safe true s (foreignHeard s) := by
  refine (countGood_safe s).trans ?_
  refine raise_bus_safe (s := countGood s) (f := fun f => { f with configMismatch := true }) id
    (fun x => ⟨id, id, id, fun _ => rfl, id, id⟩) fun _ _ h => ?_
  obtain ⟨d, r, f, _, sd, b⟩ := h
  exact ⟨d, r, f, fun _ => rfl, sd, b⟩

theorem endCrcWindow_safe (s : State) : Safe true s (endCrcWindow s) :=
  .of_bus_conditions id id fun h => by
    simp only [Bool.and_eq_true] at h
    exact h.1

theorem endForeign_safe (s : State) : Safe true s (endForeign s) := .of_bus_conditions id (nofun) id

theorem reoffer_safe (k : Nat) (s : State) : Safe true s (reoffer k s) := by
  simp only [reoffer]
  split
  · split
    · exact (Safe.of_bus (b := { s.bus with owed := s.bus.owed.eraseIdx k }) id rfl rfl).trans (offer_safe ..)
    · exact .refl ..
  · exact .refl ..

/-- A change of the budget record's claims alone. -/
theorem Safe.of_own {s : State} (o : OwnClaim) (n f : Serial) (x : Option Bar) :
    Safe true s { s with budget := { s.budget with own := o, nextNumber := n, folded := f, bar := x } } :=
  .of_same ⟨⟨rfl, rfl, rfl, rfl, rfl, rfl, rfl⟩, .of_eq rfl, .of_eq rfl,
    .of_same (fun _ => rfl) ⟨rfl, fun _ => rfl, rfl, rfl, rfl, rfl⟩ id id rfl, fun _ => Attention.grows_refl _⟩
    (.of_parts rfl rfl rfl (fun _ => rfl) fun _ => rfl) ⟨rfl, rfl, rfl, rfl, rfl, rfl, rfl, rfl, rfl, rfl⟩

theorem liftBar_safe (s : State) : Safe true s (liftBar s) := by
  simp only [liftBar]
  split
  · split
    · exact (Safe.of_own s.budget.own s.budget.nextNumber s.budget.folded none).trans (sendingCheck_safe _)
    · exact .refl ..
  · exact .refl ..

theorem claimWins_safe (m : Outgoing) (s : State) : Safe true s (claimWins m s) := by
  simp only [claimWins]
  split
  · exact .of_own _ s.budget.nextNumber s.budget.folded s.budget.bar
  · exact .refl ..

theorem stopSending_safe (s : State) : Safe true s (stopSending s) :=
  (Safe.of_bus (b := { s.bus with onBus := none }) id rfl rfl).trans
    (.of_own _ s.budget.nextNumber s.budget.folded s.budget.bar)

theorem leaveFifo_bounded {b : BusPort} (h : b.Bounded) (c : MsgClass) : (leaveFifo c b).Bounded := by
  rw [leaveFifo_sent]
  refine h.of_shorter ?_ ?_ ?_ id
  all_goals
    simp only [BusPort.sent]
    split <;> simp

theorem leaveFifo_safe (c : MsgClass) (s : State) : Safe true s { s with bus := leaveFifo c s.bus } :=
  .of_bus (leaveFifo_bounded · c) (by rw [leaveFifo_sent]; rfl) (by rw [leaveFifo_sent]; rfl)

theorem consume_safe (x : OnBus) (s : State) : Safe true s (consume x s) := by
  simp only [consume]
  split
  case h_1 => exact .refl ..
  case h_2 => exact .refl ..
  case h_3 => exact .of_own s.budget.own _ s.budget.folded s.budget.bar
  case h_4 =>
    have k : Safe true s { s with bus := { s.bus with sequence := s.bus.sequence + 1 } } := .of_bus id rfl rfl
    split
    · exact (k.trans (.of_own OwnClaim.idle s.budget.nextNumber s.budget.folded s.budget.bar)).trans (sendingCheck_safe _)
    · exact k

theorem dropClaim_safe (n : Serial) (r : DropReason) (s : State) : Safe true s (dropClaim n r s) :=
  ((Safe.of_own OwnClaim.idle s.budget.nextNumber s.budget.folded s.budget.bar).trans (offer_safe ..)).trans
    (sendingCheck_safe _)

theorem failClaim_safe (n : Serial) (s : State) : Safe true s (failClaim n s) := by
  simp only [failClaim]
  split
  · exact dropClaim_safe ..
  · exact .refl ..

theorem takeOut_safe (e : Entry) (s : State) : Safe true s (takeOut e s) :=
  (Move.budget ⟨s, []⟩ (takeOut e s).budget ⟨fun _ n l => ⟨fun m => n (List.mem_filter.1 m).1, l⟩, _, _, _, _, _, _, id, rfl⟩).moves.safe

theorem admitClaim_safe (e : Entry) (n : Serial) (w : Work) : Safe true w.st (admitClaim e n w).st := by
  simp only [admitClaim]
  refine Safe.trans ?_ (carryOut_safe ..)
  exact (takeOut_safe e w.st).trans (.of_own _ (takeOut e w.st).budget.nextNumber n (takeOut e w.st).budget.bar)

theorem decideClaim_safe (n : Serial) (k : Nat) (w : Work) : Safe true w.st (decideClaim n k w).st := by
  simp only [decideClaim]
  split
  · split
    · split
      · exact admitClaim_safe ..
      · exact (Safe.of_own w.st.budget.own w.st.budget.nextNumber w.st.budget.folded _).trans (dropClaim_safe ..)
    · exact dropClaim_safe ..
  · exact .refl ..

/-! ### The trunk unit -/

/-- A change of the owner record alone. -/
theorem Safe.of_owner (o : Option Owner) (s : State) : Safe true s { s with owner := o } :=
  .of_parts (.mk ⟨rfl, rfl, rfl, rfl, rfl, rfl, rfl⟩ (.of_eq rfl) (.of_eq rfl)
    (.of_same (fun _ => rfl) ⟨rfl, fun _ => rfl, rfl, rfl, rfl, rfl⟩ id id rfl) fun _ => Attention.grows_refl _) rfl rfl rfl rfl

theorem ownerRuns_safe (f : Owner → Owner × List Outgoing) (s : State) : Safe true s (ownerRuns f s) := by
  simp only [ownerRuns]
  split
  · exact (Safe.of_owner _ s).trans (offerAll_safe ..)
  · exact .refl ..

theorem ownerActs_safe (m : Nat) (f : Owner → Owner × List Outgoing) (s : State) : Safe true s (ownerActs m f s) := by
  simp only [ownerActs]
  split
  · split
    · exact (Safe.of_owner _ s).trans (offerAll_safe ..)
    · exact .refl ..
  · exact .refl ..

theorem ownerReclaim_safe (a : Addr) (silent : Bool) (s : State) : Safe true s (ownerReclaim a silent s) := by
  simp only [ownerReclaim]
  split
  · exact (Safe.of_owner _ s).trans (offerAll_safe ..)
  · exact .refl ..

theorem setFault_safe (l : LaneIx) (f : LaneFault → LaneFault) (s : State) : Safe true s (setFault l f s) := .of_owner ..

theorem placePort_safe (i : SlotIx) (p : PortIx) (s : State) : Safe true s (placePort i p s) :=
  ⟨placePort_keeps i p s, fun h => h.of_kept (placePort_kept ..) (placePort_budget ..)⟩

theorem startPorts_safe (i : SlotIx) (s : State) : Safe true s (startPorts i s) :=
  ⟨startPorts_keeps i s, fun h => h.of_kept (startPorts_kept ..) (startPorts_budget ..)⟩

theorem representPort_safe (i : SlotIx) (p : PortIx) (s : State) : Safe true s (representPort i p s) := by
  simp only [representPort]
  split
  · exact setPort_safe ..
  · split
    · split
      · exact ((setPort_safe ..).trans (setPort_safe ..)).trans (offer_safe ..)
      · exact setPort_safe ..
    · exact setPort_safe ..

theorem returnOffer_safe (i : SlotIx) (p : PortIx) (src : Addr) (m : OfferMsg) (s : State) :
    Safe true s (returnOffer i p src m s) := (offer_safe ..).trans (setPort_safe ..)

theorem takeOffer_safe (src : Addr) (m : OfferMsg) (s : State) : Safe true s (takeOffer src m s) := by
  simp only [takeOffer]
  split
  · exact .refl ..
  · split
    case h_1 => exact setPort_safe ..
    case h_2 => exact setPort_safe ..
    case h_3 =>
      split
      · exact .refl ..
      · exact returnOffer_safe ..
    all_goals exact returnOffer_safe ..

theorem takeDefer_safe (m : DeferMsg) (s : State) : Safe true s (takeDefer m s) := by
  simp only [takeDefer]
  split
  · exact .refl ..
  · split
    · exact setPort_safe ..
    · exact .refl ..

theorem takeRefuse_safe (m : RefuseMsg) (s : State) : Safe true s (takeRefuse m s) := by
  simp only [takeRefuse]
  split
  · exact .refl ..
  · split
    · exact setPort_safe ..
    · exact .refl ..

theorem takeWithdraw_safe (m : WithdrawMsg) (s : State) : Safe true s (takeWithdraw m s) := by
  simp only [takeWithdraw]
  split
  · exact .refl ..
  · exact setPort_safe ..

theorem ownerGone_safe (was : ModuleIx → Option Addr) (a : Addr) (s : State) : Safe true s (ownerGone was a s) :=
  foldl_safe (fun s x => by
    dsimp only
    split
    · split
      · exact (withdrawQueued_safe ..).trans (setPort_safe ..)
      · exact withdrawQueued_safe ..
    · exact .refl ..) _ s

theorem ownerRestarted_safe (a : Addr) (s : State) : Safe true s (ownerRestarted a s) :=
  foldl_safe (fun s x => by
    dsimp only
    split
    · exact setPort_safe ..
    · exact .refl ..) _ s

theorem ite_id_safe {c : Bool} {f : State → State} (h : ∀ s, Safe true s (f s)) (s : State) :
    Safe true s ((if c = true then f else id) s) := by
  split
  · exact h s
  · exact .refl ..

theorem selfReceive_safe (x : OnBus) (w : Work) : Safe true w.st (selfReceive x w).st := by
  simp only [selfReceive]
  split
  case h_1 => exact .refl ..
  case h_2 => exact .refl ..
  case h_3 => exact decideClaim_safe ..
  case h_4 =>
    split
    case h_1 => split; exacts [ownerActs_safe .., .refl ..]
    case h_2 => split; exacts [ownerActs_safe .., .refl ..]
    case h_3 => split; exacts [ite_id_safe (takeOffer_safe _ _) _, .refl ..]
    case h_4 => split; exacts [takeDefer_safe .., .refl ..]
    case h_5 => split; exacts [ite_id_safe (takeRefuse_safe _) _, .refl ..]
    case h_6 => split; exacts [ite_id_safe (takeWithdraw_safe _) _, .refl ..]
    case h_7 => split; exacts [offer_safe .., .refl ..]
    all_goals exact .refl ..

theorem sendMessage_safe (c : MsgClass) (x : OnBus) (good : Bool) (w : Work) :
    Safe true w.st (sendMessage c x good w).st := by
  have k : Safe true w.st (consume x { w.st with bus := leaveFifo c w.st.bus }) :=
    (leaveFifo_safe c w.st).trans (consume_safe ..)
  simp only [sendMessage]
  split
  · refine Safe.trans ?_ (selfReceive_safe ..)
    exact k.trans (countGood_safe _)
  · refine (k.trans (countCrcDrop_safe _)).trans ?_
    simp only [selfFail]
    split
    · exact failClaim_safe ..
    all_goals exact .refl ..

end Sys2Proof.Machine
end

section
/-! PROOF. The bodies of the commands keep the invariants of every step: frames, ages, samples, supply channels, fans,
sideband events and orders. -/

namespace Sys2Proof.Machine

/-- A change outside the slot records, the peers, the bus port, the budget record, the flags and the channels' states. -/
theorem Safe.of_outside {s t : State} (x : Fixed s t) (b : t.bus = s.bus)
    (q : ∀ i : SlotIx, t.bays[i].seq = s.bays[i].seq ∧ t.bays[i].fitted = s.bays[i].fitted) (p : t.peers = s.peers)
    (c : ∀ c : ChanIx, t.supplies[c].state = s.supplies[c].state)
    (f : ∀ c : ChanIx, t.cooling.fans[c].health = s.cooling.fans[c].health) (g : t.budget = s.budget)
    (a : t.attention = s.attention) : Safe true s t := by
  refine .of_same ⟨x, .of_eq b, fun h i => ?_, ?_, fun _ => a ▸ Attention.grows_refl _⟩
    (.of_parts x.address x.settings p c f) (g ▸ .refl _)
  · obtain ⟨e, _⟩ := q i
    exact (h i).of_same (by rw [e]) (by rw [e]) (by rw [e]) (by rw [e])
  · refine .of_same (fun i => ?_) ⟨x.settings, f, p, by rw [b], x.startDefaults, by rw [b]⟩ (by simp [g]) (by simp [g]) a
    obtain ⟨e, n⟩ := q i
    simp only [slotConditions, e, n]

theorem deriveZone_safe (z : ZoneIx) (s : State) : Safe true s (deriveZone z s) :=
  .of_outside (deriveZone_kept z s).fixed rfl (fun _ => ⟨rfl, rfl⟩) rfl (fun _ => rfl)
    (deriveZone_kept z s).cooling.health rfl rfl

theorem takeInlet_safe (r : Option Int) (s : State) : Safe true s (takeInlet r s) := by
  simp only [takeInlet]
  split
  · exact .refl ..
  · refine Safe.trans ?_ (deriveZone_safe ..)
    exact .of_outside ⟨rfl, rfl, rfl, rfl, rfl, rfl, rfl⟩ rfl (fun _ => ⟨rfl, rfl⟩) rfl (fun _ => rfl) (fun _ => rfl) rfl rfl

/-! ### Frames -/

/-- What the figures read of a peer entry. -/
def Peer.SameFigures (a b : Peer) : Prop := b.state = a.state ∧ b.standing = a.standing ∧ b.pending = a.pending

theorem SameInputs.of_peers {s t : State} (a : t.address = s.address) (st : t.settings = s.settings)
    (p : ∀ x : Addr, s.peers[x].SameFigures t.peers[x]) (c : t.supplies = s.supplies) (f : t.cooling = s.cooling) :
    SameInputs s t := by
  have lift {α : Type} (g : Peer → α) (h : ∀ x y : Peer, x.SameFigures y → g y = g x) :
      (peerList t).map g = (peerList s).map g := by
    simp only [peerList, a, List.map_map]
    exact List.map_congr_left fun x _ => h _ _ (p x)
  have supplies := lift Peer.supplies fun x y ⟨e, h, _⟩ => by
    simp only [Peer.supplies, Peer.counts, e, h]
    rfl
  have fans := lift Peer.fanList fun x y ⟨e, h, _⟩ => by
    simp only [Peer.fanList, Peer.counts, e, h]
    rfl
  have admission := lift Peer.admissionCharge fun x y ⟨e, h, k⟩ => by
    simp only [Peer.admissionCharge, Peer.committed, Peer.ceiling, Peer.pendingWatts, e, h, k]
  have supply := lift Peer.supplyCharge fun x y ⟨e, h, k⟩ => by
    simp only [Peer.supplyCharge, Peer.committed, Peer.pendingWatts, e, h, k]
  have own : ownRecords t = ownRecords s := by
    have g : supplyFitted t = supplyFitted s := by funext c; simp only [supplyFitted, st]
    have r : ownRecord t = ownRecord s := by funext x; simp only [ownRecord, st, c]
    rw [ownRecords, g, r]
    rfl
  exact {
    settings := st
    counted := by simp only [counts, own, List.flatMap_def, supplies]
    fans := by simp only [chassisFans, ownFans_congr st (fun c => by rw [f]), List.flatMap_def, fans]
    admission := by simp only [admissionCharges, admission]
    supply := by simp only [supplyCharges, supply] }

theorem anyMismatch_iff (s : State) :
    s.peers.toList.any (·.mismatch) = true ↔ ∃ a : Addr, s.peers[a].mismatch = true := by
  simp only [List.any_eq_true, Vector.mem_toList_iff, Vector.mem_iff_getElem]
  constructor
  · rintro ⟨p, ⟨k, h, rfl⟩, m⟩
    exact ⟨⟨k, h⟩, m⟩
  · rintro ⟨a, m⟩
    exact ⟨_, ⟨a.val, a.isLt, rfl⟩, m⟩

/-- An entry changed where its mismatch flag does not come to be set. -/
theorem setPeer_keeps {a : Addr} {f : Peer → Peer} {s : State}
    (h : (f s.peers[a]).mismatch = true → s.peers[a].mismatch = true) : Keeps true s (setPeer a f s) where
  fixed := ⟨rfl, rfl, rfl, rfl, rfl, rfl, rfl⟩
  bus := .of_eq rfl
  switches := .of_eq rfl
  flags := by
    refine .of_conditions (fun _ => SlotFlags.grows_refl _) ⟨id, id, id, fun e => ?_, id, id⟩ (Attention.grows_refl _)
    simp only [stationConditions, Bool.or_eq_true, anyMismatch_iff] at e ⊢
    refine e.imp (fun ⟨x, m⟩ => ?_) id
    simp only [setPeer_peers, updAt_get] at m
    split at m
    · exact ⟨a, h m⟩
    · exact ⟨x, m⟩
  grows := fun _ => Attention.grows_refl _

theorem replacePeer_keeps (a : Addr) (after : Peer) (s : State) :
    Keeps true s (replacePeer a s.peers[a] after s) := by
  simp only [replacePeer]
  split
  · refine ⟨⟨rfl, rfl, rfl, rfl, rfl, rfl, rfl⟩, .of_eq rfl, .of_eq rfl, raiseStation_keepsFlags rfl rfl fun _ _ h => ?_,
      fun _ => raiseStation_grows (f := fun f => { f with configMismatch := true })
        (fun _ => ⟨id, id, id, fun _ => rfl, id, id⟩) rfl⟩
    obtain ⟨d, r, f, _, sd, b⟩ := h
    exact ⟨d, r, f, fun _ => rfl, sd, b⟩
  · next n =>
    simp only [Bool.and_eq_true, Bool.not_eq_true', not_and, Bool.not_eq_false] at n
    exact setPeer_keeps n

theorem reclaimEpoch_safe (a : Addr) (s : State) : Safe true s (reclaimEpoch a s) :=
  (ownerReclaim_safe ..).trans (ownerRestarted_safe ..)

/-- A good frame: what it does to the entry is told to the units unless the figures do not read it. -/
theorem takeFrame_safe (src : Addr) {f : Peer → Peer} (always : Bool) {offers : State → State} (w : Work)
    (o : ∀ s, Safe true s (offers s))
    (q : always = false → w.st.peers[src].epoch.isNone = true ∨ w.st.peers[src].epoch = (f w.st.peers[src]).epoch →
      w.st.peers[src].SameFigures (f w.st.peers[src])) : Safe true w.st (takeFrame src f always offers w).st := by
  have c := countGood_safe w.st
  have k := replacePeer_keeps src (f (w.st.peers[src].hear w.st.now)) (countGood w.st)
  simp only [takeFrame]
  split
  · refine .of_notify ?_
    simp only [map_st]
    refine Keeps.trans ?_ (o _).toKeeps
    split
    · exact (c.toKeeps.trans k).trans (reclaimEpoch_safe ..).toKeeps
    · exact c.toKeeps.trans k
  · next n =>
    simp only [Bool.or_eq_true, beq_iff_eq, not_or, Bool.not_eq_true] at n
    obtain ⟨⟨known, same⟩, quiet⟩ := n
    rw [hear_known known] at k same
    simp only [map_st, hear_known known, same, Bool.false_eq_true, if_false]
    refine Safe.trans (c.trans (.of_same k ?_ ?_)) (o _)
    · have e : (replacePeer src (countGood w.st).peers[src] (f w.st.peers[src]) (countGood w.st)).peers =
          updAt w.st.peers src fun _ => f w.st.peers[src] := by
        simp only [replacePeer]; split <;> rfl
      refine .of_peers k.fixed.address k.fixed.settings (fun x => ?_) ?_ ?_
      · rw [e, updAt_get]
        split
        · next y =>
          subst y
          refine q quiet ?_
          simp only [Bool.and_eq_false_iff, bne_eq_false_iff_eq] at same
          exact same.imp (by simp) id
        · exact ⟨rfl, rfl, rfl⟩
      · simp only [replacePeer]; split <;> rfl
      · simp only [replacePeer]; split <;> rfl
    · have e : (replacePeer src (countGood w.st).peers[src] (f w.st.peers[src]) (countGood w.st)).budget =
          (countGood w.st).budget := by
        simp only [replacePeer]; split <;> rfl
      exact e ▸ .refl _

theorem hearOnly_safe (src : Addr) (w : Work) : Safe true w.st (hearOnly src w).st :=
  takeFrame_safe src false w (fun _ => .refl ..) fun _ _ => ⟨rfl, rfl, rfl⟩

theorem takeRollCall_safe (src : Addr) (m : RollCall) (w : Work) : Safe true w.st (takeRollCall src m w).st := by
  refine takeFrame_safe src false w (fun s => ?_) fun _ h => ⟨rfl, rfl, ?_⟩
  · split
    · exact offer_safe ..
    · exact .refl ..
  · have e : w.st.peers[src].newEpoch m.epoch = false := by
      simp only [Peer.newEpoch]
      split
      · next x y =>
        simp only [y, Peer.takeRollCall, Peer.checkEpoch, Option.isNone_some, Bool.false_eq_true, false_or,
          Option.some.injEq] at h
        simp [h]
      · rfl
    simp only [Peer.takeRollCall, Peer.checkEpoch, e, Bool.false_eq_true, if_false]

theorem takeStanding_safe (src : Addr) (m : Standing) (w : Work) : Safe true w.st (takeStanding src m w).st := by
  refine takeFrame_safe src true w (fun s => ?_) nofun
  split
  · exact offer_safe ..
  · exact .refl ..

theorem takeClaim_safe (src : Addr) (m : ClaimMsg) (w : Work) : Safe true w.st (takeClaim src m w).st :=
  takeFrame_safe src true w (fun _ => .refl ..) nofun

theorem takeClaimDrop_safe (src : Addr) (m : ClaimDropMsg) (w : Work) : Safe true w.st (takeClaimDrop src m w).st :=
  takeFrame_safe src true w (fun _ => .refl ..) nofun

theorem takeAlarm_safe (src : Addr) (m : AlarmMsg) (w : Work) : Safe true w.st (takeAlarm src m w).st :=
  takeFrame_safe src true w (fun _ => .refl ..) nofun

theorem enterStale_safe (a : Addr) (w : Work) : Safe true w.st (enterStale a w).st := .of_notify (setPeer_keeps (by exact id))

theorem enterSilent_safe (a : Addr) (w : Work) : Safe true w.st (enterSilent a w).st := by
  refine .of_notify ?_
  simp only [map_st]
  refine Keeps.trans ?_ (ownerGone_safe ..).toKeeps
  refine Keeps.trans ?_ (ownerReclaim_safe ..).toKeeps
  exact setPeer_keeps id

theorem dropAged_safe (a : Addr) (w : Work) : Safe true w.st (dropAged a w).st := .of_notify (setPeer_keeps (by exact id))

theorem forgetPeer_safe (a : Addr) (w : Work) : Safe true w.st (forgetPeer a w).st := by
  simp only [forgetPeer]
  split
  · exact .refl ..
  · refine .of_notify ?_
    simp only [map_st]
    refine Keeps.trans ?_ (ownerGone_safe ..).toKeeps
    exact setPeer_keeps nofun

/-! ### Samples -/

theorem powerOff_safe (i : SlotIx) (c : ShutdownCause) (w : Work) : Safe true w.st (powerOff i c w).st :=
  (powerOff_moves i c w).safe

theorem sampleActs_safe (i : SlotIx) (w : Work) : Safe true w.st (sampleActs i w).st := by
  simp only [sampleActs]
  split
  · next c =>
    simp only [Bool.and_eq_true, beq_iff_eq] at c
    exact modBay_safe fun h => toRunning_switched h (by rw [Bay.powered, c.1]; rfl) ..
  · split
    · exact modBay_safe fun _ => endDraining_switched ..
    · exact .refl ..

theorem complianceCheck_safe (i : SlotIx) (w : Work) : Safe true w.st (complianceCheck i w).st := by
  simp only [complianceCheck]
  split
  · split
    · exact powerOff_safe ..
    · exact modBay_safe fun h => h.of_same rfl rfl rfl rfl
  · exact .refl ..

theorem sampleGathers_safe (i : SlotIx) (w : Work) : Safe true w.st (sampleGathers i w).st := by
  simp only [sampleGathers]
  split
  · exact .refl ..
  · split
    · refine Safe.trans ?_ (complianceCheck_safe ..)
      exact setBay_outside_safe (by rfl) (by rfl)
    · exact setBay_outside_safe (by rfl) (by rfl)

theorem sampleSlot_safe (i : SlotIx) (w : Work) : Safe true w.st (sampleSlot i w).st := by
  simp only [sampleSlot]
  split
  · exact (((sampleActs_safe i w).trans (flush_safe _)).trans (sampleGathers_safe i _)).trans (flush_safe _)
  · exact .refl ..

/-- A supply channel changed; the figures read its state alone. -/
theorem setSupply_keeps (c : ChanIx) (f : Supply → Supply) (s : State) : Keeps true s (setSupply c f s) where
  fixed := ⟨rfl, rfl, rfl, rfl, rfl, rfl, rfl⟩
  bus := .of_eq rfl
  switches := .of_eq rfl
  flags := .of_same (fun _ => rfl) ⟨rfl, fun _ => rfl, rfl, rfl, rfl, rfl⟩ id id rfl
  grows := fun _ => Attention.grows_refl _

theorem setSupply_safe {c : ChanIx} {f : Supply → Supply} (h : ∀ p, (f p).state = p.state) (s : State) :
    Safe true s (setSupply c f s) :=
  .of_same (setSupply_keeps c f s) (.of_parts rfl rfl rfl (fun d => by
    simp only [setSupply, updAt_get]
    split
    · next e => subst e; exact h _
    · rfl) fun _ => rfl) (.refl _)

theorem deriveSupply_safe (c : ChanIx) (w : Work) : Safe true w.st (deriveSupply c w).st := by
  have k (f : Supply → Supply) : Safe true w.st (flush (recompute (w.map (setSupply c f)))).st :=
    Safe.trans (.of_recompute (setSupply_keeps c f w.st)) (flush_safe _)
  simp only [deriveSupply]
  split
  · exact .refl ..
  · split
    · exact (k _).trans (offer_safe ..)
    · exact k _

theorem sampleSupply_safe (m : Sample) (c : ChanIx) (w : Work) : Safe true w.st (sampleSupply m c w).st := by
  simp only [sampleSupply]
  split
  · split
    · refine Safe.trans ?_ (deriveSupply_safe ..)
      exact (setSupply_safe (by exact fun _ => rfl) w.st).trans (setSupply_safe (by exact fun _ => rfl) _)
    · exact setSupply_safe (by exact fun _ => rfl) w.st
  · exact .refl ..

theorem takeLatest_safe (m : Sample) (d : Nat) (s : State) :
    Safe true s (takeLatest m { s with meterDue := d }) := by
  refine .of_outside ⟨rfl, rfl, rfl, rfl, rfl, rfl, rfl⟩ rfl (fun i => ?_) rfl (fun _ => rfl) (fun _ => rfl) rfl rfl
  have e : ∀ b : Bay, ∀ x : Meter, (if b.fitted = true then { b with meter := x } else b).seq = b.seq ∧
      (if b.fitted = true then { b with meter := x } else b).fitted = b.fitted := fun b x => by
    split <;> exact ⟨rfl, rfl⟩
  match i with
  | 0 => exact e s.bays[0] _
  | 1 => exact e s.bays[1] _
  | 2 => exact e s.bays[2] _
  | 3 => exact e s.bays[3] _

theorem takeSample_safe (m : Sample) (w : Work) : Safe true w.st (takeSample m w).st := by
  simp only [takeSample]
  refine Safe.trans ?_ (sampleSupply_safe ..)
  refine Safe.trans ?_ (sampleSupply_safe ..)
  refine Safe.trans ?_ (sampleSlot_safe ..)
  refine Safe.trans ?_ (sampleSlot_safe ..)
  refine Safe.trans ?_ (sampleSlot_safe ..)
  refine Safe.trans ?_ (sampleSlot_safe ..)
  exact takeLatest_safe ..

/-! ### Fans -/

theorem setFan_health {c : ChanIx} {f : Fan → Fan} {s : State} (h : (f s.cooling.fans[c]).health = s.cooling.fans[c].health)
    (d : ChanIx) : (setFan c f s).cooling.fans[d].health = s.cooling.fans[d].health := by
  simp only [setFan, updAt_get]
  split
  · next e => subst e; exact h
  · rfl

/-- A fan channel changed in all but its health. -/
theorem setFan_safe {c : ChanIx} {f : Fan → Fan} {s : State}
    (h : (f s.cooling.fans[c]).health = s.cooling.fans[c].health) : Safe true s (setFan c f s) :=
  .of_outside ⟨rfl, rfl, rfl, rfl, rfl, rfl, rfl⟩ rfl (fun _ => ⟨rfl, rfl⟩) rfl (fun _ => rfl) (setFan_health h) rfl rfl

theorem setDuty_safe (c : ChanIx) (s : State) : Safe true s (setDuty c s) := by
  simp only [setDuty]
  split
  · exact setFan_safe rfl
  · exact .refl ..

/-- A fan channel changed, its condition of FAILED left out of the flags (R154). -/
theorem setFan_covers {c : ChanIx} {f : Fan → Fan} {s : State} (h : FlagsCover true s) :
    FlagsCover false (setFan c f s) := by
  refine ⟨h.1, ?_⟩
  obtain ⟨d, r, _, m, sd, b⟩ := h.2
  exact ⟨d, r, nofun, m, sd, b⟩

theorem FlagsCover.weaken {s : State} {x : Bool} (h : FlagsCover true s) : FlagsCover x s := by
  refine ⟨h.1, ?_⟩
  obtain ⟨d, r, f, m, sd, b⟩ := h.2
  refine ⟨d, r, fun e => f ?_, m, sd, b⟩
  simp only [conditionsBut, Bool.and_eq_true] at e ⊢
  exact ⟨trivial, e.2⟩

/-- With the flag of the fan channels covered, every flag is. -/
theorem FlagsCover.with_fans {s : State} (h : FlagsCover false s)
    (f : anyFanFailed s = true → s.attention.station.fanFailed = true) : FlagsCover true s := by
  refine ⟨h.1, ?_⟩
  obtain ⟨d, r, _, m, sd, b⟩ := h.2
  refine ⟨d, r, fun e => f ?_, m, sd, b⟩
  simpa [conditionsBut] using e

theorem anyFanFailed_iff (s : State) :
    anyFanFailed s = true ↔ ∃ k : ChanIx, k.val < s.settings.fanCount ∧ s.cooling.fans[k].health = .failed := by
  simp only [anyFanFailed, Bool.or_eq_true, Bool.and_eq_true, decide_eq_true_eq, beq_iff_eq]
  constructor
  · rintro (⟨h, e⟩ | ⟨h, e⟩)
    · exact ⟨0, h, e⟩
    · exact ⟨1, h, e⟩
  · rintro ⟨k, h, e⟩
    match k with
    | 0 => exact .inl ⟨h, e⟩
    | 1 => exact .inr ⟨h, e⟩

/-- A fan channel whose health changed: the recomputation, the cause raised where it FAILED, and so every flag covered
again (R153, R154). -/
theorem fanChanged_safe (c : ChanIx) (f : Fan → Fan) (w : Work) :
    let t := flush (recompute (w.map (setFan c f)))
    Safe true w.st
      (if (f w.st.cooling.fans[c]).health == .failed then t.map (raiseStation fun f => { f with fanFailed := true })
        else t).st := by
  intro t
  have k : Keeps true (setFan c f w.st) t.st := 
    (recompute_keeps (w.map (setFan c f))).trans (flush_keeps (recompute (w.map (setFan c f))))
  have health (d : ChanIx) : t.st.cooling.fans[d].health = (setFan c f w.st).cooling.fans[d].health :=
    ((recompute_kept (w.map (setFan c f))).trans (flush_kept _)).cooling.health d
  have figures : FiguresInv t.st := flush_figures _ (recompute_figures _)
  have raised : Keeps true t.st (raiseStation (fun f => { f with fanFailed := true }) t.st) :=
    ⟨⟨rfl, rfl, rfl, rfl, rfl, rfl, rfl⟩, .of_eq rfl, .of_eq rfl, raiseStation_keepsFlags rfl rfl fun _ _ h => by
      obtain ⟨d, r, _, m, sd, b⟩ := h
      exact ⟨d, r, fun _ => rfl, m, sd, b⟩, fun _ => raiseStation_grows (f := fun f => { f with fanFailed := true })
        (fun _ => ⟨id, id, fun _ => rfl, id, id, id⟩) rfl⟩
  have fixed : Fixed w.st t.st :=
    ⟨k.fixed.1, k.fixed.2, k.fixed.3, k.fixed.4, k.fixed.5, k.fixed.6, k.fixed.7⟩
  have covered (h : FlagsCover true w.st) : FlagsCover false t.st := k.flags false (setFan_covers h)
  split
  · have all := k.trans raised
    refine ⟨⟨fixed.trans raised.fixed, all.bus, all.switches, fun x h => ?_, all.grows⟩, fun _ => ?_⟩
    · cases x with
      | false => exact all.flags false ⟨h.1, by obtain ⟨d, r, _, m, sd, b⟩ := h.2; exact ⟨d, r, nofun, m, sd, b⟩⟩
      | true => exact (raised.flags false (covered h)).with_fans fun _ => rfl
    · exact FiguresInv.of_same (s := t.st) (.of_parts rfl rfl rfl (fun _ => rfl) fun _ => rfl) (.refl _) figures
  · next n =>
    refine ⟨⟨fixed, k.bus, k.switches, fun x h => ?_, k.grows⟩, fun _ => figures⟩
    cases x with
    | false => exact k.flags false ⟨h.1, by obtain ⟨d, r, _, m, sd, b⟩ := h.2; exact ⟨d, r, nofun, m, sd, b⟩⟩
    | true =>
      refine (covered h).with_fans fun e => (k.grows rfl).2.2.2.1 (h.2.2.2.1 ?_)
      simp only [conditionsBut, Bool.true_and]
      rw [anyFanFailed_iff] at e ⊢
      obtain ⟨d, fitted, failed⟩ := e
      rw [k.fixed.settings] at fitted
      rw [health] at failed
      refine ⟨d, fitted, ?_⟩
      simp only [setFan, updAt_get] at failed
      split at failed
      · exact absurd (by simpa using failed) n
      · exact failed

theorem updateFan_safe (c : ChanIx) (reading : Nat) (w : Work) : Safe true w.st (updateFan c reading w).st := by
  simp only [updateFan]
  split
  case isFalse => exact .refl ..
  refine Safe.trans ?_ (setDuty_safe ..)
  by_cases j : w.st.cooling.judging = true
  · simp only [j, if_true]
    split
    · next e =>
      simp only [beq_iff_eq] at e
      refine setFan_safe ?_
      simpa only [map_st, judgeFan, setFan, updAt_self] using e.symm
    · have changed := fanChanged_safe c (fun f =>
        let g := judgeTach w.st.settings.fans[c].fullRpm reading f
        { g with health := judgedHealth g }) w
      have e : (w.map (judgeFan c reading)).st.cooling.fans[c].health =
          judgedHealth (judgeTach w.st.settings.fans[c].fullRpm reading w.st.cooling.fans[c]) := by
        simp only [map_st, judgeFan, setFan, updAt_self]
      rw [e]
      exact changed
  · simp only [j, Bool.false_eq_true, if_false, beq_self_eq_true, if_true]
    exact .refl ..

theorem winBus_safe (m : Outgoing) (a b : Nat) (w : Work) : Safe true w.st (winBus m a b w).st := by
  have k : Safe true w.st (claimWins m { w.st with bus := { w.st.bus with onBus := some (m.cls, fixContent w.st m) } }) :=
    Safe.trans (.of_bus (b := { w.st.bus with onBus := some (m.cls, fixContent w.st m) }) id rfl rfl) (claimWins_safe ..)
  simp only [winBus]
  split
  · simp only [updateFans]
    split
    · refine Safe.trans ?_ (updateFan_safe ..)
      refine Safe.trans ?_ (updateFan_safe ..)
      exact k
    · exact k
  · exact k

/-! ### The census -/

theorem startJudging_safe (s : State) : Safe true s (startJudging s) :=
  .of_outside ⟨rfl, rfl, rfl, rfl, rfl, rfl, rfl⟩ rfl (fun _ => ⟨rfl, rfl⟩) rfl (fun _ => rfl)
    (fun c => match c with
      | 0 => rfl
      | 1 => rfl) rfl rfl

theorem endCensus_safe (w : Work) : Safe true w.st (endCensus w).st := by
  have k : Safe true w.st { w.st with census := none } :=
    .of_outside ⟨rfl, rfl, rfl, rfl, rfl, rfl, rfl⟩ rfl (fun _ => ⟨rfl, rfl⟩) rfl (fun _ => rfl) (fun _ => rfl) rfl rfl
  have started (s : State) (i : SlotIx) : Safe true s (startServed s i) := by
    simp only [startServed]
    split
    · exact startPorts_safe ..
    · exact .refl ..
  have answered (w : Work) : Safe true w.st (if w.st.budget.deficit then answerDeficit w else w).st := by
    split
    · exact (answerDeficit_moves w).safe
    · exact .refl ..
  simp only [endCensus]
  rw [map_st]
  refine Safe.trans ?_ (foldl_safe started _ _)
  refine Safe.trans ?_ (startJudging_safe _)
  refine Safe.trans ?_ (sendingCheck_safe _)
  exact k.trans (answered (w.map fun s => { s with census := none }))

/-! ### The sideband link -/

theorem leaveQueue_safe (i : SlotIx) (w : Work) : Safe true w.st (leaveQueue i w).st := (leaveQueue_moves i w).safe

theorem endInventoryRead_safe (i : SlotIx) (r : Option (List Byte)) (w : Work) :
    Safe true w.st (endInventoryRead i r w).st := by
  have k (l : Link) : Safe true w.st (w.map (setBay i fun b => { b with link := l })).st := setBay_outside_safe (by rfl) (by rfl)
  simp only [endInventoryRead]
  split
  · exact k _
  · refine Safe.trans ?_ (modBay_safe fun h => endRead_switched h ..)
    split
    · refine Safe.trans ?_ (leaveQueue_safe ..)
      exact (k _).trans (setBay_outside_safe (by rfl) (by rfl))
    · exact k _

theorem endCapWrite_safe (i : SlotIx) (c : Bool) (s : State) : Safe true s (endCapWrite i c s) := by
  refine setBay_outside_safe ?_ ?_
  all_goals split <;> rfl

theorem shutdownEnd_safe (i : SlotIx) (s : State) : Safe true s (setBay i Bay.shutdownEnd s) :=
  setBay_safe (fun h => h.of_same rfl rfl rfl rfl) rfl

theorem failTransaction_safe (i : SlotIx) (w : Work) : Safe true w.st (failTransaction i w).st := by
  simp only [failTransaction]
  split
  · exact endInventoryRead_safe ..
  · exact endCapWrite_safe ..
  · exact shutdownEnd_safe ..
  · exact modBay_safe fun h => endStatusRead_switched h ..
  · exact modBay_safe fun h => endStatusRead_switched h ..
  · exact .refl ..

theorem setSeq_safe {i : SlotIx} {f : Seq → Seq} {s : State} (g : (f s.bays[i].seq).gate = s.bays[i].seq.gate)
    (t : (f s.bays[i].seq).state = s.bays[i].seq.state) (p : (f s.bays[i].seq).phase = s.bays[i].seq.phase)
    (k : (f s.bays[i].seq).stuckTimer = s.bays[i].seq.stuckTimer) (c : (f s.bays[i].seq).cause = s.bays[i].seq.cause) :
    Safe true s (setSeq i f s) :=
  setBay_safe (fun h => h.of_same g t p k) (by simp only [slotConditions, t, c])

/-! ### Orders -/

theorem orderOn_safe (i : SlotIx) (w : Work) : Safe true w.st (orderOn i w).1.st := by
  simp only [orderOn]
  split
  case h_1 e =>
    split
    · dsimp only
      exact modBay_safe fun h => enter_off_switched (h.off_in e fun _ => rfl) _ rfl
    · exact .refl ..
  case h_2 e =>
    split
    · dsimp only
      exact modBay_safe fun h => enter_off_switched (h.off_in e fun _ => rfl) _ rfl
    · exact .refl ..
  all_goals exact .refl ..

theorem orderOff_safe (i : SlotIx) (w : Work) : Safe true w.st (orderOff i w).1.st := by
  simp only [orderOff]
  split
  case h_1 =>
    dsimp only
    exact modBay_safe fun h => h.of_same rfl rfl rfl rfl
  case h_2 e =>
    dsimp only
    exact modBay_safe fun h => toOff_switched (h.off_in e fun _ => rfl) ..
  case h_3 e =>
    dsimp only
    exact modBay_safe fun h => toOff_switched (h.off_in e fun _ => rfl) ..
  case h_4 e =>
    dsimp only
    exact modBay_safe fun h => toOff_switched (h.off_in e fun _ => rfl) ..
  case h_5 =>
    dsimp only
    exact modBay_safe fun _ => .of_off (Seq.cut_gate ..) rfl
  case h_6 e =>
    dsimp only
    exact modBay_safe fun h => toDraining_switched h (by rw [Bay.powered, e]; rfl) ..
  all_goals exact .refl ..

theorem orderCycle_safe (i : SlotIx) (w : Work) : Safe true w.st (orderCycle i w).1.st := by
  simp only [orderCycle]
  split
  case h_1 e =>
    dsimp only
    exact modBay_safe fun h => toDraining_switched h (by rw [Bay.powered, e]; rfl) ..
  all_goals exact .refl ..

theorem setPending_safe (i : SlotIx) (o : Option OperatorSetting) (s : State) :
    Safe true s (setBay i (fun b => { b with seq := { b.seq with pendingOp := o } }) s) :=
  setBay_safe (fun h => h.of_same rfl rfl rfl rfl) rfl

theorem discardSetting_safe (i : SlotIx) (w : Work) : Safe true w.st (discardSetting i w).st := by
  simp only [discardSetting]
  split
  · refine Safe.trans ?_ (flush_safe _)
    refine Safe.trans ?_ (leaveQueue_safe ..)
    exact setPending_safe ..
  · exact setPending_safe ..

theorem raiseSetting_safe (i : SlotIx) (o : OperatorSetting) (c : Bool) (w : Work) :
    Safe true w.st (raiseSetting i o c w).1.st := by
  simp only [raiseSetting]
  split
  · simp only [keepSetting]
    refine Safe.trans ?_ (settlePending_moves ..).safe
    exact setPending_safe ..
  · dsimp only
    exact modBay_safe fun h => h.of_same rfl rfl rfl rfl

theorem orderSetCeiling_safe (i : SlotIx) (v : Nat) (w : Work) : Safe true w.st (orderSetCeiling i v w).1.st := by
  simp only [orderSetCeiling]
  split
  · exact .refl ..
  · refine (discardSetting_safe i w).trans ?_
    split
    · exact raiseSetting_safe ..
    · dsimp only
      exact modBay_safe fun h => h.of_same rfl rfl rfl rfl

theorem orderClearCeiling_safe (i : SlotIx) (w : Work) : Safe true w.st (orderClearCeiling i w).1.st := by
  simp only [orderClearCeiling]
  split
  · exact .refl ..
  · split
    · exact (discardSetting_safe i w).trans (raiseSetting_safe ..)
    · split
      · exact discardSetting_safe i w
      · exact .refl ..

theorem orderClearLatch_safe (i : SlotIx) (w : Work) : Safe true w.st (orderClearLatch i w).1.st := by
  simp only [orderClearLatch]
  split
  case h_1 e =>
    dsimp only
    exact modBay_safe fun h => .of_off (h.off_in e fun _ => rfl) rfl
  case h_2 e =>
    split
    · dsimp only
      exact modBay_safe fun h => release_switched h e _
    · exact .refl ..
  all_goals exact .refl ..

theorem changePriority_safe (i : SlotIx) (p : Nat) (s : State) : Safe true s (changePriority i p s) := by
  have k : Safe true s (setBay i (fun b => { b with seq := { b.seq with priority := p } }) s) :=
    setBay_safe (fun h => h.of_same rfl rfl rfl rfl) rfl
  simp only [changePriority]
  split
  · exact k
  · next e h =>
    generalize setBay i (fun b => { b with seq := { b.seq with priority := p } }) s = t at k h ⊢
    have edited : t.budget.Edited { t.budget with
        queue := insertEntry t e (t.budget.queue.filter fun x => x.slot != i) } := by
      refine ⟨fun x n l => ⟨fun m => n ?_, l⟩, _, _, _, _, _, _, id, rfl⟩
      obtain rfl | m := List.mem_cons.1 ((insertEntry_perm ..).mem_iff.1 m)
      · exact List.mem_of_find?_eq_some h
      · exact (List.mem_filter.1 m).1
    exact k.trans (recheck_moves ⟨t, []⟩ t _ edited).safe

theorem clearFlags_safe (s : State) : Safe false s (clearFlags s) := by
  simp only [clearFlags]
  split
  · exact .refl ..
  · refine .of_parts ⟨⟨rfl, rfl, rfl, rfl, rfl, rfl, rfl⟩, .of_eq rfl, .of_eq rfl, fun x h => ?_, nofun⟩ rfl rfl rfl rfl
    have slot (i : SlotIx) : (slotConditions s.bays[i]).grows
        (keepHolding s.attention.slots[i] (slotConditions s.bays[i])) := by
      obtain ⟨l, k, n⟩ := h.1 i
      exact ⟨fun e => Bool.and_eq_true_iff.mpr ⟨l e, e⟩, fun e => Bool.and_eq_true_iff.mpr ⟨k e, e⟩,
        fun e => Bool.and_eq_true_iff.mpr ⟨n e, e⟩⟩
    obtain ⟨d, r, f, m, sd, b⟩ := h.2
    refine ⟨fun i => ?_, fun e => ?_, fun e => ?_, fun e => ?_, fun e => ?_, fun e => ?_, fun e => ?_⟩
    · match i with
      | 0 => exact slot 0
      | 1 => exact slot 1
      | 2 => exact slot 2
      | 3 => exact slot 3
    · exact Bool.and_eq_true_iff.mpr ⟨d e, e⟩
    · exact Bool.and_eq_true_iff.mpr ⟨r e, e⟩
    · exact Bool.and_eq_true_iff.mpr ⟨f e, (Bool.and_eq_true_iff.mp e).2⟩
    · exact Bool.and_eq_true_iff.mpr ⟨m e, e⟩
    · exact Bool.and_eq_true_iff.mpr ⟨sd e, e⟩
    · exact Bool.and_eq_true_iff.mpr ⟨b e, e⟩

theorem onSlot_safe {f : SlotIx → Work → Work × Result} (h : ∀ i w, Safe true w.st (f i w).1.st) (n : Nat) (w : Work) :
    Safe true w.st (onSlot n f w).1.st := by
  simp only [onSlot]
  split
  · exact h ..
  · exact .refl ..

theorem carryAction_safe (a : Action) (target value : Nat) (w : Work) :
    Safe false w.st (carryAction a target value w).1.st := by
  cases a with
  | slotOn => exact (onSlot_safe orderOn_safe ..).weaken
  | slotOff => exact (onSlot_safe orderOff_safe ..).weaken
  | slotCycle => exact (onSlot_safe orderCycle_safe ..).weaken
  | setCeiling => exact (onSlot_safe (fun i => orderSetCeiling_safe i value) ..).weaken
  | clearCeiling => exact (onSlot_safe orderClearCeiling_safe ..).weaken
  | clearLatch => exact (onSlot_safe orderClearLatch_safe ..).weaken
  | reidentify =>
    refine (onSlot_safe (fun i w => ?_) ..).weaken
    simp only [orderReidentify]
    split
    · exact setBay_outside_safe (by rfl) (by rfl)
    · exact .refl ..
  | clearPeaks => exact (onSlot_safe (fun i w => setBay_outside_safe (by rfl) (by rfl)) ..).weaken
  | setPriority => exact (onSlot_safe (fun i w => changePriority_safe ..) ..).weaken
  | forgetStation =>
    simp only [carryAction, orderForget]
    split
    · split
      · exact .refl ..
      · exact (forgetPeer_safe ..).weaken
    · exact .refl ..
  | clearAttention => exact clearFlags_safe w.st
  | restart =>
    exact .of_parts ⟨⟨rfl, rfl, rfl, rfl, rfl, rfl, rfl⟩, .of_eq rfl, .of_eq rfl, fun _ => id, nofun⟩ rfl rfl rfl rfl

theorem listAction_safe (sample : Option Bool) (pattern : BitVec 4) (k : Nat) (restarted : Bool) (x : OrderAction)
    (w : Work) : Safe false w.st (listAction sample pattern k restarted x w).1.st := by
  simp only [listAction]
  split
  · exact .refl ..
  · split
    · exact .refl ..
    · split
      · exact .refl ..
      · exact (carryAction_safe ..).trans (flush_safe _).weaken

theorem listActions_safe (sample : Option Bool) (pattern : BitVec 4) (l : List OrderAction) (k : Nat) (restarted : Bool)
    (w : Work) : Safe false w.st (listActions sample pattern l k restarted w).1.st := by
  induction l generalizing k restarted w with
  | nil => exact .refl ..
  | cons x l ih => exact (listAction_safe ..).trans (ih ..)

theorem takeOrder_safe (src : Addr) (m : OrderMsg) (w : Work) : Safe false w.st (takeOrder src m w).1.st := by
  simp only [takeOrder]
  split
  · exact (listActions_safe ..).trans (offer_safe ..).weaken
  · exact ((countOrderRefused_safe w.st).trans (offer_safe ..)).weaken

end Sys2Proof.Machine
end

section
/-! PROOF. What every command keeps: each command but the ends of the two resets answers a next state that is lawful, an
event of the running station being its body, the delivery of the reports and the settling of the flags. -/

namespace Sys2Proof.Machine

/-- What a command that does not end a reset keeps; the flags of LATCHED mode where `m` is true. -/
structure Lawful (m : Bool) (s t : State) : Prop where
  pending : t.pending = s.pending
  now : t.now = s.now
  address : t.address = s.address
  settings : t.settings = s.settings
  startDefaults : t.startDefaults = s.startDefaults
  self : t.self = s.self
  line : LineInv s → LineInv t
  flags : FlagsInv s → FlagsInv t
  figures : FiguresInv s → FiguresInv t
  switches : SwitchInv s → SwitchInv t
  bus : BusInv s → BusInv t
  grows : m = true → s.settings.lineMode = .latched → s.attention.grows t.attention

theorem Lawful.refl (m : Bool) (s : State) : Lawful m s s :=
  ⟨rfl, rfl, rfl, rfl, rfl, rfl, id, id, id, id, id, fun _ _ => Attention.grows_refl _⟩

theorem Lawful.trans {m : Bool} {s t u : State} (h : Lawful m s t) (k : Lawful m t u) : Lawful m s u :=
  ⟨k.pending.trans h.pending, k.now.trans h.now, k.address.trans h.address, k.settings.trans h.settings,
    k.startDefaults.trans h.startDefaults, k.self.trans h.self, fun x => k.line (h.line x), fun x => k.flags (h.flags x),
    fun x => k.figures (h.figures x), fun x => k.switches (h.switches x), fun x => k.bus (h.bus x),
    fun e l => Attention.grows_trans (h.grows e l) (k.grows e (h.settings ▸ l))⟩

theorem Lawful.weaken {m : Bool} {s t : State} (h : Lawful true s t) : Lawful m s t := { h with grows := fun _ => h.grows rfl }

/-! ### The settling of the flags -/

theorem settleFlags_line (s : State) : LineInv (settleFlags s) := rfl

theorem settleFlags_flags {s : State} (h : s.run = .running → FlagsCover true s) : FlagsInv (settleFlags s) := by
  have live (l : s.settings.lineMode = .live) :
      (∀ i : SlotIx, (settleFlags s).attention.slots[i] = slotConditions s.bays[i]) ∧
        (settleFlags s).attention.station = stationConditions s := by
    simp only [settleFlags, l, beq_self_eq_true, if_true]
    refine ⟨fun i => ?_, trivial⟩
    match i with
    | 0 => rfl
    | 1 => rfl
    | 2 => rfl
    | 3 => rfl
  have latched (l : s.settings.lineMode = .latched) :
      (settleFlags s).attention.slots = s.attention.slots ∧ (settleFlags s).attention.station = s.attention.station := by
    simp only [settleFlags, l]
    exact ⟨rfl, rfl⟩
  refine ⟨fun r i => ?_, fun r => ?_, fun _ l => live l⟩
  · cases l : s.settings.lineMode with
    | live => exact (live l).1 i ▸ SlotFlags.grows_refl _
    | latched => exact (latched l).1 ▸ (h r).1 i
  · cases l : s.settings.lineMode with
    | live => exact (live l).2 ▸ StationFlags.grows_refl _
    | latched => exact (latched l).2 ▸ conditionsBut_true s ▸ (h r).2

theorem settleFlags_grows {s : State} (l : s.settings.lineMode = .latched) :
    s.attention.grows (settleFlags s).attention := by
  simp only [settleFlags, l]
  exact ⟨fun _ => SlotFlags.grows_refl _, StationFlags.grows_refl _⟩

theorem FlagsInv.cover {s : State} (h : FlagsInv s) (r : s.run = .running) : FlagsCover true s :=
  ⟨h.slots r, conditionsBut_true s ▸ h.station r⟩

theorem attention_figures {s : State} {a : Attention} (h : FiguresInv s) : FiguresInv { s with attention := a } :=
  .of_same (s := s) (.of_parts rfl rfl rfl (fun _ => rfl) fun _ => rfl) (.refl _) h

/-- An event of the running station. -/
theorem finish_lawful {m : Bool} {s : State} {w : Work} (r : s.run = .running) (h : Safe m s w.st) :
    Lawful m s (finish w) := by
  have k : Safe m s (flush w).st := h.trans (flush_safe w).weaken
  refine {
    pending := k.fixed.pending
    now := k.fixed.now
    address := k.fixed.address
    settings := k.fixed.settings
    startDefaults := k.fixed.startDefaults
    self := k.fixed.self
    line := fun _ => settleFlags_line _
    flags := fun f => settleFlags_flags fun _ => k.flags true (f.cover r)
    figures := fun f => attention_figures (k.figures f)
    switches := fun x _ => k.switches (x r)
    bus := fun b => (busInv_iff _).mpr (k.bus ((busInv_iff _).mp b))
    grows := fun e l => ?_ }
  exact Attention.grows_trans (k.grows e) (settleFlags_grows (k.fixed.settings ▸ l))

/-! ### The beginning of a reset -/

/-- A station that does not run keeps its invariants where its figures and bus port do. -/
theorem Lawful.of_stopped {s t : State} (r : t.run ≠ .running) (x : t.pending = s.pending ∧ t.now = s.now)
    (y : t.address = s.address ∧ t.settings = s.settings) (z : t.startDefaults = s.startDefaults ∧ t.self = s.self)
    (l : LineInv s → t.attention.line = false) (f : FiguresInv s → FiguresInv t) (b : s.bus.Bounded → t.bus.Bounded)
    (g : s.attention.grows t.attention) : Lawful true s t := by
  have n : (t.run == .running) = false := by simpa using r
  exact ⟨x.1, x.2, y.1, y.2, z.1, z.2, fun h => by rw [LineInv, n, Bool.false_and]; exact l h,
    fun _ => ⟨fun e => absurd e r, fun e => absurd e r, fun e => absurd e r⟩, f, fun _ e => absurd e r,
    fun h => (busInv_iff _).mpr (b ((busInv_iff _).mp h)), fun _ _ => g⟩

theorem beginReset_lawful {p : RunPhase} (f : Bay → Bay) (s : State) (n : p ≠ .running) :
    Lawful true s (beginReset p f s) := by
  refine .of_stopped n ⟨rfl, rfl⟩ ⟨rfl, rfl⟩ ⟨rfl, rfl⟩ (fun _ => rfl) 
    (.of_same (s := s) ?_ (.refl _)) (fun h => ?_)
    ⟨fun _ => SlotFlags.grows_refl _, StationFlags.grows_refl _⟩
  · refine .of_parts rfl rfl rfl (fun _ => rfl) fun c => ?_
    match c with
    | 0 => rfl
    | 1 => rfl
  · exact h.of_shorter (Nat.zero_le _) (Nat.zero_le _) (Nat.zero_le _) id

theorem beginWarm_lawful (s : State) : Lawful true s (beginWarm s) := beginReset_lawful _ s nofun

theorem beginPowerOn_lawful (s : State) : Lawful true s (beginPowerOn s) := beginReset_lawful _ s nofun

theorem line_of_stopped {s : State} (h : LineInv s) (r : s.run ≠ .running) : s.attention.line = false := by
  have n : (s.run == .running) = false := by simpa using r
  rw [h, n, Bool.false_and]

theorem assertRestart_lawful (s : State) : Lawful true s (assertRestart s) := by
  simp only [assertRestart]
  split
  · exact beginWarm_lawful s
  · next r =>
    exact .of_stopped nofun ⟨rfl, rfl⟩ ⟨rfl, rfl⟩ ⟨rfl, rfl⟩ (fun h => line_of_stopped (s := s) h (by rw [r]; nofun))
      (.of_same (s := s) (.of_parts rfl rfl rfl (fun _ => rfl) fun _ => rfl) (.refl _)) id (Attention.grows_refl _)
  · exact .refl ..

theorem cutDuringRestart_lawful {s : State} (i : SlotIx) (r : s.run ≠ .running) :
    Lawful true s (cutDuringRestart i s) :=
  .of_stopped r ⟨rfl, rfl⟩ ⟨rfl, rfl⟩ ⟨rfl, rfl⟩ (fun h => line_of_stopped h r)
    (.of_same (s := s) (.of_parts rfl rfl rfl (fun _ => rfl) fun _ => rfl) (.refl _)) id (Attention.grows_refl _)

/-! ### The shapes of a command -/

/-- A command that answers a lawful next state. -/
def Answers (m : Bool) (s : State) (o : Host.Outcome State Fault Refusal) : Prop := ∃ t, o = .next t ∧ Lawful m s t

theorem event_answers {m : Bool} {s : State} {g : Bool} {f : Work → Work}
    (h : g = true → Safe m s (f ⟨s, []⟩).st) : Answers m s (event s g f) := by
  refine ⟨_, rfl, ?_⟩
  split
  · next c =>
    simp only [Bool.and_eq_true, beq_iff_eq] at c
    exact finish_lawful c.1 (h c.2)
  · exact .refl ..

theorem work_answers {m : Bool} {s : State} {g : Bool} {f : Work → Work} (h : ∀ w, Safe m w.st (f w).st) :
    Answers m s (event s g f) := event_answers fun _ => h ⟨s, []⟩

theorem simpleEvent_answers {m : Bool} {s : State} {g : Bool} {f : State → State} (h : g = true → Safe m s (f s)) :
    Answers m s (simpleEvent s g f) := event_answers h

theorem received_answers {m : Bool} {s : State} {src : Addr} {f : Work → Work} (h : ∀ w, Safe m w.st (f w).st) :
    Answers m s (received s src f) := by
  refine event_answers fun _ => ?_
  split
  · split
    · exact .refl ..
    · exact (foreignHeard_safe s).weaken
  · exact h ⟨s, []⟩

theorem destined_answers {s : State} {r : Route} {body : Work → Work} (h : ∀ w, Safe true w.st (body w).st) :
    Answers true s (destined s r body) := by
  refine received_answers fun w => ?_
  have k : Safe true w.st (flush (hearOnly r.src w)).st := (hearOnly_safe r.src w).trans (flush_safe _)
  dsimp only
  split
  · exact k.trans (h _)
  · exact k

/-- The event of one slot's bay changed at a guard. -/
theorem bay_answers {s : State} {g : Bool} {o : StepOrder} {i : SlotIx} {f : Bay → Bay}
    (h : g = true → s.bays[i].Switched → (f s.bays[i]).Switched) : Answers true s (event s g (modBay o i f)) :=
  event_answers fun c => modBay_safe (w := ⟨s, []⟩) (h c)

/-- The event of a slot's timer or input that changes nothing the invariants read. -/
theorem seq_answers {s : State} {g : Bool} {i : SlotIx} {f : Seq → Seq}
    (h : ∀ q, (f q).gate = q.gate ∧ (f q).state = q.state ∧ (f q).phase = q.phase ∧ (f q).stuckTimer = q.stuckTimer ∧
      (f q).cause = q.cause) : Answers true s (simpleEvent s g (setSeq i f)) := by
  obtain ⟨gate, st, phase, timer, cause⟩ := h s.bays[i].seq
  exact simpleEvent_answers fun _ => setSeq_safe gate st phase timer cause

/-- The event of a slot's link. -/
theorem link_answers {s : State} {g : Bool} {i : SlotIx} {f : Bay → Link} :
    Answers true s (simpleEvent s g (setBay i fun b => { b with link := f b })) :=
  simpleEvent_answers fun _ => setBay_outside_safe rfl rfl

theorem order_answers {s : State} {h : OrderHead} {m : OrderMsg} : Answers false s (order s h m) := by
  simp only [order]
  split
  · next c =>
    simp only [Bool.and_eq_true, beq_iff_eq] at c
    have r : s.run = .running := c.1.1
    have k : Safe false s (takeOrder h.route.src m (flush (hearOnly h.route.src ⟨s, []⟩))).1.st :=
      ((hearOnly_safe h.route.src ⟨s, []⟩).trans (flush_safe _)).weaken.trans (takeOrder_safe ..)
    refine ⟨_, rfl, ?_⟩
    simp only [orderOutcome]
    split
    · exact (finish_lawful r k).trans (beginWarm_lawful _).weaken
    · exact finish_lawful r k
  · exact received_answers fun w => (hearOnly_safe ..).weaken

theorem send_answers {s : State} {c : MsgClass} {x : OnBus} {good : Bool} :
    Answers true s (.next (if s.run == .running then sendOutcome c x good s else s)) := by
  refine ⟨_, rfl, ?_⟩
  split
  · next r =>
    simp only [beq_iff_eq] at r
    have k := finish_lawful r (sendMessage_safe c x good ⟨s, []⟩)
    simp only [sendOutcome]
    split
    · exact k.trans (beginWarm_lawful _)
    · exact k
  · exact .refl ..

theorem ask_answers {s : State} {r : Route} {a : AskOperands} {f : State → State} (h : ∀ s, Safe true s (f s)) :
    Answers true s (ask s r a f) := by
  refine destined_answers fun w => ?_
  simp only [map_st, askBody]
  split
  · exact offer_safe ..
  · exact h _

theorem lane_answers {s : State} {r : Route} {f : State → State} (h : ∀ s, Safe true s (f s)) :
    Answers true s (destined s r (Work.map f)) := destined_answers fun w => h w.st

theorem frame_answers {s : State} {src : Addr} {c : Bool} {f : Work → Work} (h : ∀ w, Safe true w.st (f w).st) :
    Answers true s (received s src (if c = true then f else hearOnly src)) := by
  refine received_answers fun w => ?_
  split
  · exact h w
  · exact hearOnly_safe ..

theorem timerDue_isSome {t : Due} {now : Nat} (h : timerDue t now = true) : t.isSome = true := by
  cases t with
  | none => exact h
  | some d => rfl

theorem supply_answers {s : State} {g : Bool} {c : ChanIx} {f : Supply → Supply} (h : ∀ p, (f p).state = p.state) :
    Answers true s (event s g fun w => deriveSupply c (w.map (setSupply c f))) :=
  event_answers fun _ => (setSupply_safe h s).trans (deriveSupply_safe c ⟨setSupply c f s, []⟩)

end Sys2Proof.Machine
end

section
/-! PROOF. Every command, one by one, and the ends of the two resets; then a step. -/

namespace Sys2Proof.Machine

theorem busIdle_answers (others : List ArbKey) (a b : Nat) (s : State) : Answers true s (execBusIdle others a b s) := by
  refine event_answers fun _ => ?_
  split
  · exact winBus_safe _ a b ⟨s, []⟩
  · exact .refl ..

theorem messageSent_answers (good : Bool) (s : State) : Answers true s (execMessageSent good s) := by
  simp only [execMessageSent]
  split
  · exact send_answers
  · exact ⟨s, rfl, .refl ..⟩

theorem ownClaimReceipt_answers (s : State) : Answers true s (execOwnClaimReceipt s) := by
  simp only [execOwnClaimReceipt]
  split
  case h_1 => exact work_answers fun w => sendMessage_safe _ _ _ w
  all_goals exact ⟨s, rfl, .refl ..⟩

theorem ownClaimBadReceipt_answers (s : State) : Answers true s (execOwnClaimBadReceipt s) := by
  simp only [execOwnClaimBadReceipt]
  split
  case h_1 => exact work_answers fun w => sendMessage_safe _ _ _ w
  all_goals exact ⟨s, rfl, .refl ..⟩

theorem standingTimer_answers (s : State) : Answers true s (execStandingTimerExpiry s) := by
  refine simpleEvent_answers fun _ => ?_
  refine Safe.trans ?_ (offer_safe ..)
  exact .of_bus id rfl rfl

theorem laneFaultAsserted_answers (l : LaneIx) (s : State) : Answers true s (execLaneFaultAsserted l s) :=
  simpleEvent_answers fun _ => (setFault_safe ..).trans (ownerRuns_safe ..)

theorem laneFaultCleared_answers (l : LaneIx) (s : State) : Answers true s (execLaneFaultCleared l s) :=
  simpleEvent_answers fun _ => (setFault_safe ..).trans (ownerRuns_safe ..)

theorem latchDiscard_answers (k : Nat) (s : State) : Answers true s (execLatchDiscard k s) := by
  refine simpleEvent_answers fun _ => ?_
  split
  · exact ownerRuns_safe ..
  · exact .refl ..

theorem inletReading_answers (r : Option Int) (s : State) : Answers true s (execInletReading r s) := by
  refine simpleEvent_answers fun _ => ?_
  refine Safe.trans ?_ (takeInlet_safe ..)
  exact .of_outside ⟨rfl, rfl, rfl, rfl, rfl, rfl, rfl⟩ rfl (fun _ => ⟨rfl, rfl⟩) rfl (fun _ => rfl) (fun _ => rfl) rfl rfl

theorem severeOvercurrent_answers (i : SlotIx) (s : State) : Answers true s (execSevereOvercurrent i s) := by
  simp only [execSevereOvercurrent]
  split
  · next w => exact ⟨_, rfl, cutDuringRestart_lawful i fun r => by simp [inWarmRestart, r] at w⟩
  · exact bay_answers fun _ _ => fault_switched ..

theorem rampTimeout_answers (i : SlotIx) (s : State) : Answers true s (execRampTimeout i s) :=
  bay_answers fun _ _ => fault_switched ..

/-- A timer of a slot in a state without power that takes it to WAIT_POWER. -/
theorem waitPower_answers {s : State} {i : SlotIx} {t : Bool} (st : SlotState) (u : ∀ p, poweredIn st p = false) :
    Answers true s (event s (s.bays[i].seq.state == st && t) (modBay .fault i fun b => b.enter s.now .waitPower none)) := by
  refine bay_answers fun c h => ?_
  simp only [Bool.and_eq_true, beq_iff_eq] at c
  exact enter_off_switched (h.off_in c.1 u) _ rfl

theorem seating_answers (i : SlotIx) (s : State) : Answers true s (execSeating i s) := by
  refine bay_answers fun c h => seat_switched h ?_ _
  simp only [Bool.and_eq_true, beq_iff_eq] at c
  exact c.1

theorem inLimitChange_answers (i : SlotIx) (x : Bool) (s : State) : Answers true s (execInLimitChange i x s) := by
  refine simpleEvent_answers fun _ => setBay_safe (fun h => ?_) ?_
  · refine h.of_same ?_ ?_ ?_ ?_
    all_goals
      simp only [Seq.inLimitChanged]
      split <;> rfl
  · simp only [Seq.inLimitChanged, slotConditions]
    split <;> rfl

theorem transactionStart_answers (i : SlotIx) (s : State) : Answers true s (execSidebandTransactionStart i s) := by
  refine simpleEvent_answers fun _ => setBay_outside_safe ?_ ?_
  all_goals
    simp only [Bay.start]
    split <;> rfl

/-- Every command but the ends of the resets answers a lawful next state. -/
theorem exec_answers (c : Instr) (s : State) (n : endsReset c = false) : Answers (!isOrder c) s (exec c s) := by
  cases c with
  -- the bus port
  | busIdle others a b => exact busIdle_answers others a b s
  | readbackMismatchStop => exact simpleEvent_answers fun _ => stopSending_safe s
  | messageSent good => exact messageSent_answers good s
  | badCrcFrame => exact simpleEvent_answers fun _ => countCrcDrop_safe s
  | foreignFrame => exact simpleEvent_answers fun _ => foreignHeard_safe s
  | ownClaimReceipt => exact ownClaimReceipt_answers s
  | ownClaimBadReceipt => exact ownClaimBadReceipt_answers s
  | standingTimerExpiry => exact standingTimer_answers s
  | crcWindowEnd => exact simpleEvent_answers fun _ => endCrcWindow_safe s
  | refusedReofferTimer k => exact simpleEvent_answers fun _ => reoffer_safe k s
  | foreignFrameWindowEnd => exact simpleEvent_answers fun _ => endForeign_safe s
  -- the peer view
  | malformedFrame src => exact received_answers fun w => hearOnly_safe src w
  | answerReceived r m => exact received_answers fun w => hearOnly_safe r.src w
  | rollCallReceived src m => exact frame_answers fun w => takeRollCall_safe src m w
  | standingReceived src m => exact frame_answers fun w => takeStanding_safe src m w
  | peerClaimReceived src m => exact frame_answers fun w => takeClaim_safe src m w
  | claimDropReceived src m => exact frame_answers fun w => takeClaimDrop_safe src m w
  | supplyAlarmReceived src m => exact received_answers fun w => takeAlarm_safe src m w
  | peerEntersStale a => exact work_answers (enterStale_safe a)
  | peerEntersSilent a => exact work_answers (enterSilent_safe a)
  | pendingClaimAgeExpiry a => exact work_answers (dropAged_safe a)
  | refusalBarLift => exact simpleEvent_answers fun _ => liftBar_safe s
  -- the lane messages and the trunk unit's timers
  | laneBidReceived r m => exact lane_answers fun s => ownerActs_safe _ _ s
  | laneReturnReceived r m => exact lane_answers fun s => ownerActs_safe _ _ s
  | laneOfferReceived r m => exact lane_answers fun s => ite_id_safe (takeOffer_safe r.src m) s
  | laneDeferReceived r m => exact lane_answers fun s => takeDefer_safe m s
  | laneRefuseReceived r m => exact lane_answers fun s => ite_id_safe (takeRefuse_safe m) s
  | laneWithdrawReceived r m => exact lane_answers fun s => ite_id_safe (takeWithdraw_safe m) s
  | laneFaultInputChange l x => exact simpleEvent_answers fun _ => setFault_safe l _ s
  | laneFaultAsserted l => exact laneFaultAsserted_answers l s
  | laneFaultCleared l => exact laneFaultCleared_answers l s
  | latchDiscard k => exact latchDiscard_answers k s
  | representTimerExpiry i p => exact simpleEvent_answers fun _ => representPort_safe i p s
  | unplacedTimerExpiry i p => exact simpleEvent_answers fun _ => placePort_safe i p s
  | lostTimerExpiry i p => exact simpleEvent_answers fun _ => placePort_safe i p s
  -- the ASK topics
  | askInventory r a => exact ask_answers fun s => offer_safe _ s
  | askSlot r a => exact ask_answers fun s => offer_safe _ s
  | askMeter r a => exact ask_answers fun s => offer_safe _ s
  | askSupply r a => exact ask_answers fun s => offer_safe _ s
  | askStation r a => exact ask_answers fun s => offer_safe _ s
  | askCounters r a => exact ask_answers fun s => offer_safe _ s
  | askRoll r a => exact ask_answers fun s => offer_safe _ s
  -- the order rows
  | slotOn h b o a => exact order_answers
  | slotOff h b o a => exact order_answers
  | slotCycle h b o a => exact order_answers
  | setCeiling h b o a => exact order_answers
  | clearCeiling h b o a => exact order_answers
  | clearLatch h b o a => exact order_answers
  | reidentify h b o a => exact order_answers
  | clearPeaks h b o a => exact order_answers
  | setPriority h b o a => exact order_answers
  | forgetStation h b o a => exact order_answers
  | clearAttention h b o a => exact order_answers
  | restart h b o a => exact order_answers
  -- the slot lines and the slot sequencer's timers
  | presenceAssert i => exact seq_answers fun q => ⟨rfl, rfl, rfl, rfl, rfl⟩
  | presenceDropBeforeSeating i => exact seq_answers fun q => ⟨rfl, rfl, rfl, rfl, rfl⟩
  | seating i => exact seating_answers i s
  | surpriseRemoval i => exact bay_answers fun _ h => presenceLost_switched h _
  | ejectorInputChange i x => exact seq_answers fun q => ⟨rfl, rfl, rfl, rfl, rfl⟩
  | ejectorOpening i => exact bay_answers fun _ h => opened_switched (withEjector_switched h _) _
  | ejectorClosing i => exact bay_answers fun _ h => closed_switched (withEjector_switched h _) _
  | inLimitChange i x => exact inLimitChange_answers i x s
  | gateFreeReset i => exact seq_answers fun q => ⟨rfl, rfl, rfl, rfl, rfl⟩
  | overcurrentFault i => exact bay_answers fun _ _ => fault_switched ..
  | severeOvercurrent i => exact severeOvercurrent_answers i s
  | rampTimeout i => exact rampTimeout_answers i s
  | retryTimerExpiry i => exact waitPower_answers .retryWait fun _ => rfl
  | retryClearExpiry i => exact seq_answers fun q => ⟨rfl, rfl, rfl, rfl, rfl⟩
  | gracefulExpiry i => exact bay_answers fun _ _ => endDraining_switched ..
  | stuckCheckEnd i => exact bay_answers fun c h => endStuckCheck_switched h (timerDue_isSome c) _
  | cycleTimerExpiry i => exact waitPower_answers .off fun _ => rfl
  -- the sideband link
  | sidebandTransactionStart i => exact transactionStart_answers i s
  | transactionHeldTooLong i => exact work_answers (failTransaction_safe i)
  | sidebandReadEnd i r => exact work_answers (endInventoryRead_safe i _)
  | capWriteEnd i x => exact simpleEvent_answers fun _ => endCapWrite_safe i x s
  | capConfirmReady i => exact link_answers
  | capConfirmTimeout i => exact link_answers
  | statusReadEnd i r => exact bay_answers fun _ h => endStatusRead_switched h _ _
  | shutdownWriteEnd i x => exact simpleEvent_answers fun _ => shutdownEnd_safe i s
  | heartbeatExpiry i => exact link_answers
  | complianceHoldEnd i => exact link_answers
  -- samples, supply channels and the inlet sensor
  | meterSample m => exact work_answers (takeSample_safe m)
  | meterWindowEnd i m => exact work_answers (takeSample_safe m)
  | outputBlockEnd c m => exact work_answers (takeSample_safe m)
  | supplyInputChange c k x =>
    exact simpleEvent_answers fun _ => setSupply_safe (fun p => by cases k <;> rfl) s
  | supplyPresenceDebounced c => exact supply_answers fun _ => rfl
  | supplyPowerGoodLost c => exact supply_answers fun _ => rfl
  | supplyPowerGoodRecovered c => exact supply_answers fun _ => rfl
  | supplyWarningDebounced c => exact supply_answers fun _ => rfl
  | inletReading r => exact inletReading_answers r s
  -- the resets and the census
  | powerOnReset => exact ⟨_, rfl, beginPowerOn_lawful s⟩
  | restartInputAssert => exact ⟨_, rfl, assertRestart_lawful s⟩
  | censusEnd => exact work_answers endCensus_safe
  | powerOnResetEnd straps inp => exact absurd n nofun
  | warmRestartEnd inp => exact absurd n nofun

end Sys2Proof.Machine
end

section
/-! PROOF. What the ends of the two resets leave, and the step: the statements on every command and on every step. -/

namespace Sys2Proof.Machine

/-! ### The slots at the end of a reset -/

theorem bayUnfitted_switched (cfg : SlotSettings) (c : ShutdownCause) : (bayUnfitted cfg c).Switched := .of_off rfl rfl

theorem bayPowerOn_switched (st : Settings) (inp : ResetInputs) (now : Nat) (i : SlotIx) :
    (bayPowerOn st inp now i).Switched := by
  simp only [bayPowerOn]
  split
  · exact .of_off rfl rfl
  · exact bayUnfitted_switched ..

theorem adopt_switched {b : Bay} (h : b.seq.stuckTimer = none) (now tst : Nat) : (b.adopt now tst).Switched := by
  simp only [Bay.adopt]
  split
  · exact .of_on (nofun) rfl h
  · exact .of_on (nofun) rfl h

theorem reexamine_switched (st : Settings) (inp : ResetInputs) (now : Nat) (old : Bay) (i : SlotIx) :
    (reexamine st inp now old i).Switched := by
  simp only [reexamine]
  split
  · exact bayUnfitted_switched ..
  split
  · exact .of_off rfl rfl
  split
  · split
    · exact .of_off rfl rfl
    · exact .of_off rfl rfl
  split
  · split
    · exact adopt_switched rfl ..
    · next g =>
      simp only [bne_iff_ne, ne_eq, Decidable.not_not] at g
      exact .of_off g rfl
  split
  · exact .of_off rfl rfl
  · next g =>
    simp only [bne_iff_ne, ne_eq, Decidable.not_not] at g
    exact .of_off g rfl

/-! ### The end of a reset -/

/-- What the end of a reset leaves of the invariants, whatever it found. -/
structure Begun (s t : State) : Prop where
  pending : t.pending = s.pending
  now : t.now = s.now
  line : LineInv t
  flags : FlagsInv t
  figures : FiguresInv t
  switches : SwitchInv t
  bus : s.bus.countersHold → BusInv t

theorem raiseAtReset_flags (s : State) : FlagsInv (raiseAtReset s) := by
  refine settleFlags_flags fun _ => ⟨fun i => ?_, ?_⟩
  · match i with
    | 0 => exact SlotFlags.grows_refl _
    | 1 => exact SlotFlags.grows_refl _
    | 2 => exact SlotFlags.grows_refl _
    | 3 => exact SlotFlags.grows_refl _
  · rw [conditionsBut_true]
    exact StationFlags.grows_refl _

theorem deriveAtReset_kept_bays (s : State) : (deriveAtReset s).bays = s.bays := rfl

theorem endReset_begun (st : Settings) (d : Bool) (e : Serial) {bays : Vector Bay 4} (h : Vector FanHealth 2)
    (inp : ResetInputs) (s : State) (q : ∀ i : SlotIx, bays[i].Switched) : Begun s (endReset st d e bays h inp s) := by
  unfold endReset
  extract_lets tst inlet t
  have k : Keeps true (deriveAtReset t) (flush (recompute ⟨offer .standing (offer .rollCall (deriveAtReset t)), []⟩)).st :=
    ((offer_keeps _ _).trans (offer_keeps _ _)).trans ((recompute_keeps ⟨_, []⟩).trans (flush_keeps _))
  exact {
    pending := k.fixed.pending
    now := k.fixed.now
    line := settleFlags_line _
    flags := raiseAtReset_flags _
    figures := attention_figures (attention_figures (flush_figures _ (recompute_figures _)))
    switches := fun _ => k.switches q
    bus := fun c => (busInv_iff _).mpr (k.bus ⟨⟨Nat.zero_le _, Nat.zero_le _, Nat.zero_le _⟩, c⟩) }

theorem endPowerOn_begun (a : Addr) (inp : ResetInputs) (s : State) : Begun s (endPowerOn a inp s) := by
  obtain ⟨pending, now, line, flags, figures, switches, bus⟩ := endReset_begun (settingsAtReset inp).1 (settingsAtReset inp).2
    0 (bays := Vector.ofFn fun i => bayPowerOn (settingsAtReset inp).1 inp s.now i) #v[.ok, .ok] inp
    { s with address := a, bus := { s.bus with good := 0, crcDrops := 0, overflows := 0, ordersRefused := 0 } }
    (fun i => by
      rw [Fin.getElem_fin, Vector.getElem_ofFn]
      exact bayPowerOn_switched ..)
  exact ⟨pending, now, line, flags, figures, switches, fun _ =>
    bus ⟨Nat.zero_le _, Nat.zero_le _, Nat.zero_le _, Nat.zero_le _⟩⟩

theorem endWarm_begun (inp : ResetInputs) (s : State) : Begun s (endWarm inp s) :=
  endReset_begun _ _ _ _ inp s fun i => by
    rw [Fin.getElem_fin, Vector.getElem_ofFn]
    exact reexamine_switched ..

/-- What a command keeps or, at the end of a reset, leaves. -/
theorem exec_cases (c : Instr) (s : State) :
    ∃ t, exec c s = .next t ∧ (Lawful false s t ∨ endsReset c = true ∧ Begun s t) := by
  have lawful (n : endsReset c = false) : ∃ t, exec c s = .next t ∧ Lawful false s t := by
    obtain ⟨t, e, k⟩ := exec_answers c s n
    exact ⟨t, e, { k with grows := nofun }⟩
  cases n : endsReset c with
  | false =>
    obtain ⟨t, e, k⟩ := lawful n
    exact ⟨t, e, .inl k⟩
  | true =>
    cases c <;> simp only [endsReset, Bool.false_eq_true] at n
    case powerOnResetEnd a inp =>
      refine ⟨_, rfl, ?_⟩
      split
      · exact .inr ⟨rfl, endPowerOn_begun a inp s⟩
      · exact .inl (.refl ..)
    case warmRestartEnd inp =>
      refine ⟨_, rfl, ?_⟩
      split
      · exact .inr ⟨rfl, endWarm_begun inp s⟩
      · exact .inl (.refl ..)

/-! ### The step -/

theorem step_front {s : State} {c : Instr} {rest : List Instr} (h : s.pending = c :: rest) :
    step s = exec c (s.withQueue rest) := by simp only [step, h]

theorem step_idle {s : State} (h : s.pending = []) : step s = .next (tick s) := by simp only [step, h]

/-- A step keeps `P` where the queue and the clock do not matter to it and every command keeps it. -/
theorem step_keeps {P : State → Prop} (queue : ∀ s q, P s → P (s.withQueue q)) (clock : ∀ s, P s → P (tick s))
    (command : ∀ s t, (Lawful false s t ∨ Begun s t) → P s → P t) {s t : State} (h : P s) (e : step s = .next t) : P t := by
  cases p : s.pending with
  | nil =>
    rw [step_idle p] at e
    exact Host.Outcome.next.inj e ▸ clock s h
  | cons c rest =>
    obtain ⟨u, x, k⟩ := exec_cases c (s.withQueue rest)
    rw [step_front p, x] at e
    exact Host.Outcome.next.inj e ▸ command _ _ (k.imp_right (·.2)) (queue s rest h)

theorem withQueue_figures {s : State} (q : List Instr) (h : FiguresInv s) : FiguresInv (s.withQueue q) :=
  .of_same (s := s) (.of_parts rfl rfl rfl (fun _ => rfl) fun _ => rfl) (.refl _) h

theorem tick_figures {s : State} (h : FiguresInv s) : FiguresInv (tick s) :=
  .of_same (s := s) (.of_parts rfl rfl rfl (fun _ => rfl) fun _ => rfl) (.refl _) h

/-- Settles O1: the two cases of a step, by the queue. -/
theorem stepRunsTheFrontCommand : Obligations.StepRunsTheFrontCommand := ⟨fun _ _ _ => step_front, fun _ => step_idle⟩

/-- Settles O2: every command has an answer, and the queue and the clock are among what it leaves alone. -/
theorem everyCommandCompletes : Obligations.EveryCommandCompletes := fun c s => by
  obtain ⟨t, e, k⟩ := exec_cases c s
  exact ⟨t, e, k.elim (fun k => ⟨k.pending, k.now⟩) fun k => ⟨k.2.pending, k.2.now⟩⟩

/-- The answer of a command that does not end a reset. -/
theorem exec_lawful {c : Instr} {s t : State} (n : endsReset c = false) (e : exec c s = .next t) :
    Lawful (!isOrder c) s t := by
  obtain ⟨u, x, k⟩ := exec_answers c s n
  rw [x] at e
  exact Host.Outcome.next.inj e ▸ k

theorem endsReset_of_ne {c : Instr} (p : ∀ a inp, c ≠ .powerOnResetEnd a inp) (w : ∀ inp, c ≠ .warmRestartEnd inp) :
    endsReset c = false := by
  cases c with
  | powerOnResetEnd a inp => exact absurd rfl (p a inp)
  | warmRestartEnd inp => exact absurd rfl (w inp)
  | _ => rfl

/-- Settles O3: no part of a command sets the address, the settings or the SELF entry. -/
theorem onlyResetEndsChangeTheStation : Obligations.OnlyResetEndsChangeTheStation := fun _ _ _ p w e =>
  have k := exec_lawful (endsReset_of_ne p w) e
  ⟨k.address, k.settings, k.startDefaults, k.self⟩

/-- Settles O4: only CLEAR ATTENTION clears a flag in LATCHED mode, and only an ORDER carries it. -/
theorem latchedFlagsStaySet : Obligations.LatchedFlagsStaySet := fun c _ _ l o n e =>
  (exec_lawful n e).grows (by rw [o]; rfl) l

/-- Settles O5: the flags follow the conditions through every part of a command, and the settling of the flags at its end
sets the line and, in LIVE mode, the flags. -/
theorem everyStepKeepsTheAttentionLine : Obligations.EveryStepKeepsTheAttentionLine := by
  refine ⟨fun s t h => ?_, fun s t h => ?_, fun b => ?_, fun s => ?_⟩
  · exact step_keeps (P := LineInv) (fun _ _ => id) (fun _ => id) (fun _ _ k => k.elim (·.line) fun k _ => k.line) h
  · refine step_keeps (P := FlagsInv) (fun _ _ h => ⟨h.slots, h.station, h.live⟩) (fun _ h => ⟨h.slots, h.station, h.live⟩)
      (fun _ _ k => k.elim (·.flags) fun k _ => k.flags) h
  · simp only [slotConditions, Bool.and_eq_true, beq_iff_eq, and_assoc, and_self]
  · simp only [stationConditions, anyFanFailed_iff, Bool.or_eq_true, anyMismatch_iff, and_self]

/-- Settles O6: every change of what the figures are computed from ends in a recomputation, and every change of a slot
reports the charge it leaves. -/
theorem everyStepKeepsTheFigures : Obligations.EveryStepKeepsTheFigures := by
  refine ⟨fun s t h => ?_, fun b => ?_, fun o i f w => modBay_tied o i f, fun w r l e h => ?_, fun w h e i => ?_⟩
  · exact step_keeps (P := FiguresInv) (fun _ => withQueue_figures) (fun _ => tick_figures)
      (fun _ _ k => k.elim (·.figures) fun k _ => k.figures) h
  · exact ⟨activeCeiling_none, fun a => activeCeiling_least, charge_of_zero, charge_stuck, charge_powered,
      charge_unseating, charge_draining⟩
  · exact deliver_tied r w.st l (e ▸ h)
  · rw [← told_of_none e]
    exact flush_tied w h i

/-- Settles O7: each move of a slot turns its switch as its new state asks. -/
theorem everyStepKeepsTheSwitches : Obligations.EveryStepKeepsTheSwitches := fun _ _ h =>
  step_keeps (P := SwitchInv) (fun _ _ => id) (fun _ => id) (fun _ _ k => k.elim (·.switches) fun k _ => k.switches) h

/-- Settles O8: an offer goes to a FIFO with room, and every count of a counter holds at its limit. -/
theorem everyStepKeepsTheBusPort : Obligations.EveryStepKeepsTheBusPort := fun _ _ h =>
  step_keeps (P := BusInv) (fun _ _ h => ⟨h.1, h.2⟩) (fun _ h => ⟨h.1, h.2⟩)
    (fun _ _ k => k.elim (·.bus) fun k h => k.bus h.counters) h

end Sys2Proof.Machine
end

section
/-! PROOF. The reset state, the bus port's counters, queue and timers, the slot's plain inputs, the link's starts and
timers, and the state of a supply channel. -/

namespace Sys2Proof.Machine

/-! ### The reset state -/

theorem reset_figures : FiguresInv State.reset := by
  constructor <;> decide

/-- Settles O9: the five invariants evaluate on the reset state. -/
theorem resetMeetsTheInvariants : Obligations.ResetMeetsTheInvariants := by
  refine ⟨by rw [LineInv]; decide, ⟨fun _ => ?_, fun _ => ?_, fun _ l => absurd l (by decide)⟩, reset_figures, fun _ => ?_,
    ⟨?_, ?_⟩⟩
  · simp only [SlotFlags.grows]; decide
  · simp only [StationFlags.grows]; decide
  · decide
  · simp only [BusPort.withinCapacity]; decide
  · simp only [BusPort.countersHold]; decide

/-! ### Damaged and foreign frames -/

/-- What the settling of the flags can set: the station flags as they are, or those of the conditions. -/
theorem settleFlags_station (s : State) :
    (settleFlags s).attention.station = s.attention.station ∨
      (settleFlags s).attention.station = stationConditions s := by
  simp only [settleFlags]
  split
  · exact .inr rfl
  · exact .inl rfl

/-- Settling the flags changes the attention record alone. -/
theorem settleFlags_eq (s : State) : settleFlags s = { s with attention := (settleFlags s).attention } := rfl

theorem busFaults_raised {s : State} (f : s.attention.station.busFaults = true) (c : s.bus.busFaults = true) :
    (settleFlags s).attention.station.busFaults = true := by
  obtain e | e := settleFlags_station s <;> rw [e]
  · exact f
  · exact c

theorem configMismatch_raised {s : State} (f : s.attention.station.configMismatch = true)
    (c : (stationConditions s).configMismatch = true) : (settleFlags s).attention.station.configMismatch = true := by
  obtain e | e := settleFlags_station s <;> rw [e]
  · exact f
  · exact c

/-- Settles O13: the two counts with the cause they may raise, then the settling of the flags. -/
theorem damagedAndForeignFrames : Obligations.DamagedAndForeignFrames := by
  refine fun s r => ⟨⟨_, simpleEvent_occurs _ r rfl, ?_⟩, fun idle =>
    ⟨_, simpleEvent_occurs _ r (by simp [sending, idle]), rfl, rfl, configMismatch_raised rfl (Bool.or_true _)⟩⟩
  simp only [countCrcDrop, Config.crcDropLimit, beq_iff_eq]
  split
  · next n => exact ⟨rfl, by simp [settleFlags, raiseStation, n], fun _ => busFaults_raised rfl rfl⟩
  · next n =>
    refine ⟨rfl, ?_, fun e => absurd e n⟩
    have e : (s.bus.crcCount + 1 == 8) = false := by simpa using n
    simp only [settleFlags, e, Bool.or_false]

/-! ### Offers -/

theorem setFifo_owed_fifo (b : BusPort) (c d : MsgClass) (l : List Outgoing) (o : List Owed) :
    ({ b.setFifo c l with owed := o } : BusPort).fifo d = if c = d then l else b.fifo d := by
  cases c <;> cases d <;> rfl

theorem setFifo_overflows (b : BusPort) (c : MsgClass) (l : List Outgoing) : (b.setFifo c l).overflows = b.overflows := by
  cases c <;> rfl

theorem setFifo_owed (b : BusPort) (c : MsgClass) (l : List Outgoing) : (b.setFifo c l).owed = b.owed := by
  cases c <;> rfl

theorem setFifo_onBus (b : BusPort) (c : MsgClass) (l : List Outgoing) : (b.setFifo c l).onBus = b.onBus := by
  cases c <;> rfl

/-- Replacing the waiting messages of a class, while one that has won the bus is its FIFO's head or its FIFO is empty. -/
theorem setWaiting_waiting (b : BusPort) (c : MsgClass) (l : List Outgoing) (h : b.waiting c ≠ []) :
    (b.setWaiting c l).waiting c = l := by
  have f : (b.setWaiting c l).fifo c = if b.wonBus c then (b.fifo c).take 1 ++ l else l := by
    simp only [BusPort.setWaiting]
    cases c <;> rfl
  have w : (b.setWaiting c l).wonBus c = b.wonBus c := by
    simp only [BusPort.setWaiting, BusPort.wonBus, setFifo_onBus]
  rw [BusPort.waiting, w, f]
  cases e : b.wonBus c with
  | false => rfl
  | true =>
    rw [BusPort.waiting, e] at h
    cases k : b.fifo c with
    | nil => rw [k] at h; exact absurd rfl h
    | cons m k => rfl

theorem waiting_of_any {b : BusPort} {c : MsgClass} {p : Outgoing → Bool} (h : (b.waiting c).any p = true) :
    b.waiting c ≠ [] := by
  rintro e
  rw [e] at h
  exact absurd h Bool.false_ne_true

/-- An offer that is absorbed or replaces what waits. -/
theorem offer_merges {b : BusPort} {m : Outgoing} (now tst : Nat) (h : merges b m = true) :
    (m = .standing → b.offer m now tst = b) ∧
    (∀ c st w, m = .supplyAlarm c st w →
      (b.offer m now tst).waiting .urgent = (b.waiting .urgent).map fun o => if isAlarmOf c o then m else o) ∧
    (b.offer m now tst).overflows = b.overflows ∧ (b.offer m now tst).owed = b.owed := by
  simp only [BusPort.offer, h, if_true]
  refine ⟨fun e => by rw [e], fun c st w e => ?_, ?_, ?_⟩
  · subst e
    exact setWaiting_waiting _ _ _ (waiting_of_any h)
  · split
    · exact setFifo_overflows ..
    · rfl
  · split
    · exact setFifo_owed ..
    · rfl

theorem offer_joins {b : BusPort} {m : Outgoing} (now tst : Nat) (h : merges b m = false)
    (r : (b.fifo m.cls).length < fifoCapacity m.cls) :
    b.offer m now tst = { b.setFifo m.cls (b.fifo m.cls ++ [m]) with owed := owedAfterTaking m b.owed } := by
  simp [BusPort.offer, h, hasRoom, r]

theorem offer_refused {b : BusPort} {m : Outgoing} (now tst : Nat) (h : merges b m = false)
    (r : fifoCapacity m.cls ≤ (b.fifo m.cls).length) :
    b.offer m now tst = { b with overflows := satInc b.overflows, owed := oweFor m (now + tst) b.owed } := by
  simp [BusPort.offer, h, hasRoom, r]

theorem owedAfterTaking_eq (m : Outgoing) (l : List Owed) :
    owedAfterTaking m l = if isClaim m = true then l.filter fun o => !isClaimDrop o.msg else l := by
  cases m <;> rfl

/-- A message that merges is no CLAIM. -/
theorem isClaim_of_merges {b : BusPort} {m : Outgoing} (h : merges b m = true) : isClaim m = false := by
  cases m with
  | claim w i k => exact absurd h Bool.false_ne_true
  | _ => rfl

/-- Settles O17: the three branches of an offer, and what is owed by the kind of the message. -/
theorem offersJoinMergeOrAreRefused : Obligations.OffersJoinMergeOrAreRefused := by
  refine fun b m now tst => ⟨fun h => ?_, fun h r => ?_, fun h r => ?_, fun h => ?_⟩
  · obtain ⟨standing, alarm, overflows, _⟩ := offer_merges now tst h
    exact ⟨standing, alarm, overflows⟩
  · rw [offer_joins now tst h r]
    exact ⟨by rw [setFifo_owed_fifo, if_pos rfl], setFifo_overflows ..⟩
  · rw [offer_refused now tst h r]
    refine ⟨fun c => by cases c <;> rfl, rfl, ?_, ?_, ?_, ?_⟩
    · rintro (⟨n, x, rfl⟩ | ⟨a, x, rfl⟩ | ⟨a, x, rfl⟩)
      · rfl
      · rfl
      · rfl
    · rintro rfl ⟨o, i, e⟩
      exact if_pos (List.any_eq_true.mpr ⟨o, i, by rw [e]; rfl⟩)
    · rintro rfl n
      exact if_neg fun y => by
        obtain ⟨o, i, e⟩ := List.any_eq_true.mp y
        exact n o i (eq_of_beq e)
    · intro again call
      cases m with
      | rollCall => exact absurd rfl call
      | claimDrop n x => exact absurd (.inl ⟨n, x, rfl⟩) again
      | laneReturn a x => exact absurd (.inr (.inl ⟨a, x, rfl⟩)) again
      | laneWithdraw a x => exact absurd (.inr (.inr ⟨a, x, rfl⟩)) again
      | _ => rfl
  · rw [← owedAfterTaking_eq]
    cases e : merges b m with
    | true => rw [(offer_merges now tst e).2.2.2, owedAfterTaking_eq, isClaim_of_merges e]; rfl
    | false => rw [offer_joins now tst e (h.resolve_left (by rw [e]; exact Bool.false_ne_true))]

/-! ### The bus port's timers -/

/-- Settles O18: each timer's event with the guard that its instant has come. -/
theorem busTimersAct : Obligations.BusTimersAct := by
  refine fun s r => ⟨fun d => ?_, fun d => ?_, fun k o e d => ?_, fun u e d => ?_⟩
  · exact simpleEvent_occurs _ r (decide_eq_true d)
  · exact simpleEvent_occurs _ r (decide_eq_true d)
  · have x : reoffer k s = offer o.msg { s with bus := { s.bus with owed := s.bus.owed.eraseIdx k } } := by
      simp only [reoffer, e, d, if_true]
    exact x ▸ simpleEvent_occurs (reoffer k) r rfl
  · exact simpleEvent_occurs endForeign r (by rw [e]; exact decide_eq_true d)

/-! ### A slot's inputs -/

/-- A bay changed in two ways that agree on it. -/
theorem setBay_congr {i : SlotIx} {f g : Bay → Bay} {s : State} (h : f s.bays[i] = g s.bays[i]) :
    setBay i f s = setBay i g s := by
  simp only [setBay, updAt, h]

/-- The event of a slot's sequencer that occurs. -/
theorem setSeq_occurs {s : State} {i : SlotIx} {g : Bool} {f : Seq → Seq} {x : Seq} (r : s.run = .running) (h : g = true)
    (e : f s.bays[i].seq = x) :
    simpleEvent s g (setSeq i f) = .next (settleFlags (setBay i (fun b => { b with seq := x }) s)) := by
  rw [simpleEvent_occurs _ r h, setSeq, setBay_congr (g := fun b => { b with seq := x }) (by rw [e])]

/-- The event of a slot's bay that reports nothing, where it occurs. -/
theorem setBay_occurs {s : State} {i : SlotIx} {g : Bool} {f h : Bay → Bay} (r : s.run = .running) (k : g = true)
    (e : f s.bays[i] = h s.bays[i]) : simpleEvent s g (setBay i f) = .next (settleFlags (setBay i h s)) := by
  rw [simpleEvent_occurs _ r k, setBay_congr e]

/-- The event of the in-limit comparator that occurs. -/
theorem inLimit_occurs {s : State} {i : SlotIx} {a : Bool} {x : Seq} (r : s.run = .running) (f : s.bays[i].fitted = true)
    (n : s.bays[i].seq.inLimit ≠ a) (e : s.bays[i].seq.inLimitChanged s.now s.bays[i].powered a = x) :
    exec (.inLimitChange i a) s = .next (settleFlags (setBay i (fun b => { b with seq := x }) s)) :=
  setBay_occurs r (by rw [f]; exact bne_iff_ne.mpr n) (by rw [e])

/-- Settles O40: each input's event under the guard that its level or timer gives. -/
theorem slotInputsAreTaken : Obligations.SlotInputsAreTaken := by
  intro s i r f
  dsimp only
  refine ⟨fun p e => ?_, fun p e => ?_, fun p e => ?_, fun o n => ?_, fun p l => ?_, fun p l => ?_, fun b p n => ?_,
    fun d e h => ?_, fun d e h => ?_⟩
  · exact setSeq_occurs r (by rw [f, p]; rfl) (by rw [e]; rfl)
  · exact setSeq_occurs r (by rw [f, p]; rfl) (by rw [beq_false_of_ne e]; rfl)
  · exact setSeq_occurs r (by rw [f, p, e]; rfl) rfl
  · refine setSeq_occurs r (by rw [f]; exact bne_iff_ne.mpr n) ?_
    by_cases h : o = s.bays[i].seq.ejectorOpen
    · rw [if_pos h, h, bne_self_eq_false]; rfl
    · rw [if_neg h, bne_iff_ne.mpr h]; rfl
  · refine inLimit_occurs r f (by rw [l]; exact Bool.false_ne_true) ?_
    rw [Seq.inLimitChanged, p]; rfl
  · refine inLimit_occurs r f (by rw [l]; exact Bool.false_ne_true.symm) ?_
    rw [Seq.inLimitChanged, p]; rfl
  · refine inLimit_occurs r f n ?_
    rw [Seq.inLimitChanged, p]; rfl
  · exact setSeq_occurs r (by rw [e]; exact decide_eq_true h) (by rw [e]; rfl)
  · exact setSeq_occurs r (by rw [e]; exact decide_eq_true h) rfl

/-! ### The sideband link -/

/-- A transaction that starts. -/
theorem start_occurs {s : State} {i : SlotIx} {t : Txn} {l : Link} (r : s.run = .running)
    (standby : s.bays[i].seq.standby = true) (free : s.bays[i].link.inFlight = none)
    (e : nextTxn s.now s.bays[i] = some t) (h : s.bays[i].link.started t = l) :
    exec (.sidebandTransactionStart i) s = .next (settleFlags (setBay i (fun b => { b with link := l }) s)) :=
  setBay_occurs r (by rw [Bay.canStart, standby, free, e]; rfl) (by simp only [Bay.start, e, h])

/-- A cap item that has no transaction ready. -/
theorem capTxn_idle {now : Nat} {o : Option CapItem} (h : ∀ x, o = some x → ∃ d u, x.phase = .confirming d false u) :
    o.bind (capTxn now) = none := by
  cases o with
  | none => rfl
  | some x =>
    obtain ⟨d, u, e⟩ := h x rfl
    simp [capTxn, e]

/-- Settles O45: the item of each rank, where none of a higher rank is ready. -/
theorem linksStartTheHighestItem : Obligations.LinksStartTheHighestItem := by
  intro s i r standby free
  dsimp only
  refine ⟨fun x e => ?_, fun f n v e => ?_, fun f n u v e => ?_, fun v idle e => ?_, fun v idle n e => ?_⟩
  · exact start_occurs r standby free (by rw [nextTxn, e]) rfl
  · exact start_occurs r standby free (by rw [nextTxn, v, e]; rfl) rfl
  · exact start_occurs r standby free (by rw [nextTxn, v, e]; rfl) (by simp only [Link.started, e]; rfl)
  · exact start_occurs r standby free (by rw [nextTxn, v, capTxn_idle idle, e]; rfl) rfl
  · have k : (s.bays[i].link.shutdown == .pending) = false := by simpa using n
    refine start_occurs r standby free (t := ⟨.read, 96, 8, [], .status, 1, s.now⟩) ?_ rfl
    simp only [nextTxn, v, capTxn_idle idle, k, e]
    rfl

/-- The kind of the transaction in flight decides whose end it can be. -/
theorem inFlightIs_kind {s : State} {i : SlotIx} {k : TxnKind} (h : s.bays[i].link.kind = some k) (p : TxnKind → Bool) :
    inFlightIs s i p = p k := by rw [inFlightIs, h]; rfl

theorem kind_of_inFlight {l : Link} {t : Txn} (h : l.inFlight = some t) : l.kind = some t.kind := by rw [Link.kind, h]; rfl

/-- Settles O50: each timer's event under its guard; the failure of a held transaction is the failed end of its kind. -/
theorem linkTimersAct : Obligations.LinkTimersAct := by
  intro s i r
  dsimp only
  refine ⟨fun t c e k => ?_, fun d e h => ?_, fun d e h => ?_, fun t e h => ?_⟩
  · exact simpleEvent_occurs _ r (by rw [inFlightIs_kind (kind_of_inFlight e), k]; rfl)
  · refine setBay_occurs r (by rw [e]; exact decide_eq_true h) ?_
    rw [e]
    simp only [Link.beat, beq_iff_eq, Option.getD_some]
  · exact setBay_occurs r (by rw [holdOver, e]; exact decide_eq_true h) rfl
  · have held : heldTooLong s i = true := by
      rw [heldTooLong, e]
      exact decide_eq_true h
    have kind := kind_of_inFlight e
    have ends {p : TxnKind → Bool} {f : Work → Work} (c : p t.kind = true) (x : failTransaction i ⟨s, []⟩ = f ⟨s, []⟩) :
        event s (inFlightIs s i p) f = .next (finish (failTransaction i ⟨s, []⟩)) := by
      rw [event_occurs f r (by rw [inFlightIs_kind kind, c]), x]
    refine ⟨_, event_occurs _ r held, ?_⟩
    cases k : t.kind with
    | inventory => exact ends (by rw [k]; rfl) (by simp only [failTransaction, kind, k]; rfl)
    | capWrite f live => exact ends (by rw [k]; rfl) (by simp only [failTransaction, kind, k])
    | shutdown => exact ends (by rw [k]; rfl) (by simp only [failTransaction, kind, k])
    | status => exact ends (by rw [k]; rfl) (by simp only [failTransaction, kind, k]; rfl)
    | confirm => exact ends (by rw [k]; rfl) (by simp only [failTransaction, kind, k]; rfl)

/-! ### Supply channels -/

/-- Settles O53: the branches of the derivation. -/
theorem supplyStatesAreDerived : Obligations.SupplyStatesAreDerived := by
  refine fun p => ⟨fun a => ?_, fun a g => ?_, fun a g x => ?_, fun a g w l => ?_⟩
  · simp [Supply.derived, a]
  · simp [Supply.derived, a, g]
  · have y : (p.warned || p.loaded) = true := Bool.or_eq_true_iff.mpr x
    simp [Supply.derived, a, g, y]
  · simp [Supply.derived, a, g, w, l]

end Sys2Proof.Machine
end

section
/-! PROOF. Frames that arrive: what a frame that is only heard leaves, what the frames of the broadcast kinds record, and the
ages of the peer view. -/

namespace Sys2Proof.Machine

/-! ### Heard frames -/

/-- An entry heard for the first time (R25). -/
def Peer.heardAt (now : Nat) (p : Peer) : Peer := { p with state := .live, ageFrom := some now }

theorem hear_unknown {p : Peer} (h : p.state = .unknown) (now : Nat) : p.hear now = p.heardAt now := by
  simp only [Peer.hear, h, Peer.heardAt]

theorem hear_epoch (p : Peer) (now : Nat) : (p.hear now).epoch = p.epoch := by
  simp only [Peer.hear]; split <;> rfl

theorem hear_mismatch (p : Peer) (now : Nat) : (p.hear now).mismatch = p.mismatch := by
  simp only [Peer.hear]; split <;> rfl

theorem hear_pending (p : Peer) (now : Nat) : (p.hear now).pending = p.pending := by
  simp only [Peer.hear]; split <;> rfl

theorem hear_roles (p : Peer) (now : Nat) : (p.hear now).roles = p.roles := by
  simp only [Peer.hear]; split <;> rfl

theorem setPeer_congr {a : Addr} {f g : Peer → Peer} {s : State} (h : f s.peers[a] = g s.peers[a]) :
    setPeer a f s = setPeer a g s := by simp only [setPeer, updAt, h]

/-- An entry replaced, its mismatch flag not coming to be set. -/
theorem replacePeer_quiet {a : Addr} {p q : Peer} {s : State} (h : q.mismatch = true → p.mismatch = true) :
    replacePeer a p q s = setPeer a (fun _ => q) s := by
  have n : (q.mismatch && !p.mismatch) = false := by
    cases e : q.mismatch with
    | false => rfl
    | true => rw [h e]; rfl
  rw [replacePeer, n]
  rfl

/-- A frame with no new epoch. -/
theorem takeFrame_epoch {src : Addr} {f : Peer → Peer} {always : Bool} {offers : State → State} {s : State}
    (h : s.peers[src].epoch = none ∨ s.peers[src].epoch = (f (s.peers[src].hear s.now)).epoch) :
    takeFrame src f always offers ⟨s, []⟩ =
      let t : Work := ⟨offers (replacePeer src s.peers[src] (f (s.peers[src].hear s.now)) (countGood s)), []⟩
      if s.peers[src].state == .unknown || always then notifyUnits t else t := by
  have r : (s.peers[src].epoch.isSome && s.peers[src].epoch != (f (s.peers[src].hear s.now)).epoch) = false := by
    rcases h with h | h
    · rw [h]; rfl
    · rw [h, bne_self_eq_false, Bool.and_false]
  simp only [takeFrame, r, Bool.or_false]
  rfl

/-- A frame of no block's, from a source that is UNKNOWN, is counted, heard and notified (R4, R25, R36). -/
theorem hearOnly_unknown {src : Addr} {s : State} (h : s.peers[src].state = .unknown) :
    hearOnly src ⟨s, []⟩ = notifyUnits ⟨setPeer src (Peer.heardAt s.now) (countGood s), []⟩ := by
  rw [hearOnly, takeFrame_epoch (.inr (hear_epoch ..).symm), replacePeer_quiet (by rw [id, hear_mismatch]; exact id), h]
  rw [id, id, hear_unknown h, setPeer_congr (g := Peer.heardAt s.now) rfl]
  rfl

/-- What a frame that is heard for the first time leaves, all reports delivered. -/
theorem hearOnly_kept {src : Addr} {s : State} (h : s.peers[src].state = .unknown) :
    Kept (setPeer src (Peer.heardAt s.now) (countGood s)) (flush (hearOnly src ⟨s, []⟩)).st := by
  rw [hearOnly_unknown h]
  exact (notifyUnits_kept ⟨_, []⟩).trans (flush_kept _)

theorem hearOnly_finish_kept {src : Addr} {s : State} (h : s.peers[src].state = .unknown) :
    Kept (setPeer src (Peer.heardAt s.now) (countGood s)) (finish (hearOnly src ⟨s, []⟩)) :=
  (hearOnly_kept h).trans (settleFlags_kept _)

/-! ### The deliveries of a frame -/

theorem ite_false_fun {α : Type} {c : Bool} {f g : α} (h : c = false) : (if c = true then f else g) = g := by
  rw [h]; rfl

/-- A body done in the station changes neither the good count nor the peer view. -/
structure Quiet (s t : State) : Prop where
  good : t.bus.good = s.bus.good
  peers : t.peers = s.peers

theorem Quiet.refl (s : State) : Quiet s s := ⟨rfl, rfl⟩

theorem Quiet.trans {s t u : State} (h : Quiet s t) (k : Quiet t u) : Quiet s u :=
  ⟨k.good.trans h.good, k.peers.trans h.peers⟩

theorem Kept.quiet {s t : State} (k : Kept s t) : Quiet s t := ⟨k.bus.good, k.peers⟩

theorem busOffer_good (b : BusPort) (m : Outgoing) (now tst : Nat) : (b.offer m now tst).good = b.good := by
  have set (c : MsgClass) (l : List Outgoing) : (b.setFifo c l).good = b.good := by cases c <;> rfl
  simp only [BusPort.offer]
  split
  · split
    · exact set _ _
    · rfl
  · split
    · exact set _ _
    · rfl

theorem offer_quiet (m : Outgoing) (s : State) : Quiet s (offer m s) := ⟨busOffer_good .., rfl⟩

theorem offerAll_quiet (ms : List Outgoing) (s : State) : Quiet s (offerAll ms s) := by
  induction ms generalizing s with
  | nil => exact .refl s
  | cons m ms ih => exact (offer_quiet m s).trans (ih _)

theorem ownerActs_quiet (m : Nat) (f : Owner → Owner × List Outgoing) (s : State) : Quiet s (ownerActs m f s) := by
  simp only [ownerActs]
  split
  · split
    · refine Quiet.trans ?_ (offerAll_quiet ..)
      exact ⟨rfl, rfl⟩
    · exact .refl s
  · exact .refl s

theorem setPort_quiet (i : SlotIx) (p : PortIx) (f : PortRec → PortRec) (s : State) : Quiet s (setPort i p f s) :=
  (setPort_kept i p f s).quiet

theorem takeOffer_quiet (src : Addr) (m : OfferMsg) (s : State) : Quiet s (takeOffer src m s) := by
  simp only [takeOffer]
  split
  · exact .refl s
  · split
    case h_1 => exact setPort_quiet ..
    case h_2 => exact setPort_quiet ..
    case h_3 =>
      split
      · exact .refl s
      · exact (offer_quiet ..).trans (setPort_quiet ..)
    all_goals exact (offer_quiet ..).trans (setPort_quiet ..)

theorem takeDefer_quiet (m : DeferMsg) (s : State) : Quiet s (takeDefer m s) := by
  simp only [takeDefer]
  split
  · exact .refl s
  · split
    · exact setPort_quiet ..
    · exact .refl s

theorem takeRefuse_quiet (m : RefuseMsg) (s : State) : Quiet s (takeRefuse m s) := by
  simp only [takeRefuse]
  split
  · exact .refl s
  · split
    · exact setPort_quiet ..
    · exact .refl s

theorem takeWithdraw_quiet (m : WithdrawMsg) (s : State) : Quiet s (takeWithdraw m s) := by
  simp only [takeWithdraw]
  split
  · exact .refl s
  · exact setPort_quiet ..

theorem ite_quiet {c : Bool} {f : State → State} (h : ∀ s, Quiet s (f s)) (s : State) :
    Quiet s ((if c = true then f else id) s) := by
  split
  · exact h s
  · exact .refl s

theorem askBody_quiet {dst : Addr} {a : AskOperands} {f : State → State} (h : ∀ s, Quiet s (f s)) (s : State) :
    Quiet s (askBody dst a f s) := by
  simp only [askBody]
  split
  · exact offer_quiet ..
  · exact h s

/-! ### Frames that are only counted or heard -/

/-- A frame from an UNKNOWN source that no block acts on. -/
def HeardOnly (s : State) (src : Addr) (o : Host.Outcome State Fault Refusal) : Prop :=
  ∃ t, o = .next t ∧ Kept (setPeer src (fun p => { p with state := .live, ageFrom := some s.now }) (countGood s)) t

theorem received_heardOnly {s : State} {src : Addr} (r : s.run = .running) (n : src ≠ s.address)
    (u : s.peers[src].state = .unknown) : HeardOnly s src (received s src (hearOnly src)) :=
  ⟨_, received_from _ r n, hearOnly_finish_kept u⟩

/-- A broadcast with a field out of its range. -/
theorem ranged_heardOnly {s : State} {src : Addr} {c : Bool} {f : Work → Work} (r : s.run = .running)
    (n : src ≠ s.address) (u : s.peers[src].state = .unknown) (h : c = false) :
    HeardOnly s src (received s src (if c = true then f else hearOnly src)) := by
  rw [h]; exact received_heardOnly r n u

/-- What a destined frame answers. -/
theorem destined_answer {s : State} {x : Route} (body : Work → Work) (r : s.run = .running) (n : x.src ≠ s.address) :
    destined s x body = .next (finish (if x.dst = s.address then body (flush (hearOnly x.src ⟨s, []⟩))
      else flush (hearOnly x.src ⟨s, []⟩))) := received_from _ r n

/-- A destined frame whose body does nothing, or that is not for this station. -/
theorem destined_heardOnly {s : State} {x : Route} {f : State → State} (r : s.run = .running) (n : x.src ≠ s.address)
    (u : s.peers[x.src].state = .unknown) (h : f = id ∨ x.dst ≠ s.address) :
    HeardOnly s x.src (destined s x (Work.map f)) := by
  have k : HeardOnly s x.src (.next (finish (flush (hearOnly x.src ⟨s, []⟩)))) :=
    ⟨_, rfl, (hearOnly_kept u).trans (finish_kept _)⟩
  rw [destined_answer _ r n]
  rcases h with h | h
  · subst h
    have e : (flush (hearOnly x.src ⟨s, []⟩)).map id = flush (hearOnly x.src ⟨s, []⟩) := rfl
    rw [e, ite_self]
    exact k
  · rw [if_neg h]
    exact k

/-- What a destined frame from an UNKNOWN source leaves of the good count and the peer view. -/
theorem destined_heard {s : State} {x : Route} {f : State → State} (r : s.run = .running) (n : x.src ≠ s.address)
    (u : s.peers[x.src].state = .unknown) (q : ∀ s, Quiet s (f s)) :
    ∃ t, destined s x (Work.map f) = .next t ∧ t.bus.good = satInc s.bus.good ∧
      t.peers = updAt s.peers x.src (fun p => { p with state := .live, ageFrom := some s.now }) ∧
      (x.dst ≠ s.address → HeardOnly s x.src (destined s x (Work.map f))) := by
  refine ⟨_, destined_answer _ r n, ?_⟩
  have k := (hearOnly_kept u).quiet
  have l : Quiet (setPeer x.src (Peer.heardAt s.now) (countGood s)) (finish (if x.dst = s.address then
      (flush (hearOnly x.src ⟨s, []⟩)).map f else flush (hearOnly x.src ⟨s, []⟩))) := by
    split
    · exact (k.trans (q _)).trans (finish_kept ((flush (hearOnly x.src ⟨s, []⟩)).map f)).quiet
    · exact k.trans (finish_kept _).quiet
  exact ⟨l.good, l.peers, fun d => destined_heardOnly r n u (.inr d)⟩

/-- An ORDER for another station. -/
theorem order_away {s : State} {h : OrderHead} {m : OrderMsg} (d : h.route.dst ≠ s.address) :
    order s h m = received s h.route.src (hearOnly h.route.src) := by
  have e : (h.route.dst == s.address) = false := by simpa using d
  simp only [order, e, Bool.and_false, Bool.false_eq_true, if_false]

/-- Every order row is the ORDER of its list. -/
theorem exec_orderRows {h : OrderHead} {b a : List OrderAction} {o : OwnAction} {c : Instr × Action}
    (m : c ∈ orderRows h b o a) (s : State) : exec c.1 s = order s h (orderOf h c.2 b o a) := by
  simp only [orderRows, List.mem_cons, List.not_mem_nil, or_false] at m
  rcases m with rfl | rfl | rfl | rfl | rfl | rfl | rfl | rfl | rfl | rfl | rfl | rfl
  all_goals rfl

/-- A frame from a known source that no block acts on. -/
theorem received_counted {s : State} {src : Addr} (r : s.run = .running) (n : src ≠ s.address)
    (k : s.peers[src].state ≠ .unknown) :
    received s src (hearOnly src) = .next (settleFlags (countGood s)) := by
  rw [received_from _ r n, hearOnly_known k, finish_done]

theorem ranged_counted {s : State} {src : Addr} {c : Bool} {f : Work → Work} (r : s.run = .running)
    (n : src ≠ s.address) (k : s.peers[src].state ≠ .unknown) (h : c = false) :
    received s src (if c = true then f else hearOnly src) = .next (settleFlags (countGood s)) := by
  rw [h]; exact received_counted r n k

/-- A destined frame from a known source whose body does nothing, or that is not for this station. -/
theorem destined_counted {s : State} {x : Route} {f : State → State} (r : s.run = .running) (n : x.src ≠ s.address)
    (k : s.peers[x.src].state ≠ .unknown) (h : f = id ∨ x.dst ≠ s.address) :
    destined s x (Work.map f) = .next (settleFlags (countGood s)) := by
  rw [destined_from _ r n k]
  rcases h with h | h
  · subst h
    rw [show Work.map id ⟨countGood s, []⟩ = ⟨countGood s, []⟩ from rfl, ite_self, finish_done]
  · rw [if_neg h, finish_done]

/-- Settles O14: the rows whose frame is dropped after it is counted and heard, by the state of the source. -/
theorem undeliveredFramesAreCounted : Obligations.UndeliveredFramesAreCounted := by
  refine ⟨fun s src r n u => ?_, fun s x r n k => ?_⟩
  · refine ⟨received_heardOnly r n u, fun m h => ranged_heardOnly r n u h, fun m h => ranged_heardOnly r n u h,
      fun m h => ranged_heardOnly r n u h, fun m h => ranged_heardOnly r n u h, fun dst => ⟨fun m => received_heardOnly r n u,
      fun m h => destined_heardOnly r n u (.inl (ite_false_fun h)),
      fun m h => destined_heardOnly r n u (.inl (ite_false_fun h)),
      fun m h => destined_heardOnly r n u (.inl (ite_false_fun h)), ?_, ?_⟩⟩
    · rintro d h b o a e c m
      rw [exec_orderRows m]
      have src' : h.route.src = src := by rw [e]
      rw [order_away (by rw [e]; exact d), src']
      exact received_heardOnly r n u
    · intro m1 m2 m3 m4 m5 m6 a c m
      simp only [List.mem_cons, List.not_mem_nil, or_false] at m
      rcases m with rfl | rfl | rfl | rfl | rfl | rfl | rfl | rfl | rfl | rfl | rfl | rfl | rfl
      · exact destined_heard r n u (ownerActs_quiet _ _)
      · exact destined_heard r n u (ownerActs_quiet _ _)
      · exact destined_heard r n u (ite_quiet (takeOffer_quiet src m3))
      · exact destined_heard r n u (takeDefer_quiet m4)
      · exact destined_heard r n u (ite_quiet (takeRefuse_quiet m5))
      · exact destined_heard r n u (ite_quiet (takeWithdraw_quiet m6))
      all_goals exact destined_heard r n u (askBody_quiet fun _ => offer_quiet ..)
  · refine ⟨received_counted r n k, fun m => received_counted r n k, fun m h => ranged_counted r n k h,
      fun m h => ranged_counted r n k h, fun m h => ranged_counted r n k h, fun m h => ranged_counted r n k h,
      fun m h => destined_counted r n k (.inl (ite_false_fun h)), fun m h => destined_counted r n k (.inl (ite_false_fun h)),
      fun m h => destined_counted r n k (.inl (ite_false_fun h)), fun d => ⟨fun m => destined_counted r n k (.inr d),
      fun m => destined_counted r n k (.inr d), fun m => destined_counted r n k (.inr d),
      fun m => destined_counted r n k (.inr d), fun m => destined_counted r n k (.inr d),
      fun m => destined_counted r n k (.inr d), ?_, ?_⟩⟩
    · intro a c m
      simp only [List.mem_cons, List.not_mem_nil, or_false] at m
      rcases m with rfl | rfl | rfl | rfl | rfl | rfl | rfl
      all_goals exact destined_counted r n k (.inr d)
    · rintro h b o a e c m
      rw [exec_orderRows m, order_away (by rw [e]; exact d), e]
      exact received_counted r n k

end Sys2Proof.Machine
end

section
/-! PROOF. What the frames of the broadcast kinds record in the peer view, and the ages that pass (chapter Peer view). -/

namespace Sys2Proof.Machine

/-- A frame whose kind always notifies, with no new epoch and no mismatch that comes to be set. -/
theorem takeFrame_notifies {src : Addr} {f g : Peer → Peer} {offers : State → State} {s : State}
    (e : s.peers[src].epoch = none ∨ s.peers[src].epoch = (f (s.peers[src].hear s.now)).epoch)
    (q : (f (s.peers[src].hear s.now)).mismatch = true → s.peers[src].mismatch = true)
    (h : f (s.peers[src].hear s.now) = g s.peers[src]) :
    takeFrame src f true offers ⟨s, []⟩ = notifyUnits ⟨offers (setPeer src g (countGood s)), []⟩ := by
  rw [takeFrame_epoch e, replacePeer_quiet q, Bool.or_true]
  simp only [if_true]
  rw [setPeer_congr (g := g) h]

/-- A frame of a broadcast kind in its range. -/
theorem received_ranged {s : State} {src : Addr} {c : Bool} {f : Work → Work} (r : s.run = .running)
    (n : src ≠ s.address) (h : c = true) :
    received s src (if c = true then f else hearOnly src) = .next (finish (f ⟨s, []⟩)) := by
  rw [h]; exact received_from _ r n

theorem received_if {s : State} {src : Addr} {c : Bool} {f g : Work → Work} (h : c = true) :
    received s src (if c = true then f else g) = received s src f := by rw [h]; rfl

theorem notify_finish_kept (u : State) : Kept u (finish (notifyUnits ⟨u, []⟩)) :=
  (notifyUnits_kept ⟨u, []⟩).trans (finish_kept _)

/-- A command that changes a state to `u`, and then notifies. -/
theorem notified {o : Host.Outcome State Fault Refusal} {u : State} (h : o = .next (finish (notifyUnits ⟨u, []⟩))) :
    o = .next (finish (notifyUnits ⟨u, []⟩)) ∧ ∃ t, o = .next t ∧ Kept u t :=
  ⟨h, _, h, notify_finish_kept u⟩

/-! ### ROLL CALL -/

theorem newEpoch_of_known {p : Peer} {e : Serial} (h : p.epoch = none ∨ p.epoch = some e) : p.newEpoch e = false := by
  rcases h with h | h
  · simp only [Peer.newEpoch, h]
  · simp only [Peer.newEpoch, h, bne_self_eq_false]

/-- The raised cause of a mismatch commutes with an offer. -/
theorem offer_replacePeer_kept (a : Addr) (p q : Peer) (c : Prop) [Decidable c] (m : Outgoing) (s : State) :
    Kept ((if c then offer m else id) (setPeer a (fun _ => q) s)) ((if c then offer m else id) (replacePeer a p q s)) := by
  have raised (u : State) : Kept u (raiseStation (fun f => { f with configMismatch := true }) u) :=
    raiseStation_kept (f := fun f => { f with configMismatch := true }) (fun _ => ⟨id, id, id, fun _ => rfl, id, id⟩) u
  cases x : q.mismatch && !p.mismatch with
  | false =>
    simp only [replacePeer, x, Bool.false_eq_true, if_false]
    exact .refl _
  | true =>
    simp only [replacePeer, x, if_true]
    split
    · exact raised (offer m (setPeer a (fun _ => q) s))
    · exact raised (setPeer a (fun _ => q) s)

theorem notifyUnits_keeps (w : Work) : Keeps true w.st (notifyUnits w).st := (Safe.of_notify (.refl ..)).toKeeps

/-- A cause that is raised, and whose condition a mismatch flag holds, is set at the end of the event. -/
theorem mismatch_raised {w : Work} {a : Addr} (f : w.st.attention.station.configMismatch = true)
    (m : w.st.peers[a].mismatch = true) : (finish w).attention.station.configMismatch = true := by
  refine configMismatch_raised (((flush_keeps w).grows rfl).2.2.2.2.1 f) ?_
  refine Bool.or_eq_true_iff.mpr (.inl ((anyMismatch_iff _).mpr ⟨a, ?_⟩))
  rw [(flush_kept w).peers]
  exact m

/-- Settles O19: the entry is replaced by the one the ROLL CALL records; what follows is the own ROLL CALL and, for a newly
heard peer, the notification. -/
theorem rollCallsAreRecorded : Obligations.RollCallsAreRecorded := by
  intro s src m r n inRange known
  have new : s.peers[src].newEpoch m.epoch = false := newEpoch_of_known known
  have new' : (s.peers[src].hear s.now).newEpoch m.epoch = false := newEpoch_of_known (by rw [hear_epoch]; exact known)
  have taken : (s.peers[src].hear s.now).takeRollCall m s.self.digest = { s.peers[src].hear s.now with
      epoch := some m.epoch, roles := some m.roles, digest := some m.digest
      mismatch := !m.roles.operator && m.digest != s.self.digest } := by
    simp only [Peer.takeRollCall, Peer.checkEpoch, new', Bool.false_eq_true, if_false]
  let q : Peer := (s.peers[src].hear s.now).takeRollCall m s.self.digest
  let t : State := (if s.peers[src].state = .unknown then offer .rollCall else id)
    (replacePeer src s.peers[src] q (countGood s))
  have e : takeRollCall src m ⟨s, []⟩ = if s.peers[src].state == .unknown then notifyUnits ⟨t, []⟩ else ⟨t, []⟩ := by
    have epoch : s.peers[src].epoch = none ∨ s.peers[src].epoch = q.epoch := known
    rw [takeRollCall, takeFrame_epoch epoch, new]
    simp only [Bool.or_false, t, beq_iff_eq]
    split
    · rfl
    · rfl
  have k : Kept t (finish (takeRollCall src m ⟨s, []⟩)) := by
    rw [e]
    split
    · exact (notifyUnits_kept ⟨t, []⟩).trans (finish_kept _)
    · exact finish_kept ⟨t, []⟩
  refine ⟨_, received_ranged r n inRange, ?_, fun clear operator differ => ?_⟩
  · rw [setPeer_congr (g := fun _ => q) taken.symm]
    exact (offer_replacePeer_kept ..).trans k
  · have mismatch : q.mismatch = true := by
      rw [show q.mismatch = (!m.roles.operator && m.digest != s.self.digest) from rfl, operator, bne_iff_ne.mpr differ]
      rfl
    have flag : t.attention.station.configMismatch = true ∧ t.peers[src].mismatch = true := by
      have x : replacePeer src s.peers[src] q (countGood s) =
          raiseStation (fun f => { f with configMismatch := true }) (setPeer src (fun _ => q) (countGood s)) := by
        simp only [replacePeer, mismatch, clear, Bool.not_false, Bool.and_self, if_true]
      have y : (setPeer src (fun _ => q) (countGood s)).peers[src].mismatch = true := by
        rw [setPeer_peers, updAt_self]
        exact mismatch
      simp only [t, x]
      split
      · exact ⟨rfl, y⟩
      · exact ⟨rfl, y⟩
    rw [e]
    split
    · have l := (notifyUnits_keeps ⟨t, []⟩).grows rfl
      exact mismatch_raised (a := src) (l.2.2.2.2.1 flag.1) (by rw [(notifyUnits_kept ⟨t, []⟩).peers]; exact flag.2)
    · exact mismatch_raised (w := ⟨t, []⟩) flag.1 flag.2

/-! ### STANDING -/

/-- Settles O20: the entry is replaced by the one the STANDING records, the ASK ROLL is offered where it is asked for, and
the units are notified. -/
theorem standingsAreRecorded : Obligations.StandingsAreRecorded := by
  intro s src m r n inRange known
  refine notified ?_
  have new' : (s.peers[src].hear s.now).newEpoch m.epoch = false := newEpoch_of_known (by rw [hear_epoch]; exact known)
  have mismatch : ((s.peers[src].hear s.now).takeStanding m s.now).mismatch = s.peers[src].mismatch := hear_mismatch ..
  refine (received_ranged r n inRange).trans ?_
  rw [takeStanding, takeFrame_notifies (g := fun p => { p with
        state := .live, epoch := some m.epoch, standing := some m, ageFrom := some s.now
        pending := p.pending.filter fun c => !(m.folded == c.number || serialAfter m.folded c.number) }) known
      (fun h => mismatch ▸ h) ?_]
  · have roles : (setPeer src (fun p => { p with
        state := .live, epoch := some m.epoch, standing := some m, ageFrom := some s.now
        pending := p.pending.filter fun c => !(m.folded == c.number || serialAfter m.folded c.number) })
        (countGood s)).peers[src].roles = s.peers[src].roles := by rw [setPeer_peers, updAt_self]; rfl
    rw [roles]
    have x : (s.peers[src].roles.isNone && !askRollQueued s src) = true ↔
        s.peers[src].roles = none ∧ askRollQueued s src = false := by
      simp only [Bool.and_eq_true, Option.isNone_iff_eq_none, Bool.not_eq_true']
    have y (p : Peer → Peer) : askRollQueued (setPeer src p (countGood s)) src = askRollQueued s src := rfl
    rw [y, if_congr x rfl rfl]
    split
    · rfl
    · rfl
  · simp only [Peer.takeStanding, Peer.checkEpoch, new', Bool.false_eq_true, if_false, foldPending, hear_pending]
    simp only [Peer.hear]
    split <;> rfl

/-! ### CLAIM, CLAIM DROP and SUPPLY ALARM -/

/-- A frame whose kind always notifies, and which leaves epoch and mismatch flag. -/
theorem records {src : Addr} {f : Peer → Peer} {s : State} (r : s.run = .running) (n : src ≠ s.address)
    (e : ∀ p, (f p).epoch = p.epoch) (q : ∀ p, (f p).mismatch = p.mismatch) :
    received s src (takeFrame src f true id) =
      .next (finish (notifyUnits ⟨setPeer src (fun p => f (p.hear s.now)) (countGood s), []⟩)) := by
  rw [received_from _ r n, takeFrame_notifies (g := fun p => f (p.hear s.now)) (.inr (by rw [e, hear_epoch]))
    (by rw [q, hear_mismatch]; exact id) rfl]
  rfl

/-- Settles O22: each kind's change of the entry, and the notification. -/
theorem claimsDropsAndAlarmsAreRecorded : Obligations.ClaimsDropsAndAlarmsAreRecorded := by
  refine fun s src r n => ⟨fun m h => notified ?_, fun m h => notified ?_, fun m => notified ?_⟩
  · refine (received_if (f := takeClaim src m) h).trans ?_
    rw [received_from _ r n, takeClaim, ← received_from (takeFrame src (fun q => q.takeClaim m s.now) true id) r n]
    exact records r n (fun _ => rfl) fun _ => rfl
  · refine (received_if (f := takeClaimDrop src m) h).trans ?_
    refine (records (f := fun q => q.takeClaimDrop m) r n (fun _ => rfl) fun _ => rfl).trans ?_
    rw [setPeer_congr (g := fun p => { p.hear s.now with pending := p.pending.filter fun c => c.number != m.number })
      (by simp only [Peer.takeClaimDrop, hear_pending])]
  · refine (records (f := fun q => q.takeAlarm m) r n (fun _ => rfl) fun _ => rfl).trans ?_
    rw [setPeer_congr (g := fun p => { p.hear s.now with standing := p.standing.map fun st =>
      { st with supplies := st.supplies.modify m.channel.val fun r => { r with state := m.state, rated := m.rated } } }) ?_]
    simp only [Peer.takeAlarm, Peer.hear]
    split <;> rfl

end Sys2Proof.Machine
end

section
/-! PROOF. What the delivery of reports does to the port lane records and to the CONTROL messages that wait: no report of an
entry into RUNNING comes from a recomputation, so a record stays or ends, no bid joins the queue and no withdrawal of lanes
leaves it. -/

namespace Sys2Proof.Machine

/-! ### Messages that wait in CONTROL -/

theorem mem_waiting_setWaiting {b : BusPort} {c : MsgClass} {l : List Outgoing} {x : Outgoing}
    (h : x ∈ (b.setWaiting c l).waiting c) : x ∈ l := by
  have f : (b.setWaiting c l).fifo c = if b.wonBus c then (b.fifo c).take 1 ++ l else l := by
    simp only [BusPort.setWaiting]
    cases c <;> rfl
  have w : (b.setWaiting c l).wonBus c = b.wonBus c := by
    simp only [BusPort.setWaiting, BusPort.wonBus, setFifo_onBus]
  rw [BusPort.waiting, w, f] at h
  cases e : b.wonBus c with
  | false => rw [e] at h; exact h
  | true =>
    rw [e] at h
    simp only [if_true] at h
    cases k : b.fifo c with
    | nil => rw [k] at h; exact List.mem_of_mem_drop h
    | cons y k' => rw [k] at h; exact h

/-- The CONTROL FIFO after an offer: as it was, or with the message at its tail. -/
theorem offer_control (b : BusPort) (m : Outgoing) (now tst : Nat) :
    (b.offer m now tst).control = b.control ∨ (b.offer m now tst).control = b.control ++ [m] := by
  have set (c : MsgClass) (l : List Outgoing) : (b.setFifo c l).control = if c = .control then l else b.control := by
    cases c <;> rfl
  simp only [BusPort.offer]
  split
  · split
    · exact .inl rfl
    · exact .inl rfl
  · split
    · rw [set]
      split
      · next e => rw [e]; exact .inr rfl
      · exact .inl rfl
    · exact .inl rfl

theorem offer_onBus (b : BusPort) (m : Outgoing) (now tst : Nat) : (b.offer m now tst).onBus = b.onBus := by
  simp only [BusPort.offer]
  split
  · split
    · exact setFifo_onBus ..
    · rfl
  · split
    · exact setFifo_onBus ..
    · rfl

theorem mem_waiting_offer {b : BusPort} {m x : Outgoing} {now tst : Nat}
    (h : x ∈ (b.offer m now tst).waiting .control) : x ∈ b.waiting .control ∨ x = m := by
  have w : (b.offer m now tst).wonBus .control = b.wonBus .control := by simp only [BusPort.wonBus, offer_onBus]
  have f : (b.offer m now tst).fifo .control = (b.offer m now tst).control := rfl
  rw [BusPort.waiting, w, f] at h
  have g : b.waiting .control = if b.wonBus .control = true then b.control.drop 1 else b.control := rfl
  rw [g]
  rcases offer_control b m now tst with e | e
  · rw [e] at h
    exact .inl h
  · rw [e] at h
    split
    · next c =>
      rw [c] at h
      simp only [if_true] at h
      cases k : b.control with
      | nil => rw [k] at h; exact absurd h List.not_mem_nil
      | cons y l =>
        rw [k] at h
        simpa using h
    · next c =>
      rw [if_neg c] at h
      simpa using h

/-- A LANE WITHDRAW. -/
def isLaneWithdraw : Outgoing → Bool
  | .laneWithdraw _ _ => true
  | _ => false

/-- A withdrawal of messages of another kind leaves a message in its FIFO (R9). -/
theorem mem_control_withdrawQueued {s : State} {p : Outgoing → Bool} {m : Outgoing} (h : m ∈ s.bus.control)
    (n : p m = false) : m ∈ (withdrawQueued .control p s).bus.control := by
  have e : (withdrawQueued .control p s).bus.control =
      if s.bus.wonBus .control then s.bus.control.take 1 ++ (s.bus.waiting .control).filter fun x => !p x
      else (s.bus.waiting .control).filter fun x => !p x := rfl
  have keep {l : List Outgoing} (k : m ∈ l) : m ∈ l.filter fun x => !p x := List.mem_filter.mpr ⟨k, by rw [n]; rfl⟩
  rw [e, BusPort.waiting]
  split
  · rw [← List.take_append_drop 1 s.bus.control] at h
    exact List.mem_append.mpr ((List.mem_append.mp h).imp id keep)
  · exact keep h

/-! ### What a delivery keeps -/

/-- A port lane record stays or ends, a record without a queued bid gets none, and a LANE WITHDRAW stays queued. -/
structure Falls (s t : State) : Prop where
  ports : ∀ (i : SlotIx) (p : PortIx), (portOf t i p).state = .none ∨ portOf t i p = portOf s i p
  bids : ∀ (i : SlotIx) (p : PortIx), bidQueued s i p = false → bidQueued t i p = false
  withdrawals : ∀ m, isLaneWithdraw m = true → m ∈ s.bus.control → m ∈ t.bus.control

theorem Falls.refl (s : State) : Falls s s := ⟨fun _ _ => .inr rfl, fun _ _ => id, fun _ _ => id⟩

theorem Falls.trans {s t u : State} (h : Falls s t) (k : Falls t u) : Falls s u where
  ports := fun i p => (k.ports i p).elim .inl fun e => e ▸ h.ports i p
  bids := fun i p e => k.bids i p (h.bids i p e)
  withdrawals := fun m x e => k.withdrawals m x (h.withdrawals m x e)

theorem Falls.of_same {s t : State} (b : ∀ i : SlotIx, t.bays[i].ports = s.bays[i].ports) (h : t.bus = s.bus) :
    Falls s t where
  ports := fun i p => .inr (by rw [portOf, portOf, b])
  bids := fun i p e => by rw [bidQueued, h]; exact e
  withdrawals := fun m _ e => h ▸ e

theorem bidQueued_false_iff {s : State} {i : SlotIx} {p : PortIx} :
    bidQueued s i p = false ↔ ∀ m ∈ s.bus.waiting .control, isBidOf i p m = false := by
  simp only [bidQueued, List.any_eq_false, Bool.not_eq_true]

/-- An offer of a message that is no bid. -/
theorem offer_falls {m : Outgoing} (h : ∀ i p, isBidOf i p m = false) (s : State) : Falls s (offer m s) where
  ports := fun _ _ => .inr rfl
  bids := fun i p e => bidQueued_false_iff.mpr fun x k =>
    (mem_waiting_offer k).elim (bidQueued_false_iff.mp e x) fun y => y ▸ h i p
  withdrawals := fun x _ e => by
    rw [offer_bus]
    rcases offer_control s.bus m s.now s.tst with y | y
    · rw [y]; exact e
    · rw [y]; exact List.mem_append.mpr (.inl e)

theorem withdrawQueued_falls {p : Outgoing → Bool} (h : ∀ m, isLaneWithdraw m = true → p m = false) (s : State) :
    Falls s (withdrawQueued .control p s) where
  ports := fun _ _ => .inr rfl
  bids := fun _ _ e => bidQueued_false_iff.mpr fun x k =>
    bidQueued_false_iff.mp e x (List.mem_of_mem_filter (mem_waiting_setWaiting k))
  withdrawals := fun m w e => mem_control_withdrawQueued e (h m w)

theorem foldl_falls {α : Type} {f : State → α → State} (h : ∀ s x, Falls s (f s x)) (l : List α) (s : State) :
    Falls s (l.foldl f s) := by
  induction l generalizing s with
  | nil => exact .refl s
  | cons x l ih => exact (h s x).trans (ih _)

theorem portOf_setPort (i : SlotIx) (p : PortIx) (f : PortRec → PortRec) (s : State) (j : SlotIx) (q : PortIx) :
    portOf (setPort i p f s) j q = if i = j ∧ p = q then f (portOf s i p) else portOf s j q := by
  by_cases e : i = j
  · subst e
    simp only [portOf, setPort, setBay_bays, updAt_self, true_and, updAt_get]
  · simp only [portOf, setPort, setBay_bays, updAt_ne _ _ _ _ e, e, false_and, if_false]

/-- A record ended. -/
theorem setPort_none_falls {i : SlotIx} {p : PortIx} {f : PortRec → PortRec} (h : ∀ r, (f r).state = .none) (s : State) :
    Falls s (setPort i p f s) where
  ports := fun j q => by
    rw [portOf_setPort]
    split
    · exact .inl (h _)
    · exact .inr rfl
  bids := fun _ _ => id
  withdrawals := fun _ _ => id

theorem isBidOf_withdraw {i : SlotIx} {p : PortIx} {m : Outgoing} (h : isLaneWithdraw m = true) :
    isBidOf i p m = false := by
  cases m with
  | laneWithdraw a x => rfl
  | _ => exact absurd h Bool.false_ne_true

theorem isClaim_withdraw {m : Outgoing} (h : isLaneWithdraw m = true) : isClaim m = false := by
  cases m with
  | laneWithdraw a x => rfl
  | _ => exact absurd h Bool.false_ne_true

/-- The LANE RETURN of a record is no bid. -/
theorem returnOf_bid {r : PortRec} {m : Outgoing} (h : m ∈ (returnOf r).toList) (i : SlotIx) (p : PortIx) :
    isBidOf i p m = false := by
  simp only [returnOf] at h
  split at h
  · rw [Option.toList_some, List.mem_singleton] at h
    rw [h]
    rfl
  · exact absurd h List.not_mem_nil

theorem offerAll_falls {ms : List Outgoing} (h : ∀ m ∈ ms, ∀ i p, isBidOf i p m = false) (s : State) :
    Falls s (offerAll ms s) := by
  induction ms generalizing s with
  | nil => exact .refl s
  | cons m ms ih =>
    exact (offer_falls (h m List.mem_cons_self) s).trans (ih (fun x k => h x (List.mem_cons_of_mem _ k)) _)

theorem endPort_falls (i : SlotIx) (s : State) (p : PortIx) : Falls s (endPort i s p) := by
  have w : Falls s (withdrawBid i p s) := withdrawQueued_falls (fun _ => isBidOf_withdraw) s
  simp only [endPort]
  refine Falls.trans ?_ (setPort_none_falls (fun _ => rfl) _)
  split
  · exact w.trans (offerAll_falls (fun _ h => returnOf_bid h) _)
  · exact w

theorem endPorts_falls (i : SlotIx) (s : State) : Falls s (endPorts i s) := foldl_falls (endPort_falls i) _ s

/-! ### No entry into RUNNING -/

/-- No report of an entry into RUNNING waits. -/
def Work.noEntry (w : Work) : Prop := ∀ i, .entered i ∉ w.reports

theorem BayMove.served {b c : Bay} (m : BayMove b c) (h : c.served = true) : b.served = true := by
  cases m with
  | capped n _ => exact h
  | shedOff now k u => exact absurd h Bool.false_ne_true
  | eject now e => exact absurd h Bool.false_ne_true
  | figures f _ => exact h
  | settled =>
    simp only [Bay.settled] at h
    split at h
    · exact h
    · exact h
  | restored _ => exact h

theorem BayMove.ports {b c : Bay} (m : BayMove b c) : c.ports = b.ports := by
  cases m with
  | settled =>
    simp only [Bay.settled]
    split <;> rfl
  | _ => rfl

theorem capFollows_ports (now : Nat) (a b : Bay) : (capFollows now a b).ports = b.ports := by
  simp only [capFollows]; split <;> rfl

theorem capFollows_served (now : Nat) (a b : Bay) : (capFollows now a b).served = b.served := by
  simp only [Bay.served, capFollows_seq]

/-- The reports of a change that does not bring the slot's records to run. -/
theorem reportsOf_noEntry {o : StepOrder} {i j : SlotIx} {a b : Bay} (h : b.served = true → a.served = true) :
    .entered j ∉ reportsOf o i a b := by
  have e : (!a.served && b.served) = false := by
    cases x : b.served with
    | false => exact Bool.and_false _
    | true => rw [h x]; rfl
  simp only [reportsOf, chargeReport, trunkReport, checkReport, admitReport, settleReport, e, Bool.false_eq_true, if_false,
    List.mem_append, not_or]
  refine ⟨⟨?_, ?_⟩, ?_⟩
  · cases o
    all_goals
      simp only [List.mem_append, not_or]
      refine ⟨⟨?_, ?_⟩, ?_⟩
      all_goals split <;> simp
  · split <;> simp
  · split <;> simp

theorem modBay_falls {o : StepOrder} {i : SlotIx} {f : Bay → Bay} {w : Work}
    (p : (f w.st.bays[i]).ports = w.st.bays[i].ports) : Falls w.st (modBay o i f w).st := by
  refine .of_same (fun j => ?_) (modBay_bus ..)
  by_cases e : i = j
  · subst e
    rw [modBay_bay, capFollows_ports, p]
  · rw [modBay_other o f w e]

theorem modBay_noEntry {o : StepOrder} {i : SlotIx} {f : Bay → Bay} {w : Work} (n : w.noEntry)
    (h : (f w.st.bays[i]).served = true → w.st.bays[i].served = true) : (modBay o i f w).noEntry := by
  intro j m
  obtain ⟨x, e⟩ := modBay_eq o i f w
  rw [e] at m
  exact (List.mem_append.mp m).elim (n j) (reportsOf_noEntry (by rw [capFollows_served]; exact h))

theorem refigure_bus (s : State) : (refigure s).bus = s.bus := by
  simp only [refigure]; split <;> rfl

theorem offerClaim_falls (e : Entry) (s : State) : Falls s (offerClaim e s) := by
  have k := offer_falls (m := .claim e.watts e.slot e.purpose.kind) (fun _ _ => rfl) s
  simp only [offerClaim]
  split
  · exact ⟨k.ports, k.bids, k.withdrawals⟩
  · exact ⟨k.ports, k.bids, k.withdrawals⟩

theorem withdrawClaim_falls (s : State) : Falls s (withdrawClaim s) := by
  simp only [withdrawClaim]
  split
  · have k : Falls s (withdrawQueued .control isClaim s) := withdrawQueued_falls (fun _ => isClaim_withdraw) s
    exact ⟨k.ports, k.bids, k.withdrawals⟩
  · exact .refl s

theorem Move.falls {v w : Work} (m : Move v w) : Falls v.st w.st ∧ (v.noEntry → w.noEntry) := by
  cases m with
  | refigure => exact ⟨.of_same (fun i => by rw [map_st, refigure_bays]) (refigure_bus _), id⟩
  | budget b h => exact ⟨.of_same (fun _ => rfl) rfl, id⟩
  | claim e h => exact ⟨offerClaim_falls e _, id⟩
  | unclaim => exact ⟨withdrawClaim_falls _, id⟩
  | deficit => exact ⟨.of_same (fun _ => rfl) rfl, id⟩
  | bay i f h => exact ⟨modBay_falls h.ports, fun n => modBay_noEntry n h.served⟩
  | settle i =>
    refine ⟨.refl _, fun n j m => (List.mem_append.mp m).elim (n j) fun k => ?_⟩
    simp at k

theorem Moves.falls {v w : Work} (m : Moves v w) : Falls v.st w.st ∧ (v.noEntry → w.noEntry) :=
  m.rel (R := fun v w => Falls v.st w.st ∧ (v.noEntry → w.noEntry)) (fun _ => ⟨.refl _, id⟩)
    (fun _ _ _ h k => ⟨h.1.trans k.1, fun n => k.2 (h.2 n)⟩) fun _ _ => Move.falls

theorem Step.falls {v w : Work} (m : Step v w) (n : v.noEntry) : Falls v.st w.st ∧ w.noEntry := by
  have rest {r : Report} {l : List Report} {s t : State} (n : Work.noEntry ⟨s, r :: l⟩) : Work.noEntry ⟨t, l⟩ :=
    fun i m => n i (List.mem_cons_of_mem _ m)
  cases m with
  | move h => exact ⟨h.falls.1, h.falls.2 n⟩
  | charge s i k l => exact ⟨.of_same (fun _ => rfl) rfl, rest n⟩
  | entered s i l => exact absurd List.mem_cons_self (n i)
  | left s i l => exact ⟨endPorts_falls i s, rest n⟩
  | check s i l => exact ⟨.refl _, rest n⟩
  | admission s i l => exact ⟨.refl _, rest n⟩
  | settle s i l => exact ⟨.refl _, rest n⟩

theorem Steps.falls {v w : Work} (m : Steps v w) (n : v.noEntry) : Falls v.st w.st :=
  (m.keeps (P := fun w => Falls v.st w.st ∧ w.noEntry)
    (fun _ _ k h => ⟨h.1.trans (k.falls h.2).1, (k.falls h.2).2⟩) ⟨.refl _, n⟩).1

theorem deriveTargets_falls (s : State) : Falls s (deriveTargets s) := .of_same (fun _ => rfl) rfl

/-- A notification and the delivery after it. -/
theorem notify_finish_falls (u : State) : Falls u (finish (notifyUnits ⟨u, []⟩)) := by
  have m : Steps (Work.map deriveTargets ⟨u, []⟩) (flush (notifyUnits ⟨u, []⟩)) :=
    (recompute_moves _).steps.trans (flush_steps _)
  have k := (deriveTargets_falls u).trans (m.falls fun _ h => absurd h List.not_mem_nil)
  exact ⟨k.ports, k.bids, k.withdrawals⟩

end Sys2Proof.Machine
end

section
/-! PROOF. New epochs and SILENT peers: the owner side's reclaim, and the records of the own ports at that owner. -/

namespace Sys2Proof.Machine

/-! ### The lane table -/

/-- Whether a lane becomes FREE with the latches `p` picks and the holders `q` picks. -/
def Owner.loses (o : Owner) (p : Latch → Bool) (q : Holder → Bool) : LaneState → Bool
  | .held h => q h
  | .reserved k => o.latches.any fun l => p l && l.created == k
  | .free => false
  | .fenced => false

theorem without_lanes (o : Owner) (p : Latch → Bool) (q : Holder → Bool) :
    (o.without p q).lanes = freeLanes (o.loses p q) o.lanes := by
  simp only [Owner.without, freeLanes]
  refine List.map_congr_left fun l _ => ?_
  cases l with
  | held h => rfl
  | reserved k => rfl
  | free => rfl
  | fenced => rfl

/-- The latches dropped, and the groups of some holders freed. -/
theorem without_eq (o : Owner) (p : Latch → Bool) (q : Holder → Bool) :
    { dropLatches p o with lanes := freeLanes (heldBy q) (dropLatches p o).lanes } = o.without p q := by
  have e : freeLanes (heldBy q) (dropLatches p o).lanes = (o.without p q).lanes := by
    rw [without_lanes]
    simp only [dropLatches, freeLanes, List.map_map]
    refine List.map_congr_left fun l _ => ?_
    cases l with
    | held h =>
      have n : (o.latches.any fun l => p l && reservedFor l.created (.held h)) = false := by
        simp only [reservedFor, Bool.and_false, List.any_eq_false, Bool.false_eq_true, not_false_eq_true, implies_true]
      simp only [Function.comp_apply, n, Owner.loses, Bool.false_eq_true, if_false]
      rfl
    | reserved k =>
      have n : (o.latches.any fun l => p l && reservedFor l.created (.reserved k)) =
          o.latches.any fun l => p l && l.created == k :=
        congrArg o.latches.any (funext fun l => by rw [reservedFor, Bool.beq_comm])
      simp only [Function.comp_apply, n, Owner.loses]
      have h (c : Bool) : (if heldBy q (if c = true then .free else .reserved k) = true then LaneState.free
          else if c = true then .free else .reserved k) = if c = true then .free else .reserved k := by cases c <;> rfl
      exact h _
    | free =>
      simp only [Function.comp_apply, Owner.loses, ite_self, Bool.false_eq_true]
    | fenced =>
      have n : (o.latches.any fun l => p l && reservedFor l.created .fenced) = false := by
        simp only [reservedFor, Bool.and_false, List.any_eq_false, Bool.false_eq_true, not_false_eq_true, implies_true]
      simp only [Function.comp_apply, n, Owner.loses, Bool.false_eq_true, if_false]
      rfl
  rw [e]
  rfl

/-- Lanes that become FREE raise the count of FREE lanes, unless the table stays as it is. -/
theorem freeLaneCount_freeLanes (p : LaneState → Bool) (l : List LaneState) :
    freeLaneCount l < freeLaneCount (freeLanes p l) ∧ freeLanes p l ≠ l ∨ freeLanes p l = l := by
  induction l with
  | nil => exact .inr rfl
  | cons x l ih =>
    have c (y : LaneState) (k : List LaneState) : freeLaneCount (y :: k) = freeLaneCount k + if y == .free then 1 else 0 :=
      List.countP_cons ..
    have le : freeLaneCount l ≤ freeLaneCount (freeLanes p l) := ih.elim (fun h => h.1.le) fun h => by rw [h]
    have e : freeLanes p (x :: l) = (if p x then .free else x) :: freeLanes p l := rfl
    by_cases h : p x = true ∧ x ≠ .free
    · refine .inl ⟨?_, fun k => ?_⟩
      · rw [e, c, c, if_pos h.1, beq_false_of_ne h.2]
        simp only [beq_self_eq_true, if_true, Bool.false_eq_true, if_false]
        omega
      · rw [e, if_pos h.1] at k
        exact h.2 (List.cons.inj k).1.symm
    · have x' : (if p x then .free else x) = x := by
        split
        · next y => exact (not_not.mp fun z => h ⟨y, z⟩).symm
        · rfl
      rw [e, x']
      rcases ih with ⟨lt, ne⟩ | eq
      · refine .inl ⟨?_, fun k => ne (List.cons.inj k).2⟩
        rw [c, c]
        omega
      · exact .inr (by rw [eq])

/-- Reservation after a change that made lanes FREE (R159, R163). -/
theorem reserveIfFreed_without (o : Owner) (p : Latch → Bool) (q : Holder → Bool) :
    reserveIfFreed o (o.without p q) =
      if (o.without p q).lanes = o.lanes then o.without p q else reserve (o.without p q) := by
  simp only [reserveIfFreed, without_lanes]
  rcases freeLaneCount_freeLanes (o.loses p q) o.lanes with ⟨lt, ne⟩ | eq
  · rw [if_pos lt, if_neg ne]
  · rw [if_neg (by rw [eq]; exact lt_irrefl _), if_pos eq]

theorem reclaimFrom_eq (a : Addr) (o : Owner) :
    reclaimFrom a o =
      let u := o.without (fun l => l.requester == a) (fun h => h.requester == a)
      if u.lanes = o.lanes then u else reserve u := by
  simp only [reclaimFrom, without_eq]
  exact reserveIfFreed_without ..

/-! ### Every port in turn -/

theorem mem_allPorts (x : SlotIx × PortIx) : x ∈ allPorts := by
  simp only [allPorts, List.mem_flatMap, List.mem_map, List.mem_finRange, true_and]
  exact ⟨x.1, x.2, rfl⟩

theorem allPorts_nodup : allPorts.Nodup := by decide

/-- A fold over ports whose step changes the record of its own port alone, by `g`, and keeps `I`. -/
theorem foldl_ports {f : State → SlotIx × PortIx → State} {g : PortRec → PortRec} {I : State → Prop}
    (h : ∀ t x, I t → I (f t x) ∧ portOf (f t x) x.1 x.2 = g (portOf t x.1 x.2) ∧
      ∀ y, y ≠ x → portOf (f t x) y.1 y.2 = portOf t y.1 y.2)
    (l : List (SlotIx × PortIx)) (n : l.Nodup) (s : State) (i : I s) (y : SlotIx × PortIx) :
    portOf (l.foldl f s) y.1 y.2 = if y ∈ l then g (portOf s y.1 y.2) else portOf s y.1 y.2 := by
  induction l generalizing s with
  | nil => rfl
  | cons x l ih =>
    obtain ⟨out, rest⟩ := List.nodup_cons.mp n
    obtain ⟨i', own, other⟩ := h s x i
    rw [List.foldl_cons, ih rest _ i']
    by_cases e : y = x
    · subst e
      rw [if_neg out, if_pos List.mem_cons_self, own]
    · rw [other y e]
      simp only [List.mem_cons, e, false_or]

theorem allPorts_foldl {f : State → SlotIx × PortIx → State} {g : PortRec → PortRec} {I : State → Prop}
    (h : ∀ t x, I t → I (f t x) ∧ portOf (f t x) x.1 x.2 = g (portOf t x.1 x.2) ∧
      ∀ y, y ≠ x → portOf (f t x) y.1 y.2 = portOf t y.1 y.2)
    (s : State) (i : I s) (j : SlotIx) (p : PortIx) : portOf (allPorts.foldl f s) j p = g (portOf s j p) := by
  have k := foldl_ports h allPorts allPorts_nodup s i (j, p)
  rw [if_pos (mem_allPorts _)] at k
  exact k

theorem portOf_setPort_self (i : SlotIx) (p : PortIx) (f : PortRec → PortRec) (s : State) :
    portOf (setPort i p f s) i p = f (portOf s i p) := by rw [portOf_setPort, if_pos ⟨rfl, rfl⟩]

theorem portOf_setPort_ne {x y : SlotIx × PortIx} (h : y ≠ x) (f : PortRec → PortRec) (s : State) :
    portOf (setPort x.1 x.2 f s) y.1 y.2 = portOf s y.1 y.2 := by
  rw [portOf_setPort, if_neg fun e => h (Prod.ext e.1.symm e.2.symm)]

/-- The instant and Tst, which the timers of a record's change read. -/
def SameTime (s t : State) : Prop := t.now = s.now ∧ t.tst = s.tst

theorem portOf_ownerRestarted (a : Addr) (s : State) (i : SlotIx) (p : PortIx) :
    portOf (ownerRestarted a s) i p =
      if (portOf s i p).state = .held ∧ (portOf s i p).owner = some a then
        { portOf s i p with state := .lost, group := none, cross := none, timer := some (s.now + s.tst) }
      else portOf s i p := by
  refine allPorts_foldl (I := SameTime s) (g := fun r => if r.state = .held ∧ r.owner = some a then
    { r with state := .lost, group := none, cross := none, timer := some (s.now + s.tst) } else r) (fun t x time => ?_)
    s ⟨rfl, rfl⟩ i p
  obtain ⟨now, tst⟩ := time
  have c : ((portOf t x.1 x.2).state == .held && (portOf t x.1 x.2).owner == some a) = true ↔
      (portOf t x.1 x.2).state = .held ∧ (portOf t x.1 x.2).owner = some a := by
    simp only [Bool.and_eq_true, beq_iff_eq]
  dsimp only
  by_cases h : (portOf t x.1 x.2).state = .held ∧ (portOf t x.1 x.2).owner = some a
  · rw [if_pos (c.mpr h), if_pos h]
    refine ⟨⟨now, tst⟩, ?_, fun y n => portOf_setPort_ne n ..⟩
    rw [losePort, portOf_setPort_self, now, tst]
  · rw [if_neg (fun k => h (c.mp k)), if_neg h]
    exact ⟨⟨now, tst⟩, rfl, fun _ _ => rfl⟩

theorem portOf_ownerGone (was : ModuleIx → Option Addr) (a : Addr) (s : State) (i : SlotIx) (p : PortIx) :
    portOf (ownerGone was a s) i p =
      if (portOf s i p).ownedBy was a = true ∧ (portOf s i p).state.asks = true then
        { portOf s i p with state := .unplaced, timer := some (s.now + 10 * s.tst) }
      else portOf s i p := by
  refine allPorts_foldl (I := SameTime s) (g := fun r => if r.ownedBy was a = true ∧ r.state.asks = true then
    { r with state := .unplaced, timer := some (s.now + 10 * s.tst) } else r) (fun t x time => ?_) s ⟨rfl, rfl⟩ i p
  obtain ⟨now, tst⟩ := time
  dsimp only
  by_cases h : (portOf t x.1 x.2).ownedBy was a = true
  · by_cases k : (portOf t x.1 x.2).state.asks = true
    · rw [if_pos h, if_pos k, if_pos ⟨h, k⟩]
      refine ⟨⟨now, tst⟩, ?_, fun y n => portOf_setPort_ne n ..⟩
      rw [unplace, portOf_setPort_self, ← now, ← tst]
      rfl
    · rw [if_pos h, if_neg k, if_neg fun y => k y.2]
      exact ⟨⟨now, tst⟩, rfl, fun _ _ => rfl⟩
  · rw [if_neg h, if_neg fun y => h y.1]
    exact ⟨⟨now, tst⟩, rfl, fun _ _ => rfl⟩

/-! ### What the two sides of a reclaim keep -/

theorem offerAll_ports (ms : List Outgoing) (s : State) (i : SlotIx) (p : PortIx) :
    portOf (offerAll ms s) i p = portOf s i p := by rw [portOf, offerAll_bays]; rfl

theorem ownerReclaim_ports (a : Addr) (x : Bool) (s : State) (i : SlotIx) (p : PortIx) :
    portOf (ownerReclaim a x s) i p = portOf s i p := by
  simp only [ownerReclaim]
  split
  · exact offerAll_ports ..
  · rfl

/-- The owner side's part of a reclaim changes the owner record, and offers CONTROL messages. -/
theorem ownerReclaim_kept (a : Addr) (x : Bool) (s : State) :
    Kept { s with owner := s.owner.map (reclaimFrom a) } (ownerReclaim a x s) := by
  simp only [ownerReclaim]
  split
  · next o e =>
    rw [e]
    refine offerAll_kept (fun m h => ?_) _
    split at h
    · obtain ⟨y, _, rfl⟩ := List.mem_map.mp h
      rfl
    · exact absurd h List.not_mem_nil
  · next e =>
    rw [e, Option.map_none]
    have : { s with owner := none } = s := by rw [← e]
    rw [this]
    exact .refl s

theorem ownerRestarted_kept (a : Addr) (s : State) : Kept s (ownerRestarted a s) :=
  foldl_kept (fun s x => by
    dsimp only
    split
    · exact setPort_kept ..
    · exact .refl s) _ s

theorem ownerGone_kept (was : ModuleIx → Option Addr) (a : Addr) (s : State) : Kept s (ownerGone was a s) :=
  foldl_kept (fun s x => by
    dsimp only
    split
    · split
      · exact (withdrawQueued_kept ..).trans (setPort_kept ..)
      · exact withdrawQueued_kept ..
    · exact .refl s) _ s

/-! ### New epochs -/

/-- A frame with a new epoch, of an entry whose mismatch flag may come to be set. -/
theorem takeFrame_restarts {src : Addr} {f : Peer → Peer} {always : Bool} {offers : State → State} {s : State}
    (k : s.peers[src].epoch.isSome = true) (h : s.peers[src].epoch ≠ (f (s.peers[src].hear s.now)).epoch) :
    takeFrame src f always offers ⟨s, []⟩ = notifyUnits ⟨offers (reclaimEpoch src
      (replacePeer src s.peers[src] (f (s.peers[src].hear s.now)) (countGood s))), []⟩ := by
  have r : (s.peers[src].epoch.isSome && s.peers[src].epoch != (f (s.peers[src].hear s.now)).epoch) = true := by
    rw [k, bne_iff_ne.mpr h]
    rfl
  simp only [takeFrame, r, Bool.or_true, Bool.true_or, if_true]
  rfl

theorem replacePeer_bays (a : Addr) (p q : Peer) (s : State) : (replacePeer a p q s).bays = s.bays := by
  simp only [replacePeer]; split <;> rfl

theorem replacePeer_owner (a : Addr) (p q : Peer) (s : State) : (replacePeer a p q s).owner = s.owner := by
  simp only [replacePeer]; split <;> rfl

theorem replacePeer_peers (a : Addr) (p q : Peer) (s : State) :
    (replacePeer a p q s).peers = updAt s.peers a fun _ => q := by
  simp only [replacePeer]; split <;> rfl

theorem replacePeer_time (a : Addr) (p q : Peer) (s : State) : SameTime s (replacePeer a p q s) := by
  simp only [replacePeer]; split <;> exact ⟨rfl, rfl⟩

theorem replacePeer_bus (a : Addr) (p q : Peer) (s : State) : (replacePeer a p q s).bus = s.bus := by
  simp only [replacePeer]; split <;> rfl

/-- What a new epoch does to the entry and to both sides of the trunk unit, before the notification. -/
structure Reclaimed (src : Addr) (q : Peer) (s u : State) : Prop where
  peers : u.peers = updAt s.peers src fun _ => q
  owner : u.owner = s.owner.map (reclaimFrom src)
  ports : ∀ (i : SlotIx) (p : PortIx), portOf u i p =
    if (portOf s i p).state = .held ∧ (portOf s i p).owner = some src then
      { portOf s i p with state := .lost, group := none, cross := none, timer := some (s.now + s.tst) }
    else portOf s i p
  routine : u.bus.routine = s.bus.routine

theorem reclaimEpoch_reclaimed (src : Addr) (q : Peer) (s : State) :
    Reclaimed src q s (reclaimEpoch src (replacePeer src s.peers[src] q (countGood s))) := by
  have v := ownerReclaim_kept src false (replacePeer src s.peers[src] q (countGood s))
  have w := ownerRestarted_kept src (ownerReclaim src false (replacePeer src s.peers[src] q (countGood s)))
  have k := v.trans w
  refine ⟨k.peers.trans (replacePeer_peers src s.peers[src] q (countGood s)), ?_, fun i p => ?_, ?_⟩
  · rw [reclaimEpoch, k.owner]
    exact congrArg (Option.map (reclaimFrom src)) (replacePeer_owner src s.peers[src] q (countGood s))
  rotate_left
  · rw [reclaimEpoch, k.bus.routine]
    exact congrArg (·.routine) (replacePeer_bus src s.peers[src] q (countGood s))
  have ports : portOf (ownerReclaim src false (replacePeer src s.peers[src] q (countGood s))) i p = portOf s i p := by
    rw [ownerReclaim_ports, portOf, replacePeer_bays]
    rfl
  have time : SameTime s (ownerReclaim src false (replacePeer src s.peers[src] q (countGood s))) :=
    ⟨v.now.trans (replacePeer_time src s.peers[src] q (countGood s)).1,
      (congrArg (·.constants.tst) v.settings).trans (replacePeer_time src s.peers[src] q (countGood s)).2⟩
  rw [reclaimEpoch, portOf_ownerRestarted, ports, time.1, time.2]

/-- What stays of a new epoch's work behind an offer, the notification and the deliveries. -/
structure Behind (u t : State) : Prop where
  peers : t.peers = u.peers
  owner : t.owner = u.owner
  falls : Falls u t

theorem notify_behind (u : State) : Behind u (finish (notifyUnits ⟨u, []⟩)) :=
  have k := (notifyUnits_kept ⟨u, []⟩).trans (finish_kept _)
  ⟨k.peers, k.owner, notify_finish_falls u⟩

theorem offer_behind {m : Outgoing} (h : ∀ i p, isBidOf i p m = false) {u t : State} (k : Behind (offer m u) t) :
    Behind u t := ⟨k.peers, k.owner, (offer_falls h u).trans k.falls⟩

/-- What a record in HELD is after a new epoch, its notification and the deliveries. -/
theorem Reclaimed.loses {src : Addr} {q : Peer} {s u t : State} (h : Reclaimed src q s u) (k : Behind u t)
    (i : SlotIx) (p : PortIx) (held : (portOf s i p).state = .held) :
    (portOf t i p).state = .none ∨ portOf t i p =
      if (portOf s i p).owner = some src then
        { portOf s i p with state := .lost, group := none, cross := none, timer := some (s.now + s.tst) }
      else portOf s i p := by
  refine (k.falls.ports i p).imp id fun e => ?_
  rw [e, h.ports]
  simp only [held, true_and]

theorem offer_routine {b : BusPort} {m : Outgoing} (c : m.cls = .routine) (n : merges b m = false)
    (r : b.routine.length < 4) (now tst : Nat) : (b.offer m now tst).routine = b.routine ++ [m] := by
  rw [offer_joins now tst n (by rw [c]; exact r), c]
  rfl

theorem newEpoch_of_new {p : Peer} {e : Serial} (k : p.epoch.isSome = true) (h : p.epoch ≠ some e) :
    p.newEpoch e = true := by
  obtain ⟨x, y⟩ := Option.isSome_iff_exists.mp k
  rw [y] at h
  simp only [Peer.newEpoch, y, bne_iff_ne]
  exact fun z => h (by rw [z])

/-- Settles O21: the frame replaces the entry and reclaims on both sides; the notification that follows ends records and
changes none. -/
theorem newEpochsReclaim : Obligations.NewEpochsReclaim := by
  refine ⟨fun s src r n => ⟨fun m inRange known new => ?_, fun m inRange known new => ?_,
    fun i p => portOf_ownerRestarted src s i p⟩, reclaimFrom_eq⟩
  · let q : Peer := (s.peers[src].hear s.now).takeStanding m s.now
    have epoch : s.peers[src].epoch ≠ q.epoch := new
    have fresh : (s.peers[src].hear s.now).newEpoch m.epoch = true :=
      newEpoch_of_new (by rw [hear_epoch]; exact known) (by rw [hear_epoch]; exact new)
    have e : q = { s.peers[src] with
        state := .live, epoch := some m.epoch, standing := some m, ageFrom := some s.now, pending := none } := by
      simp only [q, Peer.takeStanding, Peer.checkEpoch, fresh, if_true, foldPending, Option.filter_none]
      simp only [Peer.hear]
      split <;> rfl
    have k := reclaimEpoch_reclaimed src q s
    let v : State := reclaimEpoch src (replacePeer src s.peers[src] q (countGood s))
    have b : Behind v (finish (takeStanding src m ⟨s, []⟩)) := by
      rw [takeStanding, takeFrame_restarts known epoch]
      split
      · exact offer_behind (fun _ _ => rfl) (notify_behind _)
      · exact notify_behind _
    refine ⟨_, received_ranged r n inRange, ?_, b.owner.trans k.owner, k.loses b⟩
    rw [b.peers, k.peers, e]
    rfl
  · let q : Peer := (s.peers[src].hear s.now).takeRollCall m s.self.digest
    have epoch : s.peers[src].epoch ≠ q.epoch := new
    have fresh : (s.peers[src].hear s.now).newEpoch m.epoch = true :=
      newEpoch_of_new (by rw [hear_epoch]; exact known) (by rw [hear_epoch]; exact new)
    have e : q = { s.peers[src].hear s.now with
        epoch := some m.epoch, roles := some m.roles, digest := some m.digest
        mismatch := !m.roles.operator && m.digest != s.self.digest, pending := none } := by
      simp only [q, Peer.takeRollCall, Peer.checkEpoch, fresh, if_true]
    have k := reclaimEpoch_reclaimed src q s
    let v : State := reclaimEpoch src (replacePeer src s.peers[src] q (countGood s))
    have w : takeRollCall src m ⟨s, []⟩ = notifyUnits ⟨offer .rollCall v, []⟩ := by
      rw [takeRollCall, takeFrame_restarts known epoch, newEpoch_of_new known new, Bool.or_true]
      rfl
    have b : Behind v (finish (takeRollCall src m ⟨s, []⟩)) := by
      rw [w]
      exact offer_behind (fun _ _ => rfl) (notify_behind _)
    refine ⟨_, received_ranged r n inRange, ?_, b.owner.trans k.owner, k.loses b, fun room => ?_⟩
    · rw [b.peers, k.peers, e]
      rfl
    · rw [w, ((notifyUnits_kept ⟨offer .rollCall v, []⟩).trans (finish_kept _)).bus.routine]
      rw [offer_bus, offer_routine rfl rfl (by rw [k.routine]; exact room), k.routine]

end Sys2Proof.Machine
end

section
/-! PROOF. The ages of the peer view, and what the entry into SILENT does to the lanes of either side. -/

namespace Sys2Proof.Machine

/-! ### The withdrawals of a reclaim -/

theorem offerAll_withdraws {ms : List Outgoing} (w : ∀ m ∈ ms, isLaneWithdraw m = true) {s : State}
    (r : s.bus.control.length + ms.length ≤ 6) : (offerAll ms s).bus.control = s.bus.control ++ ms := by
  induction ms generalizing s with
  | nil => exact (List.append_nil _).symm
  | cons m ms ih =>
    have joins : (offer m s).bus.control = s.bus.control ++ [m] := by
      obtain ⟨a, x, rfl⟩ : ∃ a x, m = .laneWithdraw a x := by
        have k := w m List.mem_cons_self
        cases m with
        | laneWithdraw a x => exact ⟨a, x, rfl⟩
        | _ => exact absurd k Bool.false_ne_true
      rw [offer_bus, offer_joins _ _ rfl]
      · rfl
      · rw [List.length_cons] at r
        exact Nat.lt_of_lt_of_le (Nat.lt_of_lt_of_le (Nat.lt_add_of_pos_right (Nat.succ_pos _)) r) (Nat.le_refl 6)
    have step : offerAll (m :: ms) s = offerAll ms (offer m s) := rfl
    rw [step, ih (fun x h => w x (List.mem_cons_of_mem _ h)), joins, List.append_assoc]
    · rfl
    · rw [joins, List.length_append, List.length_singleton]
      rw [List.length_cons] at r
      omega

theorem reclaimMessages_withdraw {a : Addr} {o : Owner} {m : Outgoing} (h : m ∈ reclaimMessages a o) :
    isLaneWithdraw m = true := by
  obtain ⟨x, _, rfl⟩ := List.mem_map.mp h
  rfl

theorem reclaimMessages_length (a : Addr) (o : Owner) : (reclaimMessages a o).length ≤ o.lanes.length := by
  rw [reclaimMessages, List.length_map, groupsOf]
  exact (List.length_filterMap_le ..).trans (by rw [List.length_zipIdx])

/-- The withdrawal of a group that the address holds, by its first lane (R163). -/
theorem mem_reclaimMessages {a : Addr} {o : Owner} {k : Nat} {h : Holder} (e : o.lanes[k]? = some (.held h))
    (r : h.requester = a) (f : h.group.first = k) :
    .laneWithdraw a ⟨o.module.val, h.group.first, h.group.lanes, 1⟩ ∈ reclaimMessages a o := by
  refine List.mem_map.mpr ⟨h, List.mem_filterMap.mpr ⟨(.held h, k), ?_, ?_⟩, by rw [withdrawOf, r]; rfl⟩
  · exact List.mem_zipIdx_iff_getElem?.mpr e
  · simp only [r, f, beq_self_eq_true, Bool.and_self, if_true]

theorem ownerReclaim_control {a : Addr} {s : State} {o : Owner} (e : s.owner = some o)
    (r : s.bus.control.length + o.lanes.length ≤ 6) :
    (ownerReclaim a true s).bus.control = s.bus.control ++ reclaimMessages a o := by
  simp only [ownerReclaim, e, if_true]
  exact offerAll_withdraws (fun _ => reclaimMessages_withdraw)
    ((Nat.add_le_add_left (reclaimMessages_length a o) _).trans r)

/-! ### The records of an owner that is gone -/

/-- One record's turn when its owner is gone. -/
def goneStep (was : ModuleIx → Option Addr) (a : Addr) (t : State) (x : SlotIx × PortIx) : State :=
  let r := portOf t x.1 x.2
  if r.ownedBy was a then
    let u := withdrawBid x.1 x.2 t
    if r.state.asks then unplace x.1 x.2 u else u
  else t

theorem ownerGone_eq (was : ModuleIx → Option Addr) (a : Addr) (s : State) :
    ownerGone was a s = allPorts.foldl (goneStep was a) s := rfl

theorem goneStep_cases (was : ModuleIx → Option Addr) (a : Addr) (t : State) (x : SlotIx × PortIx) :
    (goneStep was a t x).bus = t.bus ∧ (portOf t x.1 x.2).ownedBy was a = false ∨
      (goneStep was a t x).bus = (withdrawBid x.1 x.2 t).bus := by
  simp only [goneStep]
  split
  · split
    · exact .inr rfl
    · exact .inr rfl
  · next n => exact .inl ⟨rfl, by simpa using n⟩

theorem withdrawBid_falls (i : SlotIx) (p : PortIx) (s : State) : Falls s (withdrawBid i p s) :=
  withdrawQueued_falls (fun _ => isBidOf_withdraw) s

theorem goneStep_bids {was : ModuleIx → Option Addr} {a : Addr} {t : State} {x : SlotIx × PortIx} {i : SlotIx}
    {p : PortIx} (h : bidQueued t i p = false) : bidQueued (goneStep was a t x) i p = false := by
  rcases goneStep_cases was a t x with ⟨e, _⟩ | e
  · rw [bidQueued, e]
    exact h
  · rw [bidQueued, e]
    exact (withdrawBid_falls x.1 x.2 t).bids i p h

theorem withdrawBid_bids (i : SlotIx) (p : PortIx) (s : State) : bidQueued (withdrawBid i p s) i p = false :=
  bidQueued_false_iff.mpr fun m h => by
    have k := List.of_mem_filter (mem_waiting_setWaiting h)
    simpa using k

theorem goneStep_ports_ne {was : ModuleIx → Option Addr} {a : Addr} {t : State} {x y : SlotIx × PortIx} (n : y ≠ x) :
    portOf (goneStep was a t x) y.1 y.2 = portOf t y.1 y.2 := by
  simp only [goneStep]
  split
  · split
    · exact portOf_setPort_ne n _ (withdrawBid x.1 x.2 t)
    · rfl
  · rfl

theorem foldl_goneStep_bids (was : ModuleIx → Option Addr) (a : Addr) {l : List (SlotIx × PortIx)} {t : State}
    {y : SlotIx × PortIx} (m : y ∈ l) (h : (portOf t y.1 y.2).ownedBy was a = true) :
    bidQueued (l.foldl (goneStep was a) t) y.1 y.2 = false := by
  have keeps (l : List (SlotIx × PortIx)) (t : State) (k : bidQueued t y.1 y.2 = false) :
      bidQueued (l.foldl (goneStep was a) t) y.1 y.2 = false := by
    induction l generalizing t with
    | nil => exact k
    | cons x l ih => exact ih _ (goneStep_bids k)
  induction l generalizing t with
  | nil => exact absurd m List.not_mem_nil
  | cons x l ih =>
    by_cases e : y = x
    · subst e
      refine keeps l _ ?_
      rcases goneStep_cases was a t y with ⟨_, n⟩ | b
      · rw [h] at n
        exact absurd n Bool.noConfusion
      · rw [bidQueued, b]
        exact withdrawBid_bids ..
    · exact ih ((List.mem_cons.mp m).resolve_left e) (by rw [goneStep_ports_ne e]; exact h)

theorem ownerGone_bids {was : ModuleIx → Option Addr} {a : Addr} {s : State} {i : SlotIx} {p : PortIx}
    (h : (portOf s i p).ownedBy was a = true) : bidQueued (ownerGone was a s) i p = false := by
  rw [ownerGone_eq]
  exact foldl_goneStep_bids was a (y := (i, p)) (mem_allPorts _) h

theorem ownerGone_withdrawals (was : ModuleIx → Option Addr) (a : Addr) (s : State) {m : Outgoing}
    (w : isLaneWithdraw m = true) (h : m ∈ s.bus.control) : m ∈ (ownerGone was a s).bus.control := by
  rw [ownerGone_eq]
  generalize allPorts = l
  induction l generalizing s with
  | nil => exact h
  | cons x l ih =>
    refine ih _ ?_
    rcases goneStep_cases was a s x with ⟨e, _⟩ | e
    · rw [e]
      exact h
    · rw [e]
      exact (withdrawBid_falls x.1 x.2 s).withdrawals m w h

theorem ownedBy_iff (was : ModuleIx → Option Addr) (a : Addr) (r : PortRec) :
    r.ownedBy was a = true ↔ r.owner = some a ∨ ∃ m, r.chosen = some m ∧ was m = some a := by
  simp only [PortRec.ownedBy, Bool.or_eq_true, beq_iff_eq, Option.any_eq_true]

theorem asks_iff (st : PortState) : st.asks = true ↔ st = .bidding ∨ st = .deferred := by
  cases st <;> simp [PortState.asks]

/-! ### The ages -/

theorem ages_iff {s : State} {a : Addr} {st : PeerState} {n f : Nat} (x : a ≠ s.address) (e : s.peers[a].state = st)
    (g : s.peers[a].ageFrom = some f) (h : f + n * s.tst ≤ s.now) : ages s a st n = true := by
  simp only [ages, agePasses, g, e, beq_self_eq_true, Bool.and_true, Bool.and_eq_true, bne_iff_ne, decide_eq_true_eq]
  exact ⟨x, h⟩

/-- What the entry into SILENT does, before the notification (R26, R163, R167). -/
def silenced (a : Addr) (s : State) : State :=
  ownerGone (ownerOf s) a (ownerReclaim a true (setPeer a (fun p => p.setState .silent) s))

theorem enterSilent_eq (a : Addr) (s : State) : enterSilent a ⟨s, []⟩ = notifyUnits ⟨silenced a s, []⟩ := rfl

theorem silenced_kept (a : Addr) (s : State) :
    Kept { setPeer a (fun p => { p with state := .silent }) s with owner := s.owner.map (reclaimFrom a) } (silenced a s) :=
  (ownerReclaim_kept a true (setPeer a (fun p => p.setState .silent) s)).trans (ownerGone_kept ..)

theorem silenced_ports (a : Addr) (s : State) (i : SlotIx) (p : PortIx) :
    portOf (silenced a s) i p =
      if (portOf s i p).ownedBy (ownerOf s) a = true ∧ (portOf s i p).state.asks = true then
        { portOf s i p with state := .unplaced, timer := some (s.now + 10 * s.tst) }
      else portOf s i p := by
  have k := ownerReclaim_kept a true (setPeer a (fun p => p.setState .silent) s)
  have time : (ownerReclaim a true (setPeer a (fun p => p.setState .silent) s)).now = s.now ∧
      (ownerReclaim a true (setPeer a (fun p => p.setState .silent) s)).tst = s.tst :=
    ⟨k.now, congrArg (·.constants.tst) k.settings⟩
  have ports : portOf (ownerReclaim a true (setPeer a (fun p => p.setState .silent) s)) i p = portOf s i p :=
    ownerReclaim_ports ..
  rw [silenced, portOf_ownerGone, ports, time.1, time.2]

theorem silenced_bids {a : Addr} {s : State} {i : SlotIx} {p : PortIx}
    (h : (portOf s i p).ownedBy (ownerOf s) a = true) : bidQueued (silenced a s) i p = false := by
  rw [silenced]
  refine ownerGone_bids ?_
  rw [ownerReclaim_ports]
  exact h

theorem silenced_withdrawals {a : Addr} {s : State} {m : Outgoing} (w : isLaneWithdraw m = true)
    (h : m ∈ (ownerReclaim a true (setPeer a (fun p => p.setState .silent) s)).bus.control) :
    m ∈ (silenced a s).bus.control := by
  rw [silenced]
  exact ownerGone_withdrawals _ _ _ w h

/-- Settles O23: each age's event is the change of the entry, what it asks of the lanes, and the notification. -/
theorem agesPass : Obligations.AgesPass := by
  refine fun s a r n => ⟨fun f e g h => ?_, fun f e g h => ?_, fun c e h => ?_⟩
  · have stale : ages s a .live Config.staleAge = true := ages_iff n e g h
    exact notified (event_occurs (enterStale a) r stale)
  · have silent : ages s a .stale Config.silentAge = true := ages_iff n e g h
    have b : Behind (silenced a s) (finish (enterSilent a ⟨s, []⟩)) := notify_behind _
    refine ⟨_, event_occurs (enterSilent a) r silent, ?_, fun o ow room k x y z w => ?_, fun i p => ⟨?_, ?_⟩⟩
    · rw [enterSilent_eq]
      exact (silenced_kept a s).trans (notify_finish_kept _)
    · have kind : isLaneWithdraw (.laneWithdraw a ⟨o.module.val, x.group.first, x.group.lanes, 1⟩) = true := rfl
      refine b.falls.withdrawals _ kind (silenced_withdrawals kind ?_)
      rw [ownerReclaim_control (s := setPeer a (fun p => p.setState .silent) s) ow room]
      exact List.mem_append.mpr (.inr (mem_reclaimMessages y z w))
    · intro owned
      have own : (portOf s i p).ownedBy (ownerOf s) a = true := (ownedBy_iff ..).mpr owned
      refine ⟨b.falls.bids i p (silenced_bids own), fun asks => ?_⟩
      refine (b.falls.ports i p).imp id fun x => ?_
      rw [x, silenced_ports, if_pos ⟨own, (asks_iff _).mpr asks⟩]
    · intro asks
      refine (b.falls.ports i p).imp id fun x => ?_
      rw [x, silenced_ports, if_neg fun y => asks ((asks_iff _).mp y.2)]
  · refine notified (event_occurs (dropAged a) r ?_)
    simp only [claimAged, e, Bool.and_eq_true, bne_iff_ne, decide_eq_true_eq]
    exact ⟨n, h⟩

end Sys2Proof.Machine
end

section
/-! PROOF. The own claims: the sending check, the refusal bar, and what an own CLAIM's receipt leaves. -/

namespace Sys2Proof.Machine

/-! ### The sending check -/

theorem canClaim_iff (s : State) (e : Entry) : canClaim s e = true ↔
    s.census = none ∧ s.budget.deficit = false ∧ s.budget.own.state = .none ∧ s.budget.bar = none ∧
      (e.watts : Int) ≤ s.budget.ha ∧ e.arrival ∉ s.budget.blocked := by
  simp [canClaim, and_assoc]

theorem sendingCheck_idle {s : State} (h : ∀ e, HeadFits s e → s.budget.own.state ≠ .none) : sendingCheck s = s := by
  simp only [sendingCheck]
  split
  · next e q =>
    split
    · next c =>
      obtain ⟨census, deficit, own, bar, fits, offerable⟩ := (canClaim_iff s e).1 c
      exact absurd own (h e ⟨q, census, deficit, bar, fits, offerable⟩)
    · rfl
  · rfl

theorem sendingCheck_offers {s : State} {e : Entry} (h : HeadFits s e) (n : s.budget.own.state = .none) :
    sendingCheck s = offerClaim e s := by
  simp only [sendingCheck, h.head,
    (canClaim_iff s e).2 ⟨h.census, h.deficit, n, h.bar, h.fits, h.offerable⟩, if_true]

/-- A message of the CONTROL class that the FIFO takes. -/
theorem offer_control_joins {m : Outgoing} {s : State} (c : m.cls = .control) (r : s.bus.control.length < 6) :
    offer m s = { s with bus := { s.bus with
      control := s.bus.control ++ [m], owed := owedAfterTaking m s.bus.owed } } := by
  have g : merges s.bus m = false := by cases m <;> (first | rfl | cases c)
  rw [offer, offer_joins _ _ g (by rw [c]; exact r), c]
  rfl

/-- A message of the CONTROL class that a full FIFO refuses. -/
theorem offer_control_refused {m : Outgoing} {s : State} (c : m.cls = .control) (r : 6 ≤ s.bus.control.length) :
    offer m s = { s with bus := { s.bus with
      overflows := satInc s.bus.overflows, owed := oweFor m (s.now + s.tst) s.bus.owed } } := by
  have g : merges s.bus m = false := by cases m <;> (first | rfl | cases c)
  rw [offer, offer_refused _ _ g (by rw [c]; exact r)]

theorem takes_claim (b : BusPort) (n : Nat) (i : SlotIx) (k : ClaimKind) :
    takes b (.claim n i k) = decide (b.control.length < 6) := rfl

theorem offerClaim_taken {s : State} {e : Entry} (r : s.bus.control.length < 6) :
    offerClaim e s = { s with
      bus := { s.bus with
        control := s.bus.control ++ [.claim e.watts e.slot e.purpose.kind]
        owed := s.bus.owed.filter fun o => !isClaimDrop o.msg }
      budget := { s.budget with own := ⟨.queued, some e.arrival, e.slot, e.purpose.kind, e.watts, none⟩ } } := by
  have offered := offer_control_joins (m := .claim e.watts e.slot e.purpose.kind) rfl r
  simp only [offerClaim, takes_claim, r, decide_true, if_true, offered, owedAfterTaking]

theorem offerClaim_refused {s : State} {e : Entry} (r : 6 ≤ s.bus.control.length) :
    offerClaim e s = { s with
      bus := { s.bus with overflows := satInc s.bus.overflows }
      budget := { s.budget with blocked := e.arrival :: s.budget.blocked } } := by
  have refused := offer_control_refused (m := .claim e.watts e.slot e.purpose.kind) rfl r
  simp only [offerClaim, takes_claim, Nat.not_lt.2 r, decide_false, Bool.false_eq_true, if_false, refused, oweFor]

/-- What the sending check can change: the bus port, the own claim and the refused CLAIMs. -/
theorem sendingCheck_eq (s : State) : ∃ b o l,
    sendingCheck s = { s with bus := b, budget := { s.budget with own := o, blocked := l } } := by
  by_cases h : ∃ e, HeadFits s e ∧ s.budget.own.state = .none
  · obtain ⟨e, fits, idle⟩ := h
    rw [sendingCheck_offers fits idle]
    by_cases r : s.bus.control.length < 6
    · exact ⟨_, _, s.budget.blocked, offerClaim_taken r⟩
    · exact ⟨_, s.budget.own, _, offerClaim_refused (Nat.not_lt.1 r)⟩
  · exact ⟨_, _, _, sendingCheck_idle fun e fits idle => h ⟨e, fits, idle⟩⟩

theorem refigure_blocked (s : State) : (refigure s).budget.blocked = [] := by
  simp only [refigure]
  split <;> rfl

/-! ### The refusal bar -/

theorem markBar_some {s : State} {b : Bar} (e : s.budget.bar = some b) :
    (¬(b.raised = true ∨ b.ha < s.budget.ha) → markBar s = s) ∧
    (b.raised = true ∨ b.ha < s.budget.ha → s.now < b.at' + s.tst →
      markBar s = { s with budget := { s.budget with bar := some { b with raised := true } } }) ∧
    (b.raised = true ∨ b.ha < s.budget.ha → b.at' + s.tst ≤ s.now →
      markBar s = { s with budget := { s.budget with bar := none } }) := by
  have raised (h : b.raised = true ∨ b.ha < s.budget.ha) : (b.raised || decide (b.ha < s.budget.ha)) = true := by
    simpa using h
  refine ⟨fun h => ?_, fun h late => ?_, fun h due => ?_⟩
  · have low : (b.raised || decide (b.ha < s.budget.ha)) = false := by simpa using h
    have same : b.raised = false := (Bool.or_eq_false_iff.1 low).1
    simp only [markBar, e, low, Bool.false_and, Bool.false_eq_true, if_false]
    have bar : some { b with raised := false } = s.budget.bar := by rw [e, ← same]
    rw [bar]
  · simp [markBar, e, raised h, Nat.not_le.2 late]
  · simp [markBar, e, raised h, due]

theorem liftBar_due {s : State} {b : Bar} (e : s.budget.bar = some b) (raised : b.raised = true)
    (due : b.at' + s.tst ≤ s.now) : liftBar s = sendingCheck { s with budget := { s.budget with bar := none } } := by
  simp [liftBar, e, raised, due]

/-! ### The own CLAIM's send and receipt -/

/-- The station as an own CLAIM's send leaves it, before its own receipt. -/
def claimSent (s : State) : State :=
  { s with bus := s.bus.sent .control, budget := { s.budget with nextNumber := s.budget.nextNumber + 1 } }

theorem sendMessage_claim (m : ClaimMsg) (good : Bool) (s : State) :
    sendMessage .control (.claim m) good ⟨s, []⟩ =
      if good then decideClaim m.number m.watts ⟨countGood (claimSent s), []⟩
      else ⟨failClaim m.number (countCrcDrop (claimSent s)), []⟩ := by
  simp only [sendMessage, Work.map, consume, leaveFifo_sent]
  rfl

/-- An own CLAIM's receipt that passes its check is the whole of its send. -/
theorem exec_ownClaimReceipt {s : State} {m : ClaimMsg} (r : s.run = .running)
    (b : s.bus.onBus = some (.control, .claim m)) :
    exec .ownClaimReceipt s = .next (finish (decideClaim m.number m.watts ⟨countGood (claimSent s), []⟩)) := by
  have e : exec .ownClaimReceipt s = event s true (sendMessage .control (.claim m) true) := by
    show execOwnClaimReceipt s = _
    simp only [execOwnClaimReceipt, b]
  rw [e, event_occurs _ r rfl, sendMessage_claim, if_pos rfl]

theorem exec_ownClaimBadReceipt {s : State} {m : ClaimMsg} (r : s.run = .running)
    (b : s.bus.onBus = some (.control, .claim m)) :
    exec .ownClaimBadReceipt s = .next (settleFlags (failClaim m.number (countCrcDrop (claimSent s)))) := by
  have e : exec .ownClaimBadReceipt s = event s true (sendMessage .control (.claim m) false) := by
    show execOwnClaimBadReceipt s = _
    simp only [execOwnClaimBadReceipt, b]
  rw [e, event_occurs _ r rfl, sendMessage_claim, if_neg Bool.false_ne_true, finish_done]

theorem exec_messageSent_claim {s : State} {m : ClaimMsg} (r : s.run = .running)
    (b : s.bus.onBus = some (.control, .claim m)) : exec (.messageSent true) s = exec .ownClaimReceipt s := by
  rw [exec_ownClaimReceipt r b]
  show execMessageSent true s = _
  simp only [execMessageSent, b, r, beq_self_eq_true, if_true, sendOutcome, owesRestart, Bool.false_eq_true, if_false, sendMessage_claim]

theorem decideClaim_admits {s : State} {e : Entry} {n : Serial} {watts : Nat} (own : s.budget.own.state = .onBus)
    (c : claimedEntry s = some e) (d : s.budget.deficit = false) (fits : (watts : Int) ≤ s.budget.ha) :
    decideClaim n watts ⟨s, []⟩ = admitClaim e n ⟨s, []⟩ := by
  simp [decideClaim, own, c, d, fits]

theorem decideClaim_refuses {s : State} {e : Entry} {n : Serial} {watts : Nat} (own : s.budget.own.state = .onBus)
    (c : claimedEntry s = some e) (h : s.budget.deficit = true ∨ s.budget.ha < (watts : Int)) :
    decideClaim n watts ⟨s, []⟩ = ⟨refuseClaim e n s, []⟩ := by
  have g : (!s.budget.deficit && decide ((watts : Int) ≤ s.budget.ha)) = false := by
    obtain d | late := h
    · simp [d]
    · simp [Int.not_le.2 late]
  simp only [decideClaim, own, c, beq_self_eq_true, if_true, g, Bool.false_eq_true, if_false, Work.map]

theorem decideClaim_withdrawn {s : State} {n : Serial} {watts : Nat} (own : s.budget.own.state = .onBus)
    (c : claimedEntry s = none) : decideClaim n watts ⟨s, []⟩ = ⟨dropClaim n .withdrawn s, []⟩ := by
  simp only [decideClaim, own, c, beq_self_eq_true, if_true, Work.map]

/-- A refusal's bar keeps the sending check from an offer. -/
theorem refuseClaim_eq (e : Entry) (n : Serial) (s : State) :
    refuseClaim e n s = offer (.claimDrop n .refused) { s with budget := { s.budget with
      own := OwnClaim.idle, bar := some ⟨e.arrival, s.budget.ha, s.now, false⟩ } } :=
  sendingCheck_idle fun _ h => absurd h.bar (Option.some_ne_none _)

/-- A purpose is carried out as one change of its slot. -/
theorem carryOut_eq (e : Entry) (w : Work) : ∃ f, carryOut e w = modBay .fault e.slot f w := by
  simp only [carryOut]
  split <;> exact ⟨_, rfl⟩

theorem modBay_peers (o : StepOrder) (i : SlotIx) (f : Bay → Bay) (w : Work) : (modBay o i f w).st.peers = w.st.peers := by
  obtain ⟨x, e⟩ := modBay_eq o i f w
  rw [e]
  rfl

/-- The station with entry `e` admitted under claim number `n`, its purpose not yet carried out. -/
def admitted (e : Entry) (n : Serial) (s : State) : State :=
  { s with budget := { s.budget with
    queue := s.budget.queue.filter fun x => x.slot != e.slot
    restoreEntry := if s.budget.restoreEntry = some e.slot then none else s.budget.restoreEntry
    bar := s.budget.bar.filter fun b => b.entry != e.arrival
    folded := n
    own := ⟨.admitted, none, s.budget.own.slot, s.budget.own.kind, s.budget.own.watts, some n⟩ } }

theorem admitClaim_eq (e : Entry) (n : Serial) (s : State) :
    admitClaim e n ⟨s, []⟩ = carryOut e ⟨admitted e n s, [.settle e.slot]⟩ := by
  simp only [admitClaim, takeOut, Work.map, Work.emit, beq_iff_eq, List.nil_append]
  rfl

/-- Carrying out a purpose and delivering its reports keeps the claim's figures. -/
theorem admitClaim_leaves (e : Entry) (n : Serial) (s : State) :
    let t := finish (carryOut e ⟨admitted e n s, [.settle e.slot]⟩)
    t.budget.folded = n ∧ t.budget.own = (admitted e n s).budget.own ∧ t.budget.nextNumber = s.budget.nextNumber ∧
      t.bus.good = s.bus.good ∧ t.peers = s.peers := by
  obtain ⟨f, carried⟩ := carryOut_eq e ⟨admitted e n s, [.settle e.slot]⟩
  rw [carried]
  have k := finish_kept (modBay .fault e.slot f ⟨admitted e n s, [.settle e.slot]⟩)
  have own := k.own (.inl (by rw [modBay_budget]; rfl))
  refine ⟨k.folded.trans ?_, own.trans ?_, k.nextNumber.trans ?_, k.bus.good.trans ?_, k.peers.trans (modBay_peers ..)⟩
  · rw [modBay_budget]; rfl
  · rw [modBay_budget]
  · rw [modBay_budget]; rfl
  · rw [modBay_bus]; rfl

/-- Settles O24: the admission, then the one change of the slot that its purpose asks for, whose reports keep the claim's
figures. -/
theorem claimsWithinHeadroomAreAdmitted : Obligations.ClaimsWithinHeadroomAreAdmitted := by
  intro s m e r onBus own c d fits
  have receipt := exec_ownClaimReceipt r onBus
  rw [decideClaim_admits (s := countGood (claimSent s)) own c d fits, admitClaim_eq] at receipt
  exact ⟨exec_messageSent_claim r onBus, receipt, _, receipt, admitClaim_leaves e m.number (countGood (claimSent s))⟩

/-- Settles O25: the sending check by the head entry's conditions, the bar by its raised mark and its age, and the refusal,
whose bar keeps the sending check from an offer. -/
theorem claimsBeyondHeadroomAreRefused : Obligations.ClaimsBeyondHeadroomAreRefused := by
  refine ⟨fun s e => ⟨fun h => sendingCheck_idle fun x f => absurd f (h x), fun h => sendingCheck_idle fun _ _ => h,
      fun h n r => (sendingCheck_offers h n).trans (offerClaim_taken r),
      fun h n r => (sendingCheck_offers h n).trans (offerClaim_refused r), refigure_blocked s⟩,
    fun s => ⟨fun h => by simp only [markBar, h], fun b e => markBar_some e⟩, fun s b r e raised due => ?_,
    fun s m e r onBus own c h => ?_⟩
  · refine ⟨_, simpleEvent_occurs _ r rfl, ?_⟩
    rw [liftBar_due e raised due]
    obtain ⟨b', o, l, q⟩ := sendingCheck_eq { s with budget := { s.budget with bar := none } }
    refine ⟨by rw [q]; rfl, by rw [q]; rfl, ?_⟩
    exact ((kept_of_budget (b := { s.budget with bar := none }) rfl rfl fun _ => rfl).trans
      (sendingCheck_kept _)).trans (settleFlags_kept _)
  · rw [exec_ownClaimReceipt r onBus, decideClaim_refuses (s := countGood (claimSent s)) own c h, finish_done, refuseClaim_eq]
    refine ⟨_, rfl, rfl, fun room => ?_, rfl⟩
    have short : (s.bus.control.drop 1).length < 6 := by rw [List.length_drop]; omega
    rw [offer_control_joins rfl short]
    rfl

/-! ### Receipts that fail, and entries withdrawn -/

theorem sendingCheck_own (s : State) :
    (sendingCheck s).budget.own = s.budget.own ∨ (sendingCheck s).budget.own.state = .queued := by
  by_cases h : ∃ e, HeadFits s e ∧ s.budget.own.state = .none
  · obtain ⟨e, fits, idle⟩ := h
    rw [sendingCheck_offers fits idle]
    by_cases r : s.bus.control.length < 6
    · exact .inr (by rw [offerClaim_taken r])
    · exact .inl (by rw [offerClaim_refused (Nat.not_lt.1 r)])
  · exact .inl (by rw [sendingCheck_idle fun e fits idle => h ⟨e, fits, idle⟩])

theorem mem_control_sendingCheck {s : State} {m : Outgoing} (h : m ∈ s.bus.control) :
    m ∈ (sendingCheck s).bus.control := by
  by_cases f : ∃ e, HeadFits s e ∧ s.budget.own.state = .none
  · obtain ⟨e, fits, idle⟩ := f
    rw [sendingCheck_offers fits idle]
    by_cases r : s.bus.control.length < 6
    · rw [offerClaim_taken r]; exact List.mem_append_left _ h
    · rw [offerClaim_refused (Nat.not_lt.1 r)]; exact h
  · rwa [sendingCheck_idle fun e fits idle => f ⟨e, fits, idle⟩]

/-- What a dropped claim leaves of the station `v` in which its receipt was taken. -/
structure Dropped (n : Serial) (r : DropReason) (v t : State) : Prop where
  queue : t.budget.queue = v.budget.queue
  folded : t.budget.folded = v.budget.folded
  nextNumber : t.budget.nextNumber = v.budget.nextNumber
  own : t.budget.own.state ≠ .onBus
  bays : t.bays = v.bays
  control : v.bus.control.length < 6 → .claimDrop n r ∈ t.bus.control
  good : t.bus.good = v.bus.good
  crcDrops : t.bus.crcDrops = v.bus.crcDrops

/-- The station with its own claim at NONE. -/
def unclaimed (s : State) : State := { s with budget := { s.budget with own := OwnClaim.idle } }

theorem dropClaim_dropped (n : Serial) (r : DropReason) (v : State) : Dropped n r v (settleFlags (dropClaim n r v)) := by
  obtain ⟨b, o, l, e⟩ := sendingCheck_eq (offer (.claimDrop n r) (unclaimed v))
  have k := (offer_kept (m := .claimDrop n r) rfl (unclaimed v)).trans (sendingCheck_kept _)
  refine ⟨congrArg (·.budget.queue) e, k.folded, k.nextNumber, fun x => ?_, congrArg (·.bays) e, fun room => ?_,
    k.bus.good, k.bus.crcDrops⟩
  · obtain same | queued := sendingCheck_own (offer (.claimDrop n r) (unclaimed v))
    · have idle : OwnClaimState.none = .onBus := (congrArg OwnClaim.state same).symm.trans x
      cases idle
    · have queued' : OwnClaimState.queued = .onBus := queued.symm.trans x
      cases queued'
  · refine mem_control_sendingCheck (s := offer (.claimDrop n r) (unclaimed v)) ?_
    rw [offer_control_joins (s := unclaimed v) rfl room]
    exact List.mem_append_right _ (List.mem_singleton_self _)

theorem countCrcDrop_eq (s : State) : ∃ a, countCrcDrop s =
    { s with bus := (countCrcDrop s).bus, attention := a } ∧ (countCrcDrop s).bus.control = s.bus.control ∧
      (countCrcDrop s).bus.good = s.bus.good ∧ (countCrcDrop s).bus.crcDrops = satInc s.bus.crcDrops := by
  simp only [countCrcDrop]
  split <;> exact ⟨_, rfl, rfl, rfl, rfl⟩

theorem short_drop {α : Type} {l : List α} (h : l.length ≤ 6) : (l.drop 1).length < 6 := by
  rw [List.length_drop]; omega

theorem modBay_reports (o : StepOrder) (i : SlotIx) (f : Bay → Bay) (w : Work) : (modBay o i f w).reports =
    w.reports ++ reportsOf o i w.st.bays[i] (capFollows w.st.now w.st.bays[i] (f w.st.bays[i])) := by
  obtain ⟨x, e⟩ := modBay_eq o i f w
  rw [e]

theorem mem_reportsOf (o : StepOrder) (i : SlotIx) (a b : Bay) (r : Report) : r ∈ reportsOf o i a b ↔
    r ∈ chargeReport i a b ∨ r ∈ trunkReport i a b ∨ r ∈ checkReport i a b ∨ r ∈ admitReport i a b ∨
      r ∈ settleReport i b := by
  cases o <;> simp only [reportsOf, List.mem_append] <;> tauto

theorem check_reported (o : StepOrder) (i : SlotIx) (f : Bay → Bay) (w : Work)
    (h : w.st.bays[i].seq.state ≠ (f w.st.bays[i]).seq.state ∨ w.st.bays[i].seq.phase ≠ (f w.st.bays[i]).seq.phase) :
    .check i ∈ (modBay o i f w).reports := by
  rw [modBay_reports]
  refine List.mem_append_right _ ((mem_reportsOf ..).2 (.inr (.inr (.inl ?_))))
  have c : checkReport i w.st.bays[i] (capFollows w.st.now w.st.bays[i] (f w.st.bays[i])) = [.check i] := by
    simp only [checkReport, capFollows_seq, Bool.or_eq_true, bne_iff_ne]
    exact if_pos h
  rw [c]
  exact .head _

/-- A purpose suits a slot's state by the table of R112. -/
theorem validIn_iff (p : Purpose) (q : Seq) : validIn p q.state q.phase = true ↔
    match p with
    | .admission => q.state = .waitPower
    | .heldFigures | .operatorRaise =>
      q.state = .ramp ∨ q.state = .running ∨ (q.state = .stopping ∧ q.phase = some .draining)
    | .restorePower => q.state = .shedOff
    | .restoreCeiling => q.state = .running := by
  cases p <;> simp [validIn, poweredIn] <;> cases q.state <;> simp

theorem deliver_check {w : Work} {i : SlotIx} {e : Entry} (h : entryOf w.st i = some e) :
    deliver (.check i) w = if validIn e.purpose w.st.bays[i].seq.state w.st.bays[i].seq.phase then w
      else (w.map (withdrawEntry i)).emit [.settle i] := by
  simp only [deliver, checkEntry, leaveQueue, h, Option.isSome_some, if_true]

/-- The sending check after a change that leaves the own claim's state. -/
theorem recheck_eq {a b : State} (h : b.budget.own.state = a.budget.own.state) :
    recheck a b = if b.budget.queue.head? = a.budget.queue.head? ∧ b.budget.bar = a.budget.bar then b
      else sendingCheck b := by
  have own : (a.budget.own.state != b.budget.own.state) = false := by simp [h]
  simp only [recheck, own, Bool.or_false, Bool.or_eq_true, bne_iff_ne, ne_eq]
  by_cases q : a.budget.queue.head? = b.budget.queue.head? <;> by_cases r : a.budget.bar = b.budget.bar <;>
    simp [q, r, eq_comm]

theorem recheck_moved {a b : State} (h : a.budget.own.state ≠ b.budget.own.state) : recheck a b = sendingCheck b := by
  have own : (a.budget.own.state != b.budget.own.state) = true := bne_iff_ne.2 h
  simp only [recheck, own, Bool.or_true, Bool.true_or, if_true]

theorem takeOut_eq (e : Entry) (s : State) : takeOut e s = { s with budget := { s.budget with
    queue := s.budget.queue.filter fun x => x.slot != e.slot
    restoreEntry := if s.budget.restoreEntry = some e.slot then none else s.budget.restoreEntry
    bar := s.budget.bar.filter fun b => b.entry != e.arrival } } := by
  simp only [takeOut, beq_iff_eq]

theorem withdrawClaim_queued {s : State} (h : s.budget.own.state = .queued) :
    withdrawClaim s = unclaimed (withdrawQueued .control isClaim s) := by
  simp only [withdrawClaim, h, beq_self_eq_true, if_true]
  rfl

theorem entryOf_slot {s : State} {i : SlotIx} {e : Entry} (h : entryOf s i = some e) : e.slot = i := by
  simpa using List.find?_some h

/-- Settles O26: an own CLAIM dropped undecided, the table of R112, and the withdrawal by the state of the own claim. -/
theorem failedReceiptsDropTheClaim : Obligations.FailedReceiptsDropTheClaim := by
  refine ⟨fun s m r onBus own => ⟨?_, fun c => ?_⟩, check_reported, fun w i => ⟨fun h => ?_, fun e h => ?_⟩,
    fun s i => ⟨fun h => ?_, fun e h => ?_⟩⟩
  · obtain ⟨a, e, control, good, crc⟩ := countCrcDrop_eq (claimSent s)
    have sent : failClaim m.number (countCrcDrop (claimSent s)) = dropClaim m.number .badReceipt (countCrcDrop (claimSent s)) := by
      refine if_pos ?_
      rw [e]
      exact beq_iff_eq.2 own
    have t := dropClaim_dropped m.number .badReceipt (countCrcDrop (claimSent s))
    refine ⟨_, exec_ownClaimBadReceipt r onBus, ?_⟩
    rw [sent]
    refine ⟨t.queue.trans (by rw [e]; rfl), t.folded.trans (by rw [e]; rfl), t.nextNumber.trans (by rw [e]; rfl), t.own,
      t.bays.trans (by rw [e]; rfl), fun room => t.control ?_, t.good.trans good, t.crcDrops.trans crc⟩
    rw [control]
    exact short_drop room
  · have t := dropClaim_dropped m.number .withdrawn (countGood (claimSent s))
    refine ⟨_, exec_ownClaimReceipt r onBus, ?_⟩
    rw [decideClaim_withdrawn (s := countGood (claimSent s)) own c, finish_done]
    exact ⟨t.queue, t.folded, t.nextNumber, t.own, t.bays, fun room => t.control (short_drop room), t.good, t.crcDrops⟩
  · simp only [deliver, checkEntry, h]
  · have valid := validIn_iff e.purpose w.st.bays[i].seq
    rw [deliver_check h]
    exact ⟨fun v => if_pos (valid.2 v), fun v => if_neg fun x => v (valid.1 x)⟩
  · simp only [withdrawEntry, h]
  · have slot := entryOf_slot h
    subst slot
    refine ⟨fun q => ?_, fun q => ?_⟩
    · have g : (s.budget.own.state == .queued && s.budget.own.claimed == some e.arrival) = true := by simpa using q
      simp only [withdrawEntry, h, g, if_true, withdrawClaim_queued q.1, takeOut_eq]
      refine recheck_moved ?_
      rw [q.1]
      exact OwnClaimState.noConfusion
    · have g : (s.budget.own.state == .queued && s.budget.own.claimed == some e.arrival) = false := by simpa using q
      simp only [withdrawEntry, h, g, Bool.false_eq_true, if_false, takeOut_eq]
      exact recheck_eq rfl

end Sys2Proof.Machine

end

section
/-! PROOF. What an admitted entry's purpose does, the claim queue's order, the ADMIT entry, and restoration. -/

namespace Sys2Proof.Machine

/-! ### The purposes -/

theorem carryOut_seq {e : Entry} {w : Work} {f : Bay → Bay} (h : carryOut e w = modBay .fault e.slot f w) :
    (carryOut e w).st.bays[e.slot].seq = (f w.st.bays[e.slot]).seq := by
  rw [h, modBay_bay, capFollows_seq]

theorem capFollows_held (now : Nat) (a b : Bay) : (capFollows now a b).link.held = b.link.held := by
  simp only [capFollows]; split <;> rfl

theorem activeCeiling_congr {a b : Bay} (h : a.seq = b.seq) : a.activeCeiling = b.activeCeiling := by
  simp only [Bay.activeCeiling, h]

/-- What follows a change inside a slot leaves a queued cap write of the slot's active ceiling, or queues it. -/
theorem capFollows_cap {now : Nat} {a b : Bay} (h : b.link.cap = some ⟨b.activeCeiling, .writing, 0⟩) :
    (capFollows now a b).link.cap = some ⟨(capFollows now a b).activeCeiling, .writing, 0⟩ := by
  rw [activeCeiling_congr (capFollows_seq now a b)]
  simp only [capFollows]
  split
  · rfl
  · exact h

/-! ### The claim queue's order -/

/-- `x` stands before `y` in the queue. -/
def Before (s : State) (x y : Entry) : Prop :=
  prio s y.slot < prio s x.slot ∨ (prio s x.slot = prio s y.slot ∧ x.arrival ≤ y.arrival)

theorem insertEntry_ordered (s : State) (e : Entry) (l : List Entry) (h : Ordered s l) : Ordered s (insertEntry s e l) := by
  induction l with
  | nil => exact List.pairwise_singleton _ _
  | cons x xs ih =>
    obtain ⟨first, rest⟩ := List.pairwise_cons.1 h
    simp only [insertEntry]
    split
    · next c =>
      have before : Before s e x := by
        simp only [Bool.or_eq_true, Bool.and_eq_true, decide_eq_true_eq, beq_iff_eq] at c
        simp only [Before]
        omega
      refine List.pairwise_cons.2 ⟨fun y m => ?_, h⟩
      obtain rfl | m := List.mem_cons.1 m
      · exact before
      · have next := first y m
        simp only [Before] at before
        omega
    · next c =>
      have before : Before s x e := by
        simp only [Bool.or_eq_true, Bool.and_eq_true, decide_eq_true_eq, beq_iff_eq] at c
        simp only [Before]
        omega
      refine List.pairwise_cons.2 ⟨fun y m => ?_, ih rest⟩
      obtain rfl | m := List.mem_cons.1 ((insertEntry_perm s e xs).mem_iff.1 m)
      · exact before
      · exact first y m

/-- The sending check after a change of the queue alone. -/
theorem recheck_queue {a b : State} (own : b.budget.own.state = a.budget.own.state) (bar : b.budget.bar = a.budget.bar) :
    recheck a b = if b.budget.queue.head? = a.budget.queue.head? then b else sendingCheck b := by
  rw [recheck_eq own]
  simp only [bar, and_true]

theorem handEntry_none {s : State} {i : SlotIx} (h : entryOf s i = none) (p : Purpose) (watts : Nat) :
    let u : State := { s with budget := { s.budget with
      queue := insertEntry s ⟨i, p, watts, s.budget.nextArrival⟩ s.budget.queue
      nextArrival := s.budget.nextArrival + 1 } }
    handEntry i p watts s = if u.budget.queue.head? = s.budget.queue.head? then u else sendingCheck u := by
  simp only [handEntry, h]
  exact recheck_queue rfl rfl

theorem handEntry_some {s : State} {i : SlotIx} (h : (entryOf s i).isSome = true) (p : Purpose) (watts : Nat) :
    handEntry i p watts s = s := by
  obtain ⟨e, q⟩ := Option.isSome_iff_exists.1 h
  simp only [handEntry, q]

theorem entryWatts_range {s : State} {i : SlotIx} (h : s.bays[i].seq.allowance = none) :
    1 ≤ entryWatts s i ∧ entryWatts s i ≤ 16000 := by
  have e : entryWatts s i = 1 + Config.unstatedWatts s.budget.nextArrival % Config.maxWatts := by
    rw [entryWatts, h]; rfl
  have top : Config.unstatedWatts s.budget.nextArrival % Config.maxWatts < 16000 := Nat.mod_lt _ (by decide)
  omega

theorem admission_reported (o : StepOrder) (i : SlotIx) (f : Bay → Bay) (w : Work)
    (h : w.st.bays[i].seq.state ≠ .waitPower) (k : (f w.st.bays[i]).seq.state = .waitPower) :
    .admission i ∈ (modBay o i f w).reports := by
  rw [modBay_reports]
  refine List.mem_append_right _ ((mem_reportsOf ..).2 (.inr (.inr (.inr (.inl ?_)))))
  have c : admitReport i w.st.bays[i] (capFollows w.st.now w.st.bays[i] (f w.st.bays[i])) = [.admission i] := by
    simp only [admitReport, capFollows_seq, k, Bool.and_eq_true, bne_iff_ne, beq_self_eq_true]
    exact if_pos ⟨h, trivial⟩
  rw [c]
  exact .head _

/-! ### Restore order -/

/-- Slot `i` stands before slot `j` in shed order. -/
def ShedBefore (s : State) (i j : SlotIx) : Prop := prio s i < prio s j ∨ (prio s i = prio s j ∧ j < i)

theorem insertShed_perm (s : State) (i : SlotIx) (l : List SlotIx) : (insertShed s i l).Perm (i :: l) := by
  induction l with
  | nil => exact .refl _
  | cons x xs ih =>
    simp only [insertShed]
    split
    · exact .refl _
    · exact (ih.cons x).trans (.swap ..)

theorem insertShed_ordered {s : State} {i : SlotIx} {l : List SlotIx} (n : i ∉ l) (h : l.Pairwise (ShedBefore s)) :
    (insertShed s i l).Pairwise (ShedBefore s) := by
  induction l with
  | nil => exact List.pairwise_singleton _ _
  | cons x xs ih =>
    obtain ⟨first, rest⟩ := List.pairwise_cons.1 h
    obtain ⟨ne, n⟩ : i ≠ x ∧ i ∉ xs := by simpa using n
    simp only [insertShed]
    split
    · next c =>
      have before : ShedBefore s i x := by
        simpa only [Bool.or_eq_true, Bool.and_eq_true, decide_eq_true_eq, beq_iff_eq, ShedBefore] using c
      refine List.pairwise_cons.2 ⟨fun y m => ?_, h⟩
      obtain rfl | m := List.mem_cons.1 m
      · exact before
      · have next := first y m
        simp only [ShedBefore, Fin.lt_def] at before next ⊢
        omega
    · next c =>
      have before : ShedBefore s x i := by
        simp only [Bool.or_eq_true, Bool.and_eq_true, decide_eq_true_eq, beq_iff_eq, Fin.lt_def] at c
        simp only [ShedBefore, Fin.lt_def]
        have apart : i.val ≠ x.val := fun e => ne (Fin.ext e)
        omega
      refine List.pairwise_cons.2 ⟨fun y m => ?_, ih n rest⟩
      obtain rfl | m := List.mem_cons.1 ((insertShed_perm s i xs).mem_iff.1 m)
      · exact before
      · exact first y m

theorem foldr_insertShed (s : State) {l : List SlotIx} (h : l.Nodup) :
    (l.foldr (insertShed s) []).Perm l ∧ (l.foldr (insertShed s) []).Pairwise (ShedBefore s) := by
  induction l with
  | nil => exact ⟨.refl _, .nil⟩
  | cons i l ih =>
    obtain ⟨n, h⟩ := List.nodup_cons.1 h
    obtain ⟨perm, ordered⟩ := ih h
    exact ⟨(insertShed_perm ..).trans (perm.cons i), insertShed_ordered (fun m => n (perm.mem_iff.1 m)) ordered⟩

theorem shedOrder_ordered (s : State) :
    (shedOrder s).Perm (List.finRange 4) ∧ (shedOrder s).Pairwise (ShedBefore s) :=
  foldr_insertShed s (List.nodup_finRange 4)

theorem restoreOrder_ordered (s : State) : (restoreOrder s).Perm (List.finRange 4) ∧
    (restoreOrder s).Pairwise fun i j => prio s j < prio s i ∨ (prio s i = prio s j ∧ i < j) := by
  obtain ⟨perm, ordered⟩ := shedOrder_ordered s
  refine ⟨(List.reverse_perm _).trans perm, List.pairwise_reverse.2 (ordered.imp fun {i j} h => ?_)⟩
  exact h.imp id fun ⟨e, l⟩ => ⟨e.symm, l⟩

/-! ### Restoration -/

theorem isShed_iff (b : Bay) : b.isShed = true ↔ b.fitted = true ∧
    ((b.seq.state = .running ∧ b.seq.shedCeiling.isSome = true) ∨
      (b.seq.state = .shedOff ∧ b.seq.restoreBarred = false ∧ (b.seq.cause = .shed ∨ b.seq.cause = .noncompliant))) := by
  simp only [Bay.isShed, Bool.and_eq_true, Bool.or_eq_true, beq_iff_eq, Bool.not_eq_true']
  tauto

/-- Restoration passes a slot over: it is not shed, or it has an entry. -/
def passedOver (s : State) (j : SlotIx) : Prop := ¬s.bays[j].isShed = true ∨ (entryOf s j).isSome = true

theorem restoreVisit_passed {i : SlotIx} {k : List SlotIx} {w : Work} (h : passedOver w.st i) :
    restoreVisit (i :: k) w = restoreVisit k w := by
  have g : (!w.st.bays[i].isShed || (entryOf w.st i).isSome) = true := by
    simpa only [passedOver, Bool.or_eq_true, Bool.not_eq_true', Bool.not_eq_true] using h
  simp only [restoreVisit, g, if_true]

theorem restoreVisit_append {l k : List SlotIx} {w : Work} (h : ∀ j ∈ l, passedOver w.st j) :
    restoreVisit (l ++ k) w = restoreVisit k w := by
  induction l with
  | nil => rfl
  | cons i l ih =>
    rw [List.cons_append, restoreVisit_passed (h i (.head _)), ih fun j m => h j (.tail _ m)]

/-- The visit of a slot that is not passed over. -/
theorem restoreVisit_taken {i : SlotIx} {k : List SlotIx} {w : Work} (h : ¬passedOver w.st i) :
    restoreVisit (i :: k) w =
      if w.st.bays[i].seq.state == .shedOff then
        w.map fun s => handEntry i .restorePower (entryWatts s i)
          { s with budget := { s.budget with restoreEntry := some i } }
      else if w.st.bays[i].charge < w.st.bays[i].withoutShed.charge then
        w.map fun s => handEntry i .restoreCeiling (w.st.bays[i].withoutShed.charge - w.st.bays[i].charge)
          { s with budget := { s.budget with restoreEntry := some i } }
      else restoreVisit k (settleSlot i (modBay .fault i Bay.withoutShed w)) := by
  have g : (!w.st.bays[i].isShed || (entryOf w.st i).isSome) = false := by
    obtain ⟨shed, free⟩ := not_or.1 h
    rw [not_not.1 shed, Bool.eq_false_of_not_eq_true free]
    rfl
  simp only [restoreVisit, g, Bool.false_eq_true, if_false]

theorem mayRestore_iff (s : State) : mayRestore s = true ↔ s.census = none ∧ s.budget.deficit = false ∧
    (s.settings.constants.restoreMargin : Int) ≤ s.budget.ha ∧ s.budget.restoreEntry = none := by
  simp [mayRestore, and_assoc]

/-- Settles O27: each purpose is one change of its slot; the queue and the two orders by insertion; the visit of
restoration by what it does with one slot. -/
theorem admissionsCarryOutTheirPurpose : Obligations.AdmissionsCarryOutTheirPurpose := by
  refine ⟨fun w e => ⟨fun h => ?_, fun h => ?_, fun f h held => ?_, fun x h pending => ?_⟩,
    fun s e l h => ⟨insertEntry_ordered s e l h, insertEntry_perm s e l⟩,
    fun s i p n => ⟨fun h => handEntry_some h p n, fun h => handEntry_none h p n, fun a h => ?_, entryWatts_range⟩,
    fun s i p => ⟨fun h => ?_, fun e h => ?_⟩, admission_reported, fun w i => ⟨fun h => ?_, fun h => ?_⟩,
    restoreOrder_ordered, fun w => ⟨fun h => ?_, fun c d m e => ?_, fun l h => ?_, fun l k i h n => ?_⟩⟩
  · have c : carryOut e w = modBay .fault e.slot (fun b => b.toRamp w.st.now) w := by
      obtain h | h := h <;> simp only [carryOut, h]
    dsimp only
    rw [carryOut_seq c]
    exact ⟨rfl, rfl, rfl, rfl, rfl, rfl⟩
  · have c : carryOut e w = modBay .fault e.slot Bay.ceilingRestored w := by simp only [carryOut, h]
    have seq (b : Bay) : b.ceilingRestored.seq = b.withoutShed.seq := by
      simp only [Bay.ceilingRestored]; split <;> rfl
    dsimp only
    rw [carryOut_seq c, seq]
    refine ⟨rfl, fun running => ?_⟩
    rw [c, modBay_bay]
    refine capFollows_cap ?_
    have r : (w.st.bays[e.slot].withoutShed.seq.state == .running) = true := beq_iff_eq.2 running
    simp only [Bay.ceilingRestored, r, if_true]
    rfl
  · have c : carryOut e w = modBay .fault e.slot (fun b => match b.link.held with
        | some f => b.fixFigures f
        | none => b) w := by simp only [carryOut, h] <;> rfl
    rw [carryOut_seq c, c, modBay_bay, capFollows_held, held]
    exact ⟨rfl, rfl⟩
  · have c : carryOut e w = modBay .fault e.slot Bay.settled w := by simp only [carryOut, h]
    rw [carryOut_seq c, Bay.settled, pending]
    rfl
  · rw [entryWatts, h]; rfl
  · have same : entryOf (setBay i (fun b => { b with seq := { b.seq with priority := p } }) s) i = none := h
    simp only [changePriority, same]
  · have same : entryOf (setBay i (fun b => { b with seq := { b.seq with priority := p } }) s) i = some e := h
    simp only [changePriority, same]
    exact recheck_queue rfl rfl
  · simp only [deliver, h, beq_self_eq_true, if_true]
  · simp only [deliver, beq_false_of_ne h, Bool.false_eq_true, if_false]
  · exact if_neg fun g => h ((mayRestore_iff _).1 g)
  · exact if_pos ((mayRestore_iff _).2 ⟨c, d, m, e⟩)
  · have passed (j : SlotIx) (m : j ∈ l) : passedOver w.st j := (h j m).imp_left fun n => n ∘ (isShed_iff _).1
    have all := restoreVisit_append (k := []) passed
    rwa [List.append_nil] at all
  · have passed (j : SlotIx) (m : j ∈ l) : passedOver w.st j := (h j m).imp_left fun n => n ∘ (isShed_iff _).1
    have taken : ¬passedOver w.st i := fun p => n (p.imp_left fun n => n ∘ (isShed_iff _).2)
    dsimp only
    rw [restoreVisit_append passed, restoreVisit_taken taken]
    refine ⟨fun e => if_pos (beq_iff_eq.2 e), fun e l => ?_, fun e l => ?_⟩
    · rw [if_neg (by rw [e]; decide), if_pos l]
    · rw [if_neg (by rw [e]; decide), if_neg (Nat.not_lt.2 l)]
      rfl

end Sys2Proof.Machine

end

section
/-! PROOF. A send: what it counts and consumes, the station's own receipt by the kind of the message, and the restart that
an ANSWER owes. -/

namespace Sys2Proof.Machine

/-! ### The requester side's and the owner side's own moves -/

theorem takeOffer_kept (src : Addr) (m : OfferMsg) (s : State) : Kept s (takeOffer src m s) := by
  have returned (i : SlotIx) (p : PortIx) : Kept s (returnOffer i p src m s) :=
    (offer_kept rfl s).trans (setPort_kept ..)
  simp only [takeOffer]
  split
  · exact .refl s
  · split
    case h_1 => exact setPort_kept ..
    case h_2 => exact setPort_kept ..
    case h_3 =>
      split
      · exact .refl s
      · exact returned ..
    all_goals exact returned ..

theorem takeDefer_kept (m : DeferMsg) (s : State) : Kept s (takeDefer m s) := by
  simp only [takeDefer]
  split
  · exact .refl s
  · split
    · exact setPort_kept ..
    · exact .refl s

theorem takeRefuse_kept (m : RefuseMsg) (s : State) : Kept s (takeRefuse m s) := by
  simp only [takeRefuse]
  split
  · exact .refl s
  · split
    · exact setPort_kept ..
    · exact .refl s

theorem takeWithdraw_kept (m : WithdrawMsg) (s : State) : Kept s (takeWithdraw m s) := by
  simp only [takeWithdraw]
  split
  · exact .refl s
  · exact setPort_kept ..

theorem judgeNewBid_control (now : Nat) (src : Addr) (m : BidMsg) (o : Owner) : (judgeNewBid now src m o).2.cls = .control := by
  simp only [judgeNewBid]
  split
  · rfl
  · split
    · rfl
    · split <;> rfl

/-- A bid is answered with CONTROL messages. -/
theorem takeBid_control (now : Nat) (src : Addr) (m : BidMsg) (o : Owner) (x : Outgoing)
    (h : x ∈ (takeBid now src m o).2) : x.cls = .control := by
  simp only [takeBid] at h
  split at h
  · exact absurd h List.not_mem_nil
  · split at h
    · rw [List.mem_singleton.1 h]; rfl
    · split at h
      · split at h <;> (rw [List.mem_singleton.1 h]; rfl)
      · rw [List.mem_singleton.1 h]; exact judgeNewBid_control ..

/-- The owner side's act changes the owner record, and offers CONTROL messages. -/
theorem ownerActs_kept (m : Nat) {f : Owner → Owner × List Outgoing} (h : ∀ o, ∀ x ∈ (f o).2, x.cls = .control)
    (s : State) : ∃ o, Kept { s with owner := o } (ownerActs m f s) := by
  simp only [ownerActs]
  split
  · split
    · exact ⟨_, offerAll_kept (h _) _⟩
    · exact ⟨s.owner, .refl s⟩
  · exact ⟨s.owner, .refl s⟩

/-! ### What a send leaves once it is counted -/

/-- What stays once a send is counted. -/
structure Late (s t : State) : Prop where
  onBus : t.bus.onBus = s.bus.onBus
  lastServed : t.bus.lastServed = s.bus.lastServed
  sequence : t.bus.sequence = s.bus.sequence
  good : t.bus.good = s.bus.good
  crcDrops : t.bus.crcDrops = s.bus.crcDrops
  nextNumber : t.budget.nextNumber = s.budget.nextNumber

theorem Late.trans {s t u : State} (h : Late s t) (k : Late t u) : Late s u :=
  ⟨k.1.trans h.1, k.2.trans h.2, k.3.trans h.3, k.4.trans h.4, k.5.trans h.5, k.6.trans h.6⟩

theorem Kept.late {s t : State} (k : Kept s t) : Late s t :=
  ⟨k.bus.onBus, k.bus.lastServed, k.bus.sequence, k.bus.good, k.bus.crcDrops, k.nextNumber⟩

theorem Late.of_same {s t : State} (b : t.bus = s.bus) (n : t.budget.nextNumber = s.budget.nextNumber) : Late s t := by
  constructor <;> (try rw [b])
  exact n

theorem ownerActs_late (m : Nat) {f : Owner → Owner × List Outgoing} (h : ∀ o, ∀ x ∈ (f o).2, x.cls = .control)
    (s : State) : Late s (ownerActs m f s) := by
  obtain ⟨o, k⟩ := ownerActs_kept m h s
  exact (Late.of_same rfl rfl : Late s { s with owner := o }).trans k.late

/-- An offer of a message that does not merge touches its FIFO, the overflow count and the owed offers only. -/
theorem offer_late (m : Outgoing) (s : State) : Late s (offer m s) := by
  have set (c : MsgClass) (l : List Outgoing) (o : List Owed) :
      Late s { s with bus := { s.bus.setFifo c l with owed := o } } := by cases c <;> exact ⟨rfl, rfl, rfl, rfl, rfl, rfl⟩
  have waits (c : MsgClass) (l : List Outgoing) : Late s { s with bus := s.bus.setWaiting c l } := by
    cases c <;> exact ⟨rfl, rfl, rfl, rfl, rfl, rfl⟩
  simp only [offer, BusPort.offer]
  split
  · split
    · exact waits ..
    · exact .of_same rfl rfl
  · split
    · exact set ..
    · exact ⟨rfl, rfl, rfl, rfl, rfl, rfl⟩

theorem ite_late {c : Bool} {f : State → State} (h : ∀ s, Late s (f s)) (s : State) :
    Late s ((if c = true then f else id) s) := by
  split
  · exact h s
  · exact .of_same rfl rfl

theorem answerTopic_roll (dst : Addr) (s : State) : answerTopic dst 6 0 0 s = offer .rollCall s := rfl

theorem dropClaim_late (n : Serial) (r : DropReason) (s : State) : Late s (dropClaim n r s) := by
  refine Late.trans (t := unclaimed s) (.of_same rfl rfl) ?_
  exact ((offer_kept rfl (unclaimed s)).trans (sendingCheck_kept _)).late

theorem decideClaim_late (n : Serial) (watts : Nat) (s : State) : Late s (decideClaim n watts ⟨s, []⟩).st := by
  simp only [decideClaim]
  split
  · split
    · next e _ =>
      split
      · rw [admitClaim_eq]
        obtain ⟨f, c⟩ := carryOut_eq e ⟨admitted e n s, [.settle e.slot]⟩
        rw [c]
        exact .of_same (modBay_bus ..) (by rw [modBay_budget]; rfl)
      · exact (Late.of_same rfl rfl : Late s { s with budget := { s.budget with
          bar := some ⟨e.arrival, s.budget.ha, s.now, false⟩ } }).trans (dropClaim_late ..)
    · exact dropClaim_late ..
  · exact .of_same rfl rfl

theorem selfReceive_late (x : OnBus) (s : State) : Late s (selfReceive x ⟨s, []⟩).st := by
  have same : Late s s := .of_same rfl rfl
  cases x with
  | rollCall m => exact same
  | standing m => exact same
  | claim m => exact decideClaim_late ..
  | fixed m =>
    cases m with
    | laneBid d m =>
      simp only [selfReceive]
      split
      · exact ownerActs_late _ (takeBid_control _ _ _) s
      · exact same
    | laneReturn d m =>
      simp only [selfReceive]
      split
      · exact ownerActs_late _ (fun o x h => absurd h List.not_mem_nil) s
      · exact same
    | laneOffer d m =>
      simp only [selfReceive]
      split
      · exact ite_late (fun s => (takeOffer_kept _ m s).late) s
      · exact same
    | laneDefer d m =>
      simp only [selfReceive]
      split
      · exact (takeDefer_kept m s).late
      · exact same
    | laneRefuse d m =>
      simp only [selfReceive]
      split
      · exact ite_late (fun s => (takeRefuse_kept m s).late) s
      · exact same
    | laneWithdraw d m =>
      simp only [selfReceive]
      split
      · exact ite_late (fun s => (takeWithdraw_kept m s).late) s
      · exact same
    | askRoll d =>
      simp only [selfReceive]
      split
      · exact offer_late ..
      · exact same
    | rollCall | standing | claim _ _ _ | claimDrop _ _ | supplyAlarm _ _ _ | answer _ _ _ => exact same

theorem selfFail_late (x : OnBus) (s : State) : Late s (selfFail x s) := by
  cases x with
  | claim m =>
    simp only [selfFail, failClaim]
    split
    · exact dropClaim_late ..
    · exact .of_same rfl rfl
  | rollCall _ | standing _ | fixed _ => exact .of_same rfl rfl

/-! ### The send -/

/-- The STANDING sequence, and the next CLAIM number, after a message is sent. -/
def sequenceAfter (x : OnBus) (n : Serial) : Serial :=
  match x with
  | .standing _ => n + 1
  | .rollCall _ | .claim _ | .fixed _ => n

def numberAfter (x : OnBus) (n : Serial) : Serial :=
  match x with
  | .claim _ => n + 1
  | .rollCall _ | .standing _ | .fixed _ => n

/-- The bus port and the next claim number once the numbers of a message are consumed. -/
structure Consumed (x : OnBus) (s v : State) : Prop where
  onBus : v.bus.onBus = s.bus.onBus
  lastServed : v.bus.lastServed = s.bus.lastServed
  sequence : v.bus.sequence = sequenceAfter x s.bus.sequence
  good : v.bus.good = s.bus.good
  crcDrops : v.bus.crcDrops = s.bus.crcDrops
  nextNumber : v.budget.nextNumber = numberAfter x s.budget.nextNumber

/-- A STANDING's sequence used. -/
def sequenced (s : State) : State := { s with bus := { s.bus with sequence := s.bus.sequence + 1 } }

theorem consume_standing (m : Standing) (s : State) : consume (.standing m) s =
    if s.budget.own.state = .admitted ∧ s.budget.own.number = some m.folded then sendingCheck (unclaimed (sequenced s))
    else sequenced s := by
  simp only [consume, Bool.and_eq_true, beq_iff_eq]
  rfl

theorem consume_consumed (x : OnBus) (s : State) : Consumed x s (consume x s) := by
  cases x with
  | standing m =>
    rw [consume_standing]
    split
    · have k := sendingCheck_kept (unclaimed (sequenced s))
      exact ⟨k.bus.onBus, k.bus.lastServed, k.bus.sequence, k.bus.good, k.bus.crcDrops, k.nextNumber⟩
    · exact ⟨rfl, rfl, rfl, rfl, rfl, rfl⟩
  | rollCall _ | claim _ | fixed _ => exact ⟨rfl, rfl, rfl, rfl, rfl, rfl⟩

/-- The station as a send and its own receipt leave it. -/
def sentState (c : MsgClass) (x : OnBus) (good : Bool) (s : State) : State :=
  let v := consume x { s with bus := s.bus.sent c }
  finish (if good then selfReceive x ⟨countGood v, []⟩ else ⟨selfFail x (countCrcDrop v), []⟩)

theorem exec_messageSent {s : State} {good : Bool} {c : MsgClass} {x : OnBus} (r : s.run = .running)
    (b : s.bus.onBus = some (c, x)) : exec (.messageSent good) s =
      .next (if owesRestart x then beginWarm (sentState c x good s) else sentState c x good s) := by
  show execMessageSent good s = _
  simp only [execMessageSent, b, r, beq_self_eq_true, if_true, sendOutcome, sendMessage, sentState, Work.map,
    leaveFifo_sent]

/-- A CLAIM's own receipt is the whole of its send. -/
theorem exec_ownClaimReceipt_sent {s : State} {c : MsgClass} {m : ClaimMsg} (r : s.run = .running)
    (b : s.bus.onBus = some (c, .claim m)) : exec .ownClaimReceipt s = .next (sentState c (.claim m) true s) := by
  show execOwnClaimReceipt s = _
  simp only [execOwnClaimReceipt, b]
  rw [event_occurs _ r rfl]
  simp only [sendMessage, Work.map, leaveFifo_sent, sentState]

theorem exec_ownClaimBadReceipt_sent {s : State} {c : MsgClass} {m : ClaimMsg} (r : s.run = .running)
    (b : s.bus.onBus = some (c, .claim m)) : exec .ownClaimBadReceipt s = .next (sentState c (.claim m) false s) := by
  show execOwnClaimBadReceipt s = _
  simp only [execOwnClaimBadReceipt, b]
  rw [event_occurs _ r rfl]
  simp only [sendMessage, Work.map, leaveFifo_sent, sentState]

theorem countCrcDrop_late (s : State) : (countCrcDrop s).bus.onBus = s.bus.onBus ∧
    (countCrcDrop s).bus.lastServed = s.bus.lastServed ∧ (countCrcDrop s).bus.sequence = s.bus.sequence ∧
    (countCrcDrop s).bus.good = s.bus.good ∧ (countCrcDrop s).bus.crcDrops = satInc s.bus.crcDrops ∧
    (countCrcDrop s).budget = s.budget := by
  simp only [countCrcDrop]
  split <;> exact ⟨rfl, rfl, rfl, rfl, rfl, rfl⟩

/-- What a send counts and consumes, whichever message it is. -/
theorem sentState_counts (c : MsgClass) (x : OnBus) (good : Bool) (s : State) :
    let t := sentState c x good s
    t.bus.onBus = none ∧ t.bus.lastServed = (s.bus.sent c).lastServed ∧
      t.bus.good = (if good then satInc s.bus.good else s.bus.good) ∧
      t.bus.crcDrops = (if good then s.bus.crcDrops else satInc s.bus.crcDrops) ∧
      t.bus.sequence = sequenceAfter x s.bus.sequence ∧ t.budget.nextNumber = numberAfter x s.budget.nextNumber := by
  have v := consume_consumed x { s with bus := s.bus.sent c }
  cases good with
  | true =>
    have k := (selfReceive_late x (countGood (consume x { s with bus := s.bus.sent c }))).trans (finish_kept _).late
    exact ⟨k.onBus.trans v.onBus, k.lastServed.trans v.lastServed, k.good.trans (congrArg satInc v.good),
      k.crcDrops.trans v.crcDrops, k.sequence.trans v.sequence, k.nextNumber.trans v.nextNumber⟩
  | false =>
    obtain ⟨onBus, lastServed, sequence, goods, drops, budget⟩ := countCrcDrop_late (consume x { s with bus := s.bus.sent c })
    have k := (selfFail_late x (countCrcDrop (consume x { s with bus := s.bus.sent c }))).trans
      (finish_kept ⟨selfFail x (countCrcDrop (consume x { s with bus := s.bus.sent c })), []⟩).late
    exact ⟨k.onBus.trans (onBus.trans v.onBus), k.lastServed.trans (lastServed.trans v.lastServed),
      k.good.trans (goods.trans v.good), k.crcDrops.trans (drops.trans (congrArg satInc v.crcDrops)),
      k.sequence.trans (sequence.trans v.sequence), k.nextNumber.trans ((congrArg Budget.nextNumber budget).trans v.nextNumber)⟩

theorem owesRestart_iff (x : OnBus) : owesRestart x = true ↔ ∃ a m, x = .fixed (.answer a m true) := by
  refine ⟨fun h => ?_, fun ⟨a, m, e⟩ => e ▸ rfl⟩
  cases x with
  | fixed m =>
    cases m with
    | answer a m r => exact ⟨a, m, by rw [show r = true from h]⟩
    | _ => exact absurd h Bool.false_ne_true
  | _ => exact absurd h Bool.false_ne_true

/-- The ANSWER that owes a restart is only counted before the restart begins. -/
theorem sentState_answer (c : MsgClass) (a : Addr) (m : AnswerMsg) (o good : Bool) (s : State) :
    (sentState c (.fixed (.answer a m o)) good s).run = s.run ∧ (sentState c (.fixed (.answer a m o)) good s).now = s.now := by
  cases good with
  | true =>
    have k := finish_kept ⟨countGood { s with bus := s.bus.sent c }, []⟩
    exact ⟨k.run, k.now⟩
  | false =>
    have k := finish_kept ⟨countCrcDrop { s with bus := s.bus.sent c }, []⟩
    obtain ⟨x, e, _⟩ := countCrcDrop_eq { s with bus := s.bus.sent c }
    exact ⟨k.run.trans (by rw [e]), k.now.trans (by rw [e])⟩

/-- The own good message of a kind that owes no restart, taken as it is sent. -/
theorem exec_own {s : State} {k : MsgClass} {x : Outgoing} {f : State → State} (r : s.run = .running)
    (b : s.bus.onBus = some (k, .fixed x)) (n : owesRestart (.fixed x) = false)
    (h : selfReceive (.fixed x) ⟨countGood { s with bus := s.bus.sent k }, []⟩ =
      ⟨f (countGood { s with bus := s.bus.sent k }), []⟩) :
    exec (.messageSent true) s = .next (settleFlags (f (countGood { s with bus := s.bus.sent k }))) := by
  rw [exec_messageSent r b, n, ← finish_done, ← h]
  rfl

/-- What the send of a STANDING leaves of the ROUTINE and CONTROL FIFOs and the budget record. -/
theorem standing_sent (m : Standing) (good : Bool) (s : State) :
    let v := consume (.standing m) { s with bus := s.bus.sent .routine }
    (sentState .routine (.standing m) good s).bus.routine = v.bus.routine ∧
      (sentState .routine (.standing m) good s).bus.control = v.bus.control ∧
      (sentState .routine (.standing m) good s).budget = v.budget := by
  have e : sentState .routine (.standing m) good s = settleFlags (if good
      then countGood (consume (.standing m) { s with bus := s.bus.sent .routine })
      else countCrcDrop (consume (.standing m) { s with bus := s.bus.sent .routine })) := by
    cases good <;> exact finish_done _
  dsimp only
  rw [e]
  cases good with
  | true => exact ⟨rfl, rfl, rfl⟩
  | false =>
    obtain ⟨_, _, _, _, _, budget⟩ := countCrcDrop_late (consume (.standing m) { s with bus := s.bus.sent .routine })
    refine ⟨?_, ?_, budget⟩
    · simp only [Bool.false_eq_true, if_false, settleFlags, countCrcDrop]
      split <;> rfl
    · simp only [Bool.false_eq_true, if_false, settleFlags, countCrcDrop]
      split <;> rfl

/-- The sending check's conditions do not look at what a folded claim's end changes. -/
theorem headFits_folded (s : State) (e : Entry) :
    HeadFits (unclaimed (sequenced { s with bus := s.bus.sent .routine })) e ↔ HeadFits s e :=
  ⟨fun h => ⟨h.1, h.2, h.3, h.4, h.5, h.6⟩, fun h => ⟨h.1, h.2, h.3, h.4, h.5, h.6⟩⟩

/-- Settles O16: what every send counts, then the own receipt by the kind of the message, and what a STANDING consumes. -/
theorem sendsConsumeTheirNumbers : Obligations.SendsConsumeTheirNumbers := by
  refine ⟨fun s good c x r b => ?_, fun s good c x r b => ?_, fun s => ?_, fun s k x r b => ?_, fun s good m r b => ?_⟩
  · obtain ⟨onBus, lastServed, goods, drops, sequence, number⟩ := sentState_counts c x good s
    refine ⟨_, exec_messageSent r b, ?_⟩
    cases o : owesRestart x with
    | false =>
      exact ⟨onBus, goods, drops, sequence.trans (by cases x <;> rfl), number.trans (by cases x <;> rfl),
        fun _ => lastServed.trans (by cases c <;> rfl)⟩
    | true =>
      exact ⟨rfl, goods, drops, sequence.trans (by cases x <;> rfl), number.trans (by cases x <;> rfl),
        fun h => absurd h Bool.noConfusion⟩
  · have e := exec_messageSent (good := good) r b
    refine ⟨fun o => ?_, fun o => ?_, owesRestart_iff x, fun m h => ?_⟩
    · rw [e, o]; rfl
    · obtain ⟨a, m, rfl⟩ := (owesRestart_iff x).1 o
      obtain ⟨run, now⟩ := sentState_answer c a m true good s
      have running : (sentState c (.fixed (.answer a m true)) good s).run = .running := run.trans r
      refine ⟨running, ?_, _, e, ?_, rfl⟩
      · rw [e, o]
        show _ = Host.Outcome.next (assertRestart (sentState c (.fixed (.answer a m true)) good s))
        rw [assertRestart, running]
        rfl
      · exact congrArg RunPhase.warmRestart now
    · subst h
      rw [e]
      cases good with
      | true => exact (exec_ownClaimReceipt_sent r b).symm
      | false => exact (exec_ownClaimBadReceipt_sent r b).symm
  · refine ⟨fun _ => rfl, fun _ => rfl, fun _ => rfl, fun m => consume_standing m s, fun x h => ?_, fun _ => rfl, fun _ => rfl⟩
    cases x with
    | claim m => exact absurd rfl (h m)
    | _ => rfl
  · dsimp only
    refine ⟨?_, ?_, ?_, ?_, ?_, ?_, ?_, fun d n h => ?_, fun h => ?_⟩
    · rintro m rfl
      exact exec_own r b rfl (if_pos rfl)
    · rintro m rfl
      exact exec_own r b rfl (if_pos rfl)
    · rintro m rfl
      exact exec_own r b rfl (if_pos rfl)
    · rintro m rfl
      exact exec_own r b rfl (if_pos rfl)
    · rintro m rfl
      exact exec_own r b rfl (if_pos rfl)
    · rintro m rfl
      exact exec_own r b rfl (if_pos rfl)
    · rintro rfl
      exact exec_own r b rfl (if_pos rfl)
    · obtain ⟨m, rfl⟩ | ⟨m, rfl⟩ | ⟨m, rfl⟩ | ⟨m, rfl⟩ | ⟨m, rfl⟩ | ⟨m, rfl⟩ | rfl := h <;>
        exact exec_own r b rfl (if_neg n)
    · obtain ⟨_, _, rfl⟩ | ⟨_, _, _, rfl⟩ | ⟨_, _, rfl⟩ := h <;> exact exec_own r b rfl rfl
  · obtain ⟨routine, control, budget⟩ := standing_sent m good s
    refine ⟨_, exec_messageSent r b, ?_⟩
    simp only [owesRestart, Bool.false_eq_true, if_false, routine, control, budget, consume_standing]
    refine ⟨?_, fun own number => ?_, fun n => ?_⟩
    · split
      · exact (sendingCheck_kept (unclaimed (sequenced { s with bus := s.bus.sent .routine }))).bus.routine
      · rfl
    · rw [if_pos ⟨own, number⟩]
      refine ⟨fun h => ?_, fun e h room => ?_⟩
      · rw [sendingCheck_idle fun e f => absurd ((headFits_folded s e).1 f) (h e)]
        exact ⟨rfl, rfl⟩
      · rw [sendingCheck_offers ((headFits_folded s e).2 h) rfl,
          offerClaim_taken (s := unclaimed (sequenced { s with bus := s.bus.sent .routine })) room]
        exact ⟨rfl, rfl⟩
    · rw [if_neg fun ⟨x, y⟩ => n.elim (· x) (· y)]
      exact ⟨rfl, rfl⟩

end Sys2Proof.Machine

end

section
/-! PROOF. The trunk unit: frames that arrive at it, bids, returns, discards, answers and withdrawals, and lane faults. -/

namespace Sys2Proof.Machine

/-! ### Frames that arrive -/

/-- A frame that arrives leaves the bus port alone to be changed before anything acts on it. -/
theorem arrives_bus {recv c : Instr} {m : Outgoing} {src : Addr} {s u : State} (h : Arrives recv m src c s u) :
    ∃ b, u = { s with bus := b } := by
  obtain ⟨_, ⟨_, _, _, rfl⟩ | ⟨_, _, k, _, rfl⟩⟩ := h
  · exact ⟨_, rfl⟩
  · exact ⟨_, rfl⟩

/-- A lane message that arrives, a peer's or the own: it acts where it is destined for this station, and is only counted
elsewhere (R4). -/
theorem arrives_exec {recv c : Instr} {m : Outgoing} {r : Route} {f : State → State} {s u : State}
    (h : Arrives recv m r.src c s u) (received : exec recv s = destined s r (Work.map f))
    (plain : owesRestart (.fixed m) = false)
    (own : r.src = s.address → ∀ b : BusPort, selfReceive (.fixed m) ⟨{ s with bus := b }, []⟩ =
      ⟨if r.dst = s.address then f { s with bus := b } else { s with bus := b }, []⟩) :
    exec c s = .next (settleFlags (if r.dst = s.address then f u else u)) := by
  obtain ⟨running, ⟨rfl, foreign, known, rfl⟩ | ⟨rfl, home, k, onBus, rfl⟩⟩ := h
  · rw [received, destined_from _ running foreign known]
    split
    · exact congrArg _ (finish_done _)
    · exact congrArg _ (finish_done _)
  · exact exec_own (f := fun v => if r.dst = s.address then f v else v) running onBus plain (own home _)

theorem offerAll_owner (ms : List Outgoing) (s : State) : (offerAll ms s).owner = s.owner := by
  induction ms generalizing s with
  | nil => rfl
  | cons m ms ih => exact ih _

theorem ownerActs_owner (m : Nat) (f : Owner → Owner × List Outgoing) (s : State) :
    (ownerActs m f s).owner = s.owner.map fun o => if o.module.val == m then (f o).1 else o := by
  simp only [ownerActs]
  split
  · next o e =>
    rw [e, Option.map_some]
    split
    · rw [offerAll_owner]
    · exact e
  · next e => rw [e]; rfl

/-- The owner side acts on a module of its own. -/
theorem ownerActs_own {m : Nat} {f : Owner → Owner × List Outgoing} {s : State} {o : Owner} (e : s.owner = some o)
    (h : o.module.val = m) : ownerActs m f s = offerAll (f o).2 { s with owner := some (f o).1 } := by
  simp only [ownerActs, e, beq_iff_eq.2 h, if_true]

theorem ownerActs_foreign {m : Nat} {f : Owner → Owner × List Outgoing} {s : State}
    (h : ∀ o, s.owner = some o → o.module.val ≠ m) : ownerActs m f s = s := by
  simp only [ownerActs]
  split
  · next o e => rw [beq_false_of_ne (h o e)]; rfl
  · rfl

/-- A destined frame whose body changes the owner record by that record alone changes it alike from an UNKNOWN source and
from one that is known. -/
theorem destined_owner {s : State} {x : Route} {f : State → State} (r : s.run = .running) (n : x.src ≠ s.address)
    (d : x.dst = s.address) (u : s.peers[x.src].state = .unknown)
    (h : ∀ v w : State, v.owner = w.owner → (f v).owner = (f w).owner) :
    ∃ t y, destined s x (Work.map f) = .next t ∧ t.owner = y.owner ∧
      destined (setPeer x.src (fun p => { p with state := .live, ageFrom := some s.now }) s) x (Work.map f) = .next y := by
  have live : (setPeer x.src (fun p => { p with state := .live, ageFrom := some s.now }) s).peers[x.src].state ≠ .unknown := by
    rw [setPeer, updAt_self]
    exact PeerState.noConfusion
  refine ⟨_, _, destined_answer _ r n, ?_, destined_from _ r n live⟩
  rw [if_pos d, if_pos (show x.dst = (setPeer x.src _ s).address from d)]
  refine (finish_kept _).owner.trans (Eq.trans (h _ _ ?_) (finish_kept ⟨_, []⟩).owner.symm)
  exact (hearOnly_kept u).owner

/-- A destined frame that the owner side does not act on, from an UNKNOWN source. -/
theorem destined_idle {s : State} {x : Route} {f : State → State} (r : s.run = .running) (n : x.src ≠ s.address)
    (u : s.peers[x.src].state = .unknown) (h : ∀ v : State, v.owner = s.owner → f v = v) :
    HeardOnly s x.src (destined s x (Work.map f)) := by
  refine ⟨_, destined_answer _ r n, ?_⟩
  have k := hearOnly_kept u
  have e : (flush (hearOnly x.src ⟨s, []⟩)).map f = flush (hearOnly x.src ⟨s, []⟩) := by
    rw [Work.map, h _ k.owner]
  rw [e, ite_self]
  exact k.trans (finish_kept _)

/-! ### Bids -/

theorem supersede_eq (src : Addr) (m : BidMsg) (o : Owner) :
    supersede src m o =
      let u := o.without (latchOfPort src m) (holderOfPort src m)
      if u.lanes = o.lanes then u else reserve u := by
  simp only [supersede, without_eq]
  exact reserveIfFreed_without ..

theorem findHolder_none {p : Holder → Bool} {lanes : List LaneState} (h : findHolder p lanes = none) (x : Holder)
    (m : .held x ∈ lanes) : p x = false := by
  have e := List.findSome?_eq_none_iff.1 h _ m
  dsimp only at e
  split at e
  · exact absurd e (Option.some_ne_none _)
  · next n => exact Bool.eq_false_of_not_eq_true n

/-- A port without latches and groups of its own gives nothing up. -/
theorem without_nothing {o : Owner} {p : Latch → Bool} {q : Holder → Bool} (l : ∀ x ∈ o.latches, p x = false)
    (h : findHolder q o.lanes = none) : o.without p q = o := by
  have lanes : (o.without p q).lanes = o.lanes := by
    rw [without_lanes, freeLanes]
    refine (List.map_congr_left fun x m => ?_).trans (List.map_id _)
    have kept : o.loses p q x = false := by
      cases x with
      | held y => exact findHolder_none h y m
      | reserved k =>
        refine List.any_eq_false.2 fun y my => ?_
        rw [l y my, Bool.false_and]
        exact Bool.false_ne_true
      | free => rfl
      | fenced => rfl
    rw [kept]
    rfl
  have latches : (o.without p q).latches = o.latches := by
    refine List.filter_eq_self.2 fun y m => ?_
    rw [l y m]
    rfl
  calc o.without p q = { o with lanes := (o.without p q).lanes, latches := (o.without p q).latches } := rfl
    _ = o := by rw [lanes, latches]

/-- The first fit of a new bid, and the three answers of one without a fit. -/
theorem judgeNewBid_fit {now : Nat} {src : Addr} {m : BidMsg} {o : Owner} {g : Group} (h : firstFit o.lanes m.lanes = some g) :
    judgeNewBid now src m o = (holdGroup src m g o, offerOf src m g) := by simp only [judgeNewBid, h]

theorem judgeNewBid_wide {now : Nat} {src : Addr} {m : BidMsg} {o : Owner} (h : firstFit o.lanes m.lanes = none)
    (w : o.lanes.length < m.lanes) : judgeNewBid now src m o = (o, refuseOf src m .tooWide) := by
  simp only [judgeNewBid, h, w, if_true]

theorem judgeNewBid_defers {now : Nat} {src : Addr} {m : BidMsg} {o : Owner} (h : firstFit o.lanes m.lanes = none)
    (w : m.lanes ≤ o.lanes.length) (l : o.latches.length < 4) : judgeNewBid now src m o =
      ({ o with
          latches := o.latches ++ [⟨src, m.slot, m.port, m.lanes, m.tag, o.nextLatch, none, now + 1000⟩]
          nextLatch := o.nextLatch + 1 }, deferOf src m) := by
  simp only [judgeNewBid, h, Nat.not_lt.2 w, if_false]
  exact if_pos l

theorem judgeNewBid_full {now : Nat} {src : Addr} {m : BidMsg} {o : Owner} (h : firstFit o.lanes m.lanes = none)
    (w : m.lanes ≤ o.lanes.length) (l : 4 ≤ o.latches.length) :
    judgeNewBid now src m o = (o, refuseOf src m .latchesFull) := by
  simp only [judgeNewBid, h, Nat.not_lt.2 w, if_false]
  exact if_neg (Nat.not_lt.2 l)

section
variable {now : Nat} {src : Addr} {m : BidMsg} {o : Owner}

theorem takeBid_odd (h : lanesOk m.lanes = false) : takeBid now src m o = (o, []) := by
  simp only [takeBid, h, Bool.not_false, if_true]

theorem takeBid_held {h : Holder} (l : lanesOk m.lanes = true)
    (f : findHolder (fun h => holderOfPort src m h && h.tag == m.tag) o.lanes = some h) :
    takeBid now src m o = (o, [offerOf src m h.group]) := by
  simp only [takeBid, l, Bool.not_true, Bool.false_eq_true, if_false, f]

theorem takeBid_reserved {l : Latch} {g : Group} (w : lanesOk m.lanes = true)
    (f : findHolder (fun h => holderOfPort src m h && h.tag == m.tag) o.lanes = none)
    (e : o.latches.find? (fun l => latchOfPort src m l && l.tag == m.tag) = some l) (r : l.reserved = some g) :
    takeBid now src m o =
      (holdGroup src m g { o with latches := o.latches.filter fun x => x.created != l.created }, [offerOf src m g]) := by
  simp only [takeBid, w, Bool.not_true, Bool.false_eq_true, if_false, f, e, r]

theorem takeBid_latched {l : Latch} (w : lanesOk m.lanes = true)
    (f : findHolder (fun h => holderOfPort src m h && h.tag == m.tag) o.lanes = none)
    (e : o.latches.find? (fun l => latchOfPort src m l && l.tag == m.tag) = some l) (r : l.reserved = none) :
    takeBid now src m o =
      ({ o with latches := o.latches.map fun x =>
          if x.created == l.created then { x with discard := now + Config.latchPeriod } else x }, [deferOf src m]) := by
  simp only [takeBid, w, Bool.not_true, Bool.false_eq_true, if_false, f, e, r]

theorem takeBid_new (w : lanesOk m.lanes = true)
    (f : findHolder (fun h => holderOfPort src m h && h.tag == m.tag) o.lanes = none)
    (e : o.latches.find? (fun l => latchOfPort src m l && l.tag == m.tag) = none) :
    takeBid now src m o = ((judgeNewBid now src m (supersede src m o)).1,
      [(judgeNewBid now src m (supersede src m o)).2]) := by
  simp only [takeBid, w, Bool.not_true, Bool.false_eq_true, if_false, f, e]

end

/-- The station's own message to itself, or to another station. -/
theorem own_if {c : Prop} [Decidable c] {f : State → State} {s : State} :
    (if c then (⟨s, []⟩ : Work).map f else ⟨s, []⟩) = ⟨if c then f s else s, []⟩ := by
  split <;> rfl

theorem bid_arrives {s u : State} {c : Instr} {r : Route} {m : BidMsg}
    (h : Arrives (.laneBidReceived r m) (.laneBid r.dst m) r.src c s u) : exec c s = .next (settleFlags
      (if r.dst = s.address then ownerActs m.module.val (takeBid s.now r.src m) u else u)) :=
  arrives_exec h rfl rfl fun home b => by
    rw [home]
    exact own_if (f := fun v => ownerActs m.module.val (takeBid v.now s.address m) v)

theorem return_arrives {s u : State} {c : Instr} {r : Route} {m : ReturnMsg}
    (h : Arrives (.laneReturnReceived r m) (.laneReturn r.dst m) r.src c s u) : exec c s = .next (settleFlags
      (if r.dst = s.address then ownerActs m.module (fun o => (takeReturn r.src m o, [])) u else u)) :=
  arrives_exec h rfl rfl fun home b => by
    rw [home]
    exact own_if (f := ownerActs m.module fun o => (takeReturn s.address m o, []))

theorem offer_arrives {s u : State} {c : Instr} {r : Route} {m : OfferMsg}
    (h : Arrives (.laneOfferReceived r m) (.laneOffer r.dst m) r.src c s u) : exec c s = .next (settleFlags
      (if r.dst = s.address then (if m.inRange = true then takeOffer r.src m else id) u else u)) :=
  arrives_exec h rfl rfl fun home b => by
    rw [home]
    exact own_if

theorem defer_arrives {s u : State} {c : Instr} {r : Route} {m : DeferMsg}
    (h : Arrives (.laneDeferReceived r m) (.laneDefer r.dst m) r.src c s u) : exec c s = .next (settleFlags
      (if r.dst = s.address then takeDefer m u else u)) :=
  arrives_exec h rfl rfl fun _ _ => own_if

theorem refuse_arrives {s u : State} {c : Instr} {r : Route} {m : RefuseMsg}
    (h : Arrives (.laneRefuseReceived r m) (.laneRefuse r.dst m) r.src c s u) : exec c s = .next (settleFlags
      (if r.dst = s.address then (if m.inRange = true then takeRefuse m else id) u else u)) :=
  arrives_exec h rfl rfl fun _ _ => own_if

theorem withdraw_arrives {s u : State} {c : Instr} {r : Route} {m : WithdrawMsg}
    (h : Arrives (.laneWithdrawReceived r m) (.laneWithdraw r.dst m) r.src c s u) : exec c s = .next (settleFlags
      (if r.dst = s.address then (if m.inRange = true then takeWithdraw m else id) u else u)) :=
  arrives_exec h rfl rfl fun _ _ => own_if

/-- A bid that arrives for a module of the own. -/
theorem bid_taken {s u : State} {c : Instr} {r : Route} {m : BidMsg} {o : Owner}
    (h : Arrives (.laneBidReceived r m) (.laneBid r.dst m) r.src c s u) (d : r.dst = s.address) (e : s.owner = some o)
    (k : o.module = m.module) :
    exec c s = .next (settleFlags (offerAll (takeBid s.now r.src m o).2
      { u with owner := some (takeBid s.now r.src m o).1 })) := by
  obtain ⟨b, same⟩ := arrives_bus h
  rw [bid_arrives h, if_pos d, ownerActs_own (s := u) (by rw [same]; exact e) (congrArg Fin.val k)]

theorem exec_laneBidReceived (r : Route) (m : BidMsg) (s : State) : exec (.laneBidReceived r m) s =
    destined s r (Work.map (ownerActs m.module.val (takeBid s.now r.src m))) := rfl

theorem exec_laneReturnReceived (r : Route) (m : ReturnMsg) (s : State) : exec (.laneReturnReceived r m) s =
    destined s r (Work.map (ownerActs m.module fun o => (takeReturn r.src m o, []))) := rfl

/-- Settles O29: a bid arrives at the owner side, whose answer is the first case of R160 that applies. -/
theorem bidsAreAnsweredByTheFirstCase : Obligations.BidsAreAnsweredByTheFirstCase := by
  refine ⟨fun s r m o run n d x _ _ => ?_, fun src m o => ⟨supersede_eq src m o, fun l h => ?_⟩,
    fun s r m h => ⟨fun c u a => ?_, fun run n x => ?_⟩, fun s u c r m o a d e k => ?_⟩
  · exact destined_owner run n d x fun v w q => by rw [ownerActs_owner, ownerActs_owner, q]
  · rw [supersede_eq, without_nothing l h]
    exact if_pos rfl
  · obtain ⟨b, rfl⟩ := arrives_bus a
    have idle : ownerActs m.module.val (takeBid s.now r.src m) { s with bus := b } = { s with bus := b } :=
      ownerActs_foreign fun o e q => h o e (Fin.ext q)
    rw [bid_arrives a, idle, ite_self]
  · exact destined_idle run n x fun v q => ownerActs_foreign fun o e y => h o (q.symm.trans e) (Fin.ext y)
  · dsimp only
    rw [bid_taken a d e k]
    obtain ⟨b, rfl⟩ := arrives_bus a
    refine ⟨fun odd => ?_, fun h w f => ?_, fun w f => ⟨fun l q => ⟨fun g x => ?_, fun x => ?_⟩, fun q => ⟨fun g x => ?_,
      fun x => ⟨fun wide => ?_, fun fits room => ?_, fun fits full => ?_⟩⟩⟩⟩
    · rw [takeBid_odd odd]
      simp only [offerAll, List.foldl_nil, ← e]
    · rw [takeBid_held w f]; rfl
    · rw [takeBid_reserved w f q x]; rfl
    · rw [takeBid_latched w f q x]; rfl
    · rw [takeBid_new w f q, judgeNewBid_fit x]; rfl
    · rw [takeBid_new w f q, judgeNewBid_wide x wide]; rfl
    · rw [takeBid_new w f q, judgeNewBid_defers x fits room]; rfl
    · rw [takeBid_new w f q, judgeNewBid_full x fits full]; rfl

end Sys2Proof.Machine

end

section
/-! PROOF. The trunk unit's owner side: returns and discards, the scan of a reservation, and lane faults; its requester
side: answers and withdrawals. -/

namespace Sys2Proof.Machine

/-! ### Lanes freed -/

/-- The groups of some holders freed, and no latch. -/
theorem without_holders (o : Owner) (q : Holder → Bool) :
    o.without (fun _ => false) q = { o with lanes := freeLanes (heldBy q) o.lanes } := by
  have loses : o.loses (fun _ => false) q = heldBy q := by
    funext x
    cases x with
    | reserved k => exact List.any_eq_false.2 fun _ _ => Bool.false_ne_true
    | held _ | free | fenced => rfl
  have lanes : (o.without (fun _ => false) q).lanes = freeLanes (heldBy q) o.lanes := by rw [without_lanes, loses]
  have latches : (o.without (fun _ => false) q).latches = o.latches := List.filter_eq_self.2 fun _ _ => rfl
  calc o.without (fun _ => false) q =
      { o with lanes := (o.without (fun _ => false) q).lanes, latches := (o.without (fun _ => false) q).latches } := rfl
    _ = _ := by rw [lanes, latches]

/-- Some latches dropped, and no group. -/
theorem dropLatches_eq (p : Latch → Bool) (o : Owner) : dropLatches p o = o.without p fun _ => false := by
  have kept : freeLanes (heldBy fun _ => false) (dropLatches p o).lanes = (dropLatches p o).lanes := by
    refine (List.map_congr_left fun x _ => ?_).trans (List.map_id _)
    cases x <;> rfl
  rw [← without_eq, kept]

/-! ### The scan of a reservation -/

/-- Latch `x` has its turn before latch `y`. -/
def TurnBefore (last : Addr) (x y : Latch) : Prop :=
  scanPlace last x.requester < scanPlace last y.requester ∨
    (scanPlace last x.requester = scanPlace last y.requester ∧ x.created ≤ y.created)

theorem scanBefore_iff (last : Addr) (x y : Latch) : scanBefore last x y = true ↔ TurnBefore last x y := by
  simp [scanBefore, TurnBefore]

theorem insertScan_perm (last : Addr) (x : Latch) (l : List Latch) : (insertScan last x l).Perm (x :: l) := by
  induction l with
  | nil => exact .refl _
  | cons y ys ih =>
    simp only [insertScan]
    split
    · exact .refl _
    · exact (ih.cons y).trans (.swap ..)

theorem insertScan_ordered {last : Addr} {x : Latch} {l : List Latch} (h : l.Pairwise (TurnBefore last)) :
    (insertScan last x l).Pairwise (TurnBefore last) := by
  induction l with
  | nil => exact List.pairwise_singleton _ _
  | cons y ys ih =>
    obtain ⟨first, rest⟩ := List.pairwise_cons.1 h
    simp only [insertScan]
    split
    · next c =>
      have before := (scanBefore_iff ..).1 c
      refine List.pairwise_cons.2 ⟨fun z m => ?_, h⟩
      obtain rfl | m := List.mem_cons.1 m
      · exact before
      · have next := first z m
        simp only [TurnBefore] at before next ⊢
        omega
    · next c =>
      have before : TurnBefore last y x := by
        have after := mt (scanBefore_iff last x y).2 c
        simp only [TurnBefore] at after ⊢
        omega
      refine List.pairwise_cons.2 ⟨fun z m => ?_, ih rest⟩
      obtain rfl | m := List.mem_cons.1 ((insertScan_perm last x ys).mem_iff.1 m)
      · exact before
      · exact first z m

theorem foldr_insertScan (last : Addr) (l : List Latch) :
    (l.foldr (insertScan last) []).Perm l ∧ (l.foldr (insertScan last) []).Pairwise (TurnBefore last) := by
  induction l with
  | nil => exact ⟨.refl _, .nil⟩
  | cons x l ih => exact ⟨(insertScan_perm ..).trans (ih.1.cons x), insertScan_ordered ih.2⟩

/-- The lanes of a group put in one state, lane by lane. -/
theorem getElem?_setGroup (lanes : List LaneState) (g : Group) (x : LaneState) (k : Nat) : (setGroup lanes g x)[k]? =
    if g.first ≤ k ∧ k < g.first + g.lanes ∧ k < lanes.length then some x else lanes[k]? := by
  simp only [setGroup, List.getElem?_map, List.getElem?_zipIdx, Option.map_map, Nat.zero_add]
  by_cases h : k < lanes.length
  · simp only [List.getElem?_eq_getElem h, Option.map_some, Function.comp_apply, h, and_true, Bool.and_eq_true,
      decide_eq_true_eq]
    split <;> rfl
  · simp only [List.getElem?_eq_none (Nat.not_lt.1 h), Option.map_none, h, and_false, if_false]

theorem ownerRuns_owner {f : Owner → Owner × List Outgoing} {s : State} {o : Owner} (e : s.owner = some o) :
    ownerRuns f s = offerAll (f o).2 { s with owner := some (f o).1 } := by
  simp only [ownerRuns, e]

theorem staleLatch_eq {s : State} {o : Owner} {k : Nat} {l : Latch} (e : s.owner = some o) (h : o.latches[k]? = some l)
    (d : l.discard ≤ s.now) : staleLatch s k = some l := by
  simp [staleLatch, e, h, d]

/-- Settles O31: the owner record without the group returned, or the latch discarded, then the reservation, whose order is
that of insertion. -/
theorem returnsAndDiscardsFreeLanes : Obligations.ReturnsAndDiscardsFreeLanes := by
  refine ⟨fun s r m run n d x => ?_, fun s r m h => ⟨fun c u a => ?_, fun run n x => ?_⟩,
    fun s o run e => ⟨fun u c r m a d k => ?_, fun k l h due => ?_⟩, fun o => ⟨(foldr_insertScan ..).1, ?_, rfl⟩,
    fun o l => ⟨fun h => ?_, fun g h => ?_⟩, getElem?_setGroup⟩
  · exact destined_owner run n d x fun v w q => by rw [ownerActs_owner, ownerActs_owner, q]
  · obtain ⟨b, rfl⟩ := arrives_bus a
    have idle : ownerActs m.module (fun o => (takeReturn r.src m o, [])) { s with bus := b } = { s with bus := b } :=
      ownerActs_foreign h
    rw [return_arrives a, idle, ite_self]
  · exact destined_idle run n x fun v q => ownerActs_foreign fun o e => h o (q.symm.trans e)
  · dsimp only
    rw [return_arrives a, if_pos d]
    obtain ⟨b, rfl⟩ := arrives_bus a
    rw [ownerActs_own (s := { s with bus := b }) e k]
    refine ⟨fun h => ?_, fun h => ?_⟩
    · have taken : takeReturn r.src m o = reserve (o.without (fun _ => false) (returnHolder r.src m)) := by
        rw [without_holders]
        exact if_pos h
      rw [taken]
      rfl
    · have kept : takeReturn r.src m o = o := if_neg (by rw [show findHolder (returnHolder r.src m) o.lanes = none from h]; exact Bool.false_ne_true)
      rw [kept]
      simp only [offerAll, List.foldl_nil, ← e]
  · have stale := staleLatch_eq e h due
    have fires : exec (.latchDiscard k) s = _ := simpleEvent_occurs _ run (by rw [stale]; rfl)
    rw [fires]
    simp only [stale]
    rw [ownerRuns_owner e, discardLatch, dropLatches_eq]
    rfl
  · exact (foldr_insertScan ..).2
  · simp only [reserveStep, h]
  · simp only [reserveStep, h, beq_iff_eq]

/-! ### Answers and withdrawals -/

theorem asks_of {st : PortState} (h : st = .bidding ∨ st = .deferred) : st.asks = true := (asks_iff st).2 h

section
variable {s : State} {i : SlotIx} {p : PortIx} {src : Addr}

theorem takeOffer_none {m : OfferMsg} (h : matchAnswer s m.module m.tag = none) : takeOffer src m s = s := by
  simp only [takeOffer, h]

theorem takeOffer_asked {m : OfferMsg} (h : matchAnswer s m.module m.tag = some (i, p))
    (a : (portOf s i p).state = .bidding ∨ (portOf s i p).state = .deferred) :
    takeOffer src m s = setPort i p (fun x => { x with
      state := .held, group := some ⟨m.first, m.lanes⟩, timer := none
      cross := x.chosen.map fun c => ⟨c, ⟨m.first, m.lanes⟩⟩ }) s := by
  obtain a | a := a <;> simp only [takeOffer, h, a]

theorem takeOffer_same {m : OfferMsg} (h : matchAnswer s m.module m.tag = some (i, p))
    (a : (portOf s i p).state = .held) (g : (portOf s i p).group = some ⟨m.first, m.lanes⟩) : takeOffer src m s = s := by
  simp only [takeOffer, h, a, g, beq_self_eq_true, if_true]

theorem takeOffer_unwanted {m : OfferMsg} (h : matchAnswer s m.module m.tag = some (i, p))
    (a : (portOf s i p).state = .none ∨ (portOf s i p).state = .lost ∨ (portOf s i p).state = .unplaced ∨
      ((portOf s i p).state = .held ∧ (portOf s i p).group ≠ some ⟨m.first, m.lanes⟩)) :
    takeOffer src m s = returnOffer i p src m s := by
  obtain a | a | a | ⟨a, g⟩ := a
  · simp only [takeOffer, h, a]
  · simp only [takeOffer, h, a]
  · simp only [takeOffer, h, a]
  · simp only [takeOffer, h, a, beq_false_of_ne g, Bool.false_eq_true, if_false]

theorem takeDefer_none {m : DeferMsg} (h : matchAnswer s m.module m.tag = none) : takeDefer m s = s := by
  simp only [takeDefer, h]

theorem takeRefuse_none {m : RefuseMsg} (h : matchAnswer s m.module m.tag = none) : takeRefuse m s = s := by
  simp only [takeRefuse, h]

theorem takeWithdraw_none {m : WithdrawMsg} (h : matchWithdraw s m = none) : takeWithdraw m s = s := by
  simp only [takeWithdraw, h]

end

/-- A lane message that is out of its range, or that no record matches. -/
theorem ite_idle {c : Bool} {f : State → State} {u : State} (h : c = false ∨ f u = u) :
    (if c = true then f else id) u = u := by
  cases c with
  | false => rfl
  | true => exact h.elim (fun x => absurd x Bool.noConfusion) id

/-- A frame for another station, or one that does nothing here. -/
theorem here_idle {c : Prop} [Decidable c] {u v : State} (h : ¬c ∨ v = u) : (if c then v else u) = u := by
  split
  · next x => exact h.elim (absurd x) id
  · rfl

/-- Settles O32: an answer or a withdrawal arrives, and acts on the record that it matches by that record's state. -/
theorem laneAnswersActOnTheirRecord : Obligations.LaneAnswersActOnTheirRecord := by
  refine ⟨fun s u c r => ⟨fun m a h => ?_, fun m a h => ?_, fun m a h => ?_, fun m a h => ?_⟩,
    fun s u c r i p d => ⟨fun m a x h => ?_, fun m a h => ?_, fun m a x h => ?_, fun m a x h => ?_⟩⟩
  · rw [offer_arrives a]
    obtain ⟨b, rfl⟩ := arrives_bus a
    rw [here_idle (h.imp_right fun h => ite_idle (h.imp_right fun k => takeOffer_none (s := { s with bus := b }) k))]
  · rw [defer_arrives a]
    obtain ⟨b, rfl⟩ := arrives_bus a
    rw [here_idle (h.imp_right fun k => takeDefer_none (s := { s with bus := b }) k)]
  · rw [refuse_arrives a]
    obtain ⟨b, rfl⟩ := arrives_bus a
    rw [here_idle (h.imp_right fun h => ite_idle (h.imp_right fun k => takeRefuse_none (s := { s with bus := b }) k))]
  · rw [withdraw_arrives a]
    obtain ⟨b, rfl⟩ := arrives_bus a
    rw [here_idle (h.imp_right fun h => ite_idle (h.imp_right fun k => takeWithdraw_none (s := { s with bus := b }) k))]
  · rw [offer_arrives a, if_pos d, if_pos x]
    obtain ⟨b, rfl⟩ := arrives_bus a
    refine ⟨fun y => ?_, fun y g => ?_, fun y => ?_⟩
    · rw [takeOffer_asked (s := { s with bus := b }) h y]
    · rw [takeOffer_same (s := { s with bus := b }) h y g]
    · rw [takeOffer_unwanted (s := { s with bus := b }) h y]
      rfl
  · rw [defer_arrives a, if_pos d]
    obtain ⟨b, rfl⟩ := arrives_bus a
    have same : matchAnswer { s with bus := b } m.module m.tag = some (i, p) := h
    simp only [takeDefer, same, beq_iff_eq]
    rfl
  · rw [refuse_arrives a, if_pos d, if_pos x]
    obtain ⟨b, rfl⟩ := arrives_bus a
    have same : matchAnswer { s with bus := b } m.module m.tag = some (i, p) := h
    simp only [takeRefuse, same, asks_iff]
    rfl
  · rw [withdraw_arrives a, if_pos d, if_pos x]
    obtain ⟨b, rfl⟩ := arrives_bus a
    have same : matchWithdraw { s with bus := b } m = some (i, p) := h
    simp only [takeWithdraw, same]
    rfl

/-! ### Lane faults -/

theorem faultInput_eq {s : State} {o : Owner} {l : LaneIx} (e : s.owner = some o) (h : l.val < o.lanes.length) :
    faultInput s l = some o.faults[l] := by
  simp only [faultInput, e, h, if_true]

theorem faultHeld_due {s : State} {o : Owner} {l : LaneIx} {d : Nat} {b : Bool} (e : s.owner = some o)
    (h : l.val < o.lanes.length) (t : o.faults[l].timer = some d) (due : d ≤ s.now) (raw : o.faults[l].raw = b)
    (level : o.faults[l].level = !b) : faultHeld s l b = true := by
  rw [faultHeld, faultInput_eq e h, Option.any_some, t, raw, level]
  cases b <;> simp [timerDue, due]

theorem setFault_owner {s : State} {o : Owner} (e : s.owner = some o) (l : LaneIx) (f : LaneFault → LaneFault) :
    setFault l f s = { s with owner := some { o with faults := updAt o.faults l f } } := by
  simp only [setFault, e, Option.map_some]

theorem freeLanes_reserved (k : Nat) (l : List LaneState) :
    freeLanes (reservedFor k) l = l.map fun x => if x = .reserved k then .free else x := by
  refine List.map_congr_left fun x _ => ?_
  cases x with
  | reserved j => simp [reservedFor]
  | held _ | free | fenced => rfl

theorem freeLanes_held (h : Holder) (l : List LaneState) :
    freeLanes (heldBy (· == h)) l = l.map fun x => if x = .held h then .free else x := by
  refine List.map_congr_left fun x _ => ?_
  cases x with
  | held j => simp [heldBy]
  | reserved _ | free | fenced => rfl

theorem clearLane_idle {o : Owner} {lane : Nat} (h : o.lanes[lane]? ≠ some .fenced) : clearLane lane o = o := by
  simp only [clearLane]
  split
  · next x => exact absurd x h
  all_goals rfl

/-- Settles O33: the debounce, then what a fault does by the state of its lane. -/
theorem laneFaultsFenceLanes : Obligations.LaneFaultsFenceLanes := by
  intro s o l run e len
  refine ⟨fun b h => ?_, fun d t due raw level => ?_, fun d t due raw level => ?_⟩
  · have g : ((faultInput s l).any fun x => x.raw != b) = true := by
      rw [faultInput_eq e len]
      exact bne_iff_ne.2 h
    have fires : exec (.laneFaultInputChange l b) s = _ := simpleEvent_occurs _ run g
    rw [fires, setFault_owner e]
    have timer (x : LaneFault) : (if (b != x.level) = true then some (s.now + Config.laneFaultPeriod) else none) =
        if b = x.level then none else some (s.now + 10) := by
      simp only [bne_iff_ne, ne_eq, ite_not]
      rfl
    simp only [timer]
  · have fires : exec (.laneFaultAsserted l) s = _ := simpleEvent_occurs _ run (faultHeld_due e len t due raw level)
    dsimp only
    rw [fires, setFault_owner e, ownerRuns_owner rfl]
    refine ⟨fun h => ?_, fun k h => ?_, fun x h => ?_, fun h => ?_⟩
    · simp only [faultLane, h]
      rfl
    · simp only [faultLane, h, freeLanes_reserved, beq_iff_eq]
      rfl
    · simp only [faultLane, h, freeLanes_held]
      rfl
    · simp only [faultLane, h]
      rfl
  · have fires : exec (.laneFaultCleared l) s = _ := simpleEvent_occurs _ run (faultHeld_due e len t due raw level)
    dsimp only
    rw [fires, setFault_owner e, ownerRuns_owner rfl]
    refine ⟨fun h => ?_, fun h => ?_⟩
    · simp only [clearLane, h]
      rfl
    · rw [clearLane_idle (o := { o with faults := updAt o.faults l fun x => { x with level := false, timer := none } }) h]
      rfl

end Sys2Proof.Machine

end

section
/-! PROOF. The trunk unit's requester side: the module choice, the bid tags, and new bids. -/

namespace Sys2Proof.Machine

/-! ### Bid tags -/

theorem wants_iff (st : PortState) : st.wants = true ↔ st = .bidding ∨ st = .deferred ∨ st = .held := by
  cases st <;> simp [PortState.wants]

theorem tagInUse_iff (s : State) (i : SlotIx) (p : PortIx) (tag : Serial) :
    tagInUse s i p tag = true ↔ ∃ (j : SlotIx) (q : PortIx), (j, q) ≠ (i, p) ∧ (portOf s j q).tag = some tag ∧
      ((portOf s j q).state = .bidding ∨ (portOf s j q).state = .deferred ∨ (portOf s j q).state = .held) := by
  simp only [tagInUse, List.any_eq_true, Bool.and_eq_true, bne_iff_ne, beq_iff_eq, wants_iff]
  constructor
  · rintro ⟨x, _, ⟨n, w⟩, e⟩
    exact ⟨x.1, x.2, n, e, w⟩
  · rintro ⟨j, q, n, e, w⟩
    exact ⟨(j, q), mem_allPorts _, ⟨n, w⟩, e⟩

/-- The tag found is the first from `t` on that is free, unless the fuel ends first. -/
theorem nextTag_first (s : State) (i : SlotIx) (p : PortIx) (n : Nat) (t : Serial) : ∃ k ≤ n,
    nextTag s i p n t = t + BitVec.ofNat 8 k ∧ (∀ j < k, tagInUse s i p (t + BitVec.ofNat 8 j) = true) ∧
      (k < n → tagInUse s i p (t + BitVec.ofNat 8 k) = false) := by
  induction n generalizing t with
  | zero => exact ⟨0, le_refl _, (BitVec.add_zero t).symm, fun j h => absurd h (Nat.not_lt_zero j), fun h => absurd h (lt_irrefl _)⟩
  | succ n ih =>
    simp only [nextTag]
    cases u : tagInUse s i p t with
    | false =>
      refine ⟨0, Nat.zero_le _, (BitVec.add_zero t).symm, fun j h => absurd h (Nat.not_lt_zero j), fun _ => ?_⟩
      rw [BitVec.add_zero]
      exact u
    | true =>
      obtain ⟨k, le, e, used, free⟩ := ih (t + 1)
      have shift (j : Nat) : t + 1 + BitVec.ofNat 8 j = t + BitVec.ofNat 8 (j + 1) := by
        rw [BitVec.add_assoc, BitVec.ofNat_add, BitVec.add_comm (BitVec.ofNat 8 j)]
        rfl
      refine ⟨k + 1, Nat.succ_le_succ le, e.trans (shift k), fun j h => ?_, fun h => ?_⟩
      · cases j with
        | zero => rw [BitVec.add_zero]; exact u
        | succ j => rw [← shift]; exact used j (Nat.lt_of_succ_lt_succ h)
      · rw [← shift]
        exact free (Nat.lt_of_succ_lt_succ h)

/-- Sixteen tags in a row are not all in use: there are fifteen other records. -/
theorem tags_not_all_used (s : State) (i : SlotIx) (p : PortIx) (t : Serial) :
    ¬∀ j < 16, tagInUse s i p (t + BitVec.ofNat 8 j) = true := by
  intro h
  have distinct : ((Finset.range 16).image fun j => t + BitVec.ofNat 8 j).card = 16 := by
    rw [Finset.card_image_of_injOn, Finset.card_range]
    intro a ha b hb e
    simp only [Finset.coe_range, Set.mem_Iio] at ha hb
    have e' := (BitVec.add_right_inj t).1 e
    have n := congrArg BitVec.toNat e'
    simp only [BitVec.toNat_ofNat] at n
    omega
  have others : (((Finset.univ : Finset (SlotIx × PortIx)).erase (i, p)).image
      fun x => (portOf s x.1 x.2).tag.getD 0).card ≤ 15 := by
    refine Finset.card_image_le.trans ?_
    rw [Finset.card_erase_of_mem (Finset.mem_univ _)]
    decide
  have within := Finset.card_le_card (s := (Finset.range 16).image fun j => t + BitVec.ofNat 8 j)
    (t := ((Finset.univ : Finset (SlotIx × PortIx)).erase (i, p)).image fun x => (portOf s x.1 x.2).tag.getD 0) (by
      intro x m
      obtain ⟨j, hj, rfl⟩ := Finset.mem_image.1 m
      obtain ⟨a, b, n, e, _⟩ := (tagInUse_iff ..).1 (h j (Finset.mem_range.1 hj))
      exact Finset.mem_image.2 ⟨(a, b), Finset.mem_erase.2 ⟨n, Finset.mem_univ _⟩, by rw [e]; rfl⟩)
  omega

/-- The tag of a new bid: the first from the counter on that no other record holds (R165). -/
theorem nextTag_free (s : State) (i : SlotIx) (p : PortIx) (t : Serial) :
    tagInUse s i p (nextTag s i p 16 t) = false ∧ ∃ k : Nat, nextTag s i p 16 t = t + BitVec.ofNat 8 k ∧
      ∀ j, j < k → tagInUse s i p (t + BitVec.ofNat 8 j) = true := by
  obtain ⟨k, le, e, used, free⟩ := nextTag_first s i p 16 t
  refine ⟨?_, k, e, used⟩
  rw [e]
  refine free (lt_of_le_of_ne le fun k16 => ?_)
  subst k16
  exact tags_not_all_used s i p t used

/-! ### New bids -/

theorem setPort_congr {i : SlotIx} {p : PortIx} {f g : PortRec → PortRec} {s : State}
    (h : f (portOf s i p) = g (portOf s i p)) : setPort i p f s = setPort i p g s := by
  refine setBay_congr ?_
  have same : f s.bays[i].ports[p] = g s.bays[i].ports[p] := h
  simp only [updAt, same]

theorem portOf_clearTag (t : Serial) (s : State) (j : SlotIx) (q : PortIx) :
    portOf (clearTag t s) j q = if (portOf s j q).tag = some t then { portOf s j q with tag := none } else portOf s j q := by
  simp only [portOf, clearTag, Fin.getElem_fin, Vector.getElem_ofFn, beq_iff_eq]
  rfl

/-- What a new bid leaves: its record, the other records, the tag counter, and the bid offered (R165). -/
structure BidMade (s t : State) (i : SlotIx) (p : PortIx) (n : Need) (m : ModuleIx) (a : Addr) (tag : Serial) : Prop where
  state : (portOf t i p).state = .bidding
  chosen : (portOf t i p).chosen = some m
  owner : (portOf t i p).owner = some a
  counter : t.tagCounter = tag + 1
  need : (portOf t i p).need = (portOf s i p).need
  tagged : (portOf t i p).tag = some tag
  timer : (portOf t i p).timer = some (s.now + s.tst)
  found : tag = nextTag s i p 16 s.tagCounter
  others : ∀ (j : SlotIx) (q : PortIx), (j, q) ≠ (i, p) → portOf t j q =
    if (portOf s j q).tag = some tag then { portOf s j q with tag := none } else portOf s j q
  bus : t.bus = s.bus.offer (.laneBid a ⟨m, i, p, n.lanes, tag⟩) s.now s.tst

/-- The station with a record's bid under a tag, the bid not yet offered. -/
def bidUnder (i : SlotIx) (p : PortIx) (m : ModuleIx) (a : Addr) (tag : Serial) (s : State) : State :=
  setPort i p (fun r => { r with
      state := .bidding, chosen := some m, owner := some a, tag := some tag, timer := some (s.now + s.tst) })
    { clearTag tag s with tagCounter := tag + 1 }

theorem newBid_eq (i : SlotIx) (p : PortIx) (n : Need) (m : ModuleIx) (a : Addr) (s : State) :
    newBid i p n m a s = offer (.laneBid a ⟨m, i, p, n.lanes, nextTag s i p 16 s.tagCounter⟩)
      (bidUnder i p m a (nextTag s i p 16 s.tagCounter) s) := rfl

theorem portOf_bidUnder (i : SlotIx) (p : PortIx) (m : ModuleIx) (a : Addr) (tag : Serial) (s : State) :
    portOf (bidUnder i p m a tag s) i p = { portOf (clearTag tag s) i p with
      state := .bidding, chosen := some m, owner := some a, tag := some tag, timer := some (s.now + s.tst) } :=
  portOf_setPort_self ..

theorem newBid_made (i : SlotIx) (p : PortIx) (n : Need) (m : ModuleIx) (a : Addr) (s : State) :
    BidMade s (newBid i p n m a s) i p n m a (nextTag s i p 16 s.tagCounter) := by
  rw [newBid_eq]
  refine ⟨?_, ?_, ?_, rfl, ?_, ?_, ?_, rfl, fun j q d => ?_, rfl⟩ <;>
    generalize nextTag s i p 16 s.tagCounter = tag
  · exact congrArg PortRec.state (portOf_bidUnder i p m a tag s)
  · exact congrArg PortRec.chosen (portOf_bidUnder i p m a tag s)
  · exact congrArg PortRec.owner (portOf_bidUnder i p m a tag s)
  · refine (congrArg PortRec.need (portOf_bidUnder i p m a tag s)).trans ?_
    rw [portOf_clearTag]
    split <;> rfl
  · exact congrArg PortRec.tag (portOf_bidUnder i p m a tag s)
  · exact congrArg PortRec.timer (portOf_bidUnder i p m a tag s)
  · exact (portOf_setPort_ne (x := (i, p)) (y := (j, q)) d ..).trans (portOf_clearTag tag s j q)

theorem placePort_bids {s : State} {i : SlotIx} {p : PortIx} {n : Need} {m : ModuleIx} {a : Addr}
    (need : (portOf s i p).need = some n) (c : chooseModule s n = some (m, a)) : placePort i p s = newBid i p n m a s := by
  simp only [placePort, need, c]

theorem placePort_unplaced {s : State} {i : SlotIx} {p : PortIx} {n : Need} (need : (portOf s i p).need = some n)
    (c : chooseModule s n = none) : placePort i p s = unplace i p s := by
  simp only [placePort, need, c]

/-! ### The module choice -/

/-- The lowest address that a test picks. -/
theorem find?_finRange_iff {n : Nat} {p : Fin n → Bool} {a : Fin n} :
    (List.finRange n).find? p = some a ↔ p a = true ∧ ∀ b : Fin n, b < a → p b = false := by
  rw [List.find?_eq_some_iff_getElem]
  simp only [List.getElem_finRange, List.length_finRange]
  constructor
  · rintro ⟨h, k, _, rfl, first⟩
    refine ⟨h, fun b lt => ?_⟩
    simpa using first b.val lt
  · rintro ⟨h, first⟩
    exact ⟨h, a.val, a.isLt, rfl, fun j lt => by simpa using first ⟨j, lt.trans a.isLt⟩ lt⟩

theorem ownerOf_iff (s : State) (m : ModuleIx) (a : Addr) : ownerOf s m = some a ↔
    (∃ r, trunkRoleAt s a = some r ∧ r.module = m) ∧ ∀ b : Addr, b < a → ¬∃ r, trunkRoleAt s b = some r ∧ r.module = m := by
  have named (b : Addr) : ((trunkRoleAt s b).any fun t => t.module == m) = true ↔
      ∃ r, trunkRoleAt s b = some r ∧ r.module = m := by
    simp only [Option.any_eq_true, beq_iff_eq]
  rw [ownerOf, find?_finRange_iff, named]
  simp only [← named, Bool.not_eq_true]

theorem suitable_iff (s : State) (n : Nat) (m : ModuleIx) (a : Addr) (f : Nat) : suitable s n m = some (a, f) ↔
    (ownerOf s m = some a ∧ (a = s.address ∨ s.peers[a].state = .live) ∧ ∃ r, trunkRoleAt s a = some r ∧ n ≤ r.lanes) ∧
      f = freeLanesAt s m a := by
  have fits (b : Addr) : ((b == s.address || s.peers[b].state == .live) &&
      (trunkRoleAt s b).any (fun t => n ≤ t.lanes)) = true ↔
      (b = s.address ∨ s.peers[b].state = .live) ∧ ∃ r, trunkRoleAt s b = some r ∧ n ≤ r.lanes := by
    simp only [Bool.and_eq_true, Bool.or_eq_true, beq_iff_eq, Option.any_eq_true, decide_eq_true_eq]
  simp only [suitable]
  cases o : ownerOf s m with
  | none => simp
  | some b =>
    simp only [fits]
    split
    · next c =>
      simp only [Option.some.injEq, Prod.mk.injEq]
      constructor
      · rintro ⟨rfl, rfl⟩
        exact ⟨⟨rfl, c⟩, rfl⟩
      · rintro ⟨⟨rfl, _⟩, rfl⟩
        exact ⟨rfl, rfl⟩
    · next c =>
      refine ⟨fun h => absurd h (Option.some_ne_none _).symm, fun ⟨⟨e, h⟩, _⟩ => absurd ?_ c⟩
      rwa [Option.some.inj e]

/-- A choice: module, owner and free lanes. -/
abbrev Choice := ModuleIx × Addr × Nat

/-- The choice with the most free lanes, of equal ones the lowest module (R166). -/
def Best (l : List Choice) (b : Choice) : Prop :=
  b ∈ l ∧ ∀ x ∈ l, x.2.2 < b.2.2 ∨ (x.2.2 = b.2.2 ∧ b.1 ≤ x.1)

theorem foldl_moreFree (l : List Choice) (b : Choice) (o : (b :: l).Pairwise fun x y => x.1 < y.1) :
    ∃ c, l.foldl moreFree (some b) = some c ∧ Best (b :: l) c := by
  induction l generalizing b with
  | nil => exact ⟨b, rfl, .head _, fun x m => .inr (by rw [List.mem_singleton.1 m]; exact ⟨rfl, le_refl _⟩)⟩
  | cons y l ih =>
    obtain ⟨first, rest⟩ := List.pairwise_cons.1 o
    have by' := first y (.head _)
    by_cases lt : b.2.2 < y.2.2
    · obtain ⟨c, e, mem, best⟩ := ih y rest
      refine ⟨c, ?_, .tail _ mem, fun x m => ?_⟩
      · rw [List.foldl_cons, moreFree, if_pos lt]
        exact e
      · obtain rfl | m := List.mem_cons.1 m
        · have yc := best y (.head _)
          exact .inl (by omega)
        · exact best x m
    · obtain ⟨c, e, mem, best⟩ := ih b (o.sublist ((List.sublist_cons_self y l).cons_cons b))
      refine ⟨c, ?_, ?_, fun x m => ?_⟩
      · rw [List.foldl_cons, moreFree, if_neg lt]
        exact e
      · obtain rfl | mem := List.mem_cons.1 mem
        · exact .head _
        · exact .tail _ (.tail _ mem)
      · obtain rfl | m := List.mem_cons.1 m
        · exact best _ (.head _)
        · obtain rfl | m := List.mem_cons.1 m
          · have bc := best b (.head _)
            have c1 : c.2.2 = b.2.2 → c.1 ≤ b.1 := fun q => (bc.resolve_left (by omega)).2
            rcases bc with h | ⟨h, k⟩
            · exact .inl (by omega)
            · by_cases z : x.2.2 < c.2.2
              · exact .inl z
              · exact .inr ⟨by omega, k.trans by'.le⟩
          · exact best x (.tail _ m)

/-- Choices are told apart by their modules. -/
theorem eq_of_key {l : List Choice} (o : l.Pairwise fun x y => x.1 < y.1) {x y : Choice} (mx : x ∈ l) (my : y ∈ l)
    (e : x.1 = y.1) : x = y := by
  induction l with
  | nil => exact absurd mx List.not_mem_nil
  | cons z l ih =>
    obtain ⟨first, rest⟩ := List.pairwise_cons.1 o
    rcases List.mem_cons.1 mx with ex | tx
    · rcases List.mem_cons.1 my with ey | ty
      · rw [ex, ey]
      · exact absurd e (ex ▸ first y ty).ne
    · rcases List.mem_cons.1 my with ey | ty
      · exact absurd e.symm (ey ▸ first x tx).ne
      · exact ih rest tx ty

theorem foldl_moreFree_iff {l : List Choice} {b : Choice} (o : l.Pairwise fun x y => x.1 < y.1) :
    l.foldl moreFree none = some b ↔ Best l b := by
  cases l with
  | nil => exact ⟨fun h => absurd h (Option.some_ne_none _).symm, fun h => absurd h.1 List.not_mem_nil⟩
  | cons x l =>
    obtain ⟨c, e, best⟩ := foldl_moreFree l x o
    have e' : (x :: l).foldl moreFree none = some c := e
    rw [e', Option.some.injEq]
    refine ⟨fun h => h ▸ best, fun h => ?_⟩
    refine eq_of_key o best.1 h.1 ?_
    rcases best.2 b h.1 with one | ⟨_, one⟩
    · exact absurd (h.2 c best.1) (by omega)
    · rcases h.2 c best.1 with two | ⟨_, two⟩
      · exact absurd (best.2 b h.1) (by omega)
      · exact le_antisymm one two

/-- The choices that are suitable for a need of `n` lanes, in module order. -/
def choices (s : State) (n : Nat) : List Choice :=
  (List.finRange 4).filterMap fun m => (suitable s n m).map fun x => (m, x.1, x.2)

theorem mem_choices (s : State) (n : Nat) (x : Choice) : x ∈ choices s n ↔ suitable s n x.1 = some (x.2.1, x.2.2) := by
  simp only [choices, List.mem_filterMap, List.mem_finRange, true_and, Option.map_eq_some_iff]
  constructor
  · rintro ⟨m, y, e, rfl⟩
    exact e
  · exact fun e => ⟨x.1, _, e, rfl⟩

theorem choices_ordered (s : State) (n : Nat) : (choices s n).Pairwise fun x y => x.1 < y.1 := by
  refine List.pairwise_filterMap.2 ((List.pairwise_lt_finRange 4).imp fun {i j} lt x ex y ey => ?_)
  obtain ⟨a, _, rfl⟩ := Option.map_eq_some_iff.1 ex
  obtain ⟨b, _, rfl⟩ := Option.map_eq_some_iff.1 ey
  exact lt

theorem chooseModule_any {s : State} {n : Need} (h : n.module = none) (m : ModuleIx) (a : Addr) :
    chooseModule s n = some (m, a) ↔ ∃ f, Best (choices s n.lanes) (m, a, f) := by
  simp only [chooseModule, h, Option.map_eq_some_iff]
  constructor
  · rintro ⟨⟨m', a', f⟩, e, q⟩
    obtain ⟨rfl, rfl⟩ := Prod.mk.inj q
    exact ⟨f, (foldl_moreFree_iff (choices_ordered ..)).1 e⟩
  · rintro ⟨f, b⟩
    exact ⟨(m, a, f), (foldl_moreFree_iff (choices_ordered ..)).2 b, rfl⟩

theorem chooseModule_named {s : State} {n : Need} {k : ModuleIx} (h : n.module = some k) (m : ModuleIx) (a : Addr) :
    chooseModule s n = some (m, a) ↔ m = k ∧ ∃ f, suitable s n.lanes m = some (a, f) := by
  simp only [chooseModule, h, Option.map_eq_some_iff]
  constructor
  · rintro ⟨x, e, q⟩
    obtain ⟨rfl, rfl⟩ := Prod.mk.inj q
    exact ⟨rfl, x.2, e⟩
  · rintro ⟨rfl, f, e⟩
    exact ⟨(a, f), e, rfl⟩

theorem freeLanesAt_eq (s : State) (m : ModuleIx) (a : Addr) : freeLanesAt s m a =
    if a = s.address then (match s.owner with
      | some o => if o.module = m then (o.lanes.filter (· == .free)).length else 0
      | none => 0)
    else s.peers[a].freeLanes m := by
  simp only [freeLanesAt, beq_iff_eq, freeLaneCount, List.countP_eq_length_filter] <;> rfl

/-- Settles O34: the expiry makes the module choice, and a bid under the first free tag. -/
theorem unplacedRecordsChooseAfresh : Obligations.UnplacedRecordsChooseAfresh := by
  refine ⟨fun s i p d n run st tm due need => ?_, tagInUse_iff, ownerOf_iff, fun s n => ⟨fun k m a h => ?_, fun m a h => ?_⟩⟩
  · have g : ((portOf s i p).state == .unplaced && timerDue (portOf s i p).timer s.now) = true := by
      rw [st, tm]
      simpa [timerDue] using due
    have fires : exec (.unplacedTimerExpiry i p) s = _ := simpleEvent_occurs _ run g
    refine ⟨fun m a c => ?_, fun c => ?_⟩
    · rw [placePort_bids need c] at fires
      have b := newBid_made i p n m a s
      obtain ⟨free, k, first, used⟩ := nextTag_free s i p s.tagCounter
      refine ⟨_, _, fires, b.state, b.chosen, b.owner, b.need.trans need, b.tagged, b.timer, b.counter, fun idle => ?_,
        free, ⟨k, first, used⟩, b.others, b.bus⟩
      cases k with
      | zero => rw [first, BitVec.add_zero]
      | succ k =>
        have busy := used 0 (Nat.succ_pos k)
        rw [BitVec.add_zero, idle] at busy
        exact absurd busy Bool.false_ne_true
    · rw [fires, placePort_unplaced need c, unplace]
      have same : setPort i p (fun r => { r with
            state := .unplaced, timer := some (s.now + Config.unplacedPeriods * s.tst) }) s =
          setPort i p (fun x => { x with timer := some (s.now + 10 * s.tst) }) s := by
        refine setPort_congr ?_
        rw [← st]
        rfl
      rw [same]
  · rw [chooseModule_named h]
    simp only [suitable_iff, exists_and_left, exists_eq, and_true]
  · dsimp only
    rw [chooseModule_any h]
    simp only [Best, mem_choices, suitable_iff]
    constructor
    · rintro ⟨f, ⟨suits, rfl⟩, best⟩
      refine ⟨suits, fun m' a' s' => ?_⟩
      have better := best (m', a', freeLanesAt s m' a') ⟨s', rfl⟩
      rwa [freeLanesAt_eq, freeLanesAt_eq] at better
    · rintro ⟨suits, best⟩
      refine ⟨_, ⟨suits, rfl⟩, ?_⟩
      rintro ⟨m', a', f'⟩ ⟨s', e⟩
      dsimp only at e
      subst e
      rw [freeLanesAt_eq, freeLanesAt_eq]
      exact best m' a' s'

end Sys2Proof.Machine

end

section
/-! PROOF. The trunk unit's requester side: bids presented again, and the records of a slot that start and end with its
RUNNING. -/

namespace Sys2Proof.Machine

/-! ### The timers -/

theorem setPort_setPort (i : SlotIx) (p : PortIx) (f g : PortRec → PortRec) (s : State) :
    setPort i p g (setPort i p f s) = setPort i p (fun x => g (f x)) s := by
  simp only [setPort, setBay, updAt, Fin.getElem_fin, Vector.getElem_set_self, Vector.set_set]

/-- A record's timer that has run out. -/
theorem timer_due {t : Due} {d now : Nat} (h : t = some d) (due : d ≤ now) : timerDue t now = true := by
  rw [h]
  simpa [timerDue] using due

theorem representPort_offers {s : State} {i : SlotIx} {p : PortIx} {n : Need} {m : ModuleIx} {a : Addr} {tag : Serial}
    (need : (portOf s i p).need = some n) (chosen : (portOf s i p).chosen = some m) (tagged : (portOf s i p).tag = some tag)
    (owner : ownerOf s m = some a) (idle : bidQueued s i p = false) :
    representPort i p s = offer (.laneBid a ⟨m, i, p, n.lanes, tag⟩)
      (setPort i p (fun x => { x with owner := some a, timer := some (s.now + s.tst) }) s) := by
  simp only [representPort, idle, Bool.false_eq_true, if_false, chosen, tagged, need, owner, setPort_setPort]

theorem representPort_waits {s : State} {i : SlotIx} {p : PortIx} (queued : bidQueued s i p = true) :
    representPort i p s = setPort i p (fun x => { x with timer := some (s.now + s.tst) }) s := by
  simp only [representPort, queued, if_true]

/-! ### The reports of RUNNING -/

theorem served_iff (b : Bay) : b.served = true ↔ b.seq.state = .running ∧ b.seq.adopted = false := by
  simp [Bay.served]

theorem served_congr {a b : Bay} (h : a.seq = b.seq) : a.served = b.served := by
  simp only [Bay.served, h]

theorem entered_reported (o : StepOrder) (i : SlotIx) (f : Bay → Bay) (w : Work)
    (h : (f w.st.bays[i]).served = true) (k : w.st.bays[i].served = false) : .entered i ∈ (modBay o i f w).reports := by
  rw [modBay_reports]
  refine List.mem_append_right _ ((mem_reportsOf ..).2 (.inr (.inl ?_)))
  have c : trunkReport i w.st.bays[i] (capFollows w.st.now w.st.bays[i] (f w.st.bays[i])) = [.entered i] := by
    simp only [trunkReport, capFollows_served, h, k]
    rfl
  rw [c]
  exact .head _

theorem left_reported (o : StepOrder) (i : SlotIx) (f : Bay → Bay) (w : Work)
    (h : w.st.bays[i].seq.state = .running) (k : (f w.st.bays[i]).seq.state ≠ .running) :
    .left i ∈ (modBay o i f w).reports := by
  rw [modBay_reports]
  refine List.mem_append_right _ ((mem_reportsOf ..).2 (.inr (.inl ?_)))
  have out : (f w.st.bays[i]).served = false :=
    Bool.eq_false_of_not_eq_true fun x => k ((served_iff _).1 x).1
  have c : trunkReport i w.st.bays[i] (capFollows w.st.now w.st.bays[i] (f w.st.bays[i])) = [.left i] := by
    simp only [trunkReport, capFollows_served, capFollows_seq, out, h, bne_iff_ne.2 k, Bool.and_false, beq_self_eq_true,
      Bool.and_true, Bool.false_eq_true, if_false, if_true]
  rw [c]
  exact .head _

/-! ### The needs of a record -/

theorem laneNeeds_valid {b : Bay} {r : InvRecord} (e : b.link.record = some r) (v : r.status = .valid) :
    b.laneNeeds = (List.range (natAt r.bytes 25)).map (laneNeedAt r.bytes) := by
  simp only [Bay.laneNeeds, e, v, beq_self_eq_true, if_true, recordNeedCount]

theorem needOf_invalid {b : Bay} (h : b.recordValid = false) (p : PortIx) : b.needOf p = none := by
  have none : b.laneNeeds = [] := by
    simp only [Bay.recordValid] at h
    simp only [Bay.laneNeeds]
    split
    · next r e => rw [e] at h; dsimp only at h; rw [h]; rfl
    · rfl
  rw [Bay.needOf, none]
  rfl

theorem needOf_valid {b : Bay} {r : InvRecord} (e : b.link.record = some r) (v : r.status = .valid) (p : PortIx) :
    b.needOf p = ((List.range (natAt r.bytes 25)).find? fun k => natAt r.bytes (26 + 2 * k) / 16 == p.val).map
      fun k => (laneNeedAt r.bytes k).2 := by
  rw [Bay.needOf, laneNeeds_valid e v, List.find?_map, Option.map_map]
  rfl

theorem needModule_iff (r : List Byte) (k : Nat) (m : ModuleIx) :
    (laneNeedAt r k).2.module = some m ↔ natAt r (27 + 2 * k) = m.val := by
  simp only [laneNeedAt]
  split
  · rw [Option.some.injEq, Fin.ext_iff]
  · next h => exact ⟨fun x => absurd x (Option.some_ne_none _).symm, fun x => absurd (x ▸ m.isLt) h⟩

/-! ### Records that start and end -/

theorem tagInUse_congr {s t : State} {i : SlotIx} {p : PortIx}
    (h : ∀ (j : SlotIx) (q : PortIx), (j, q) ≠ (i, p) → portOf t j q = portOf s j q) (tag : Serial) :
    tagInUse t i p tag = tagInUse s i p tag := by
  have same : tagInUse t i p tag = true ↔ tagInUse s i p tag = true := by
    rw [tagInUse_iff, tagInUse_iff]
    refine exists_congr fun j => exists_congr fun q => and_congr_right fun n => ?_
    rw [h j q n]
  exact Bool.eq_iff_iff.2 same

theorem setPort_others (i : SlotIx) (p : PortIx) (f : PortRec → PortRec) (s : State) (j : SlotIx) (q : PortIx)
    (n : (j, q) ≠ (i, p)) : portOf (setPort i p f s) j q = portOf s j q :=
  portOf_setPort_ne (x := (i, p)) (y := (j, q)) n f s

/-- A record's start with a need to bid for. -/
theorem startPort_bids {s : State} {i : SlotIx} {p : PortIx} {n : Need} {m : ModuleIx} {a : Addr}
    (e : s.bays[i].needs[p] = some n) (c : chooseModule s n = some (m, a)) :
    startPort i s p = newBid i p n m a (setPort i p (fun r => { r with need := some n }) s) := by
  have need : (portOf (setPort i p (fun r => { r with need := some n }) s) i p).need = some n :=
    congrArg PortRec.need (portOf_setPort_self ..)
  have same : chooseModule (setPort i p (fun r => { r with need := some n }) s) n = some (m, a) := c
  rw [startPort, e]
  exact placePort_bids need same

theorem startPort_unplaced {s : State} {i : SlotIx} {p : PortIx} {n : Need} (e : s.bays[i].needs[p] = some n)
    (c : chooseModule s n = none) : startPort i s p = setPort i p (fun r => { r with
      need := some n, state := .unplaced, timer := some (s.now + 10 * s.tst) }) s := by
  have need : (portOf (setPort i p (fun r => { r with need := some n }) s) i p).need = some n :=
    congrArg PortRec.need (portOf_setPort_self ..)
  have same : chooseModule (setPort i p (fun r => { r with need := some n }) s) n = none := c
  rw [startPort, e, placePort_unplaced need same, unplace, setPort_setPort]
  rfl

theorem startPort_idle {s : State} {i : SlotIx} {p : PortIx} (e : s.bays[i].needs[p] = none) :
    startPort i s p = setPort i p (fun r => { r with need := none }) s := by
  have need : (portOf (setPort i p (fun r => { r with need := none }) s) i p).need = none :=
    congrArg PortRec.need (portOf_setPort_self ..)
  rw [startPort, e]
  simp only [placePort, need]

theorem foldl_ports_eq (f : State → PortIx → State) (s : State) :
    (List.finRange 4).foldl f s = f (f (f (f s 0) 1) 2) 3 := by
  have four : List.finRange 4 = [0, 1, 2, 3] := by decide
  rw [four]
  rfl

theorem startPorts_eq (s : State) (i : SlotIx) :
    startPorts i s = startPort i (startPort i (startPort i (startPort i s 0) 1) 2) 3 := foldl_ports_eq ..

theorem endPorts_eq (i : SlotIx) (s : State) : endPorts i s = endPort i (endPort i (endPort i (endPort i s 0) 1) 2) 3 :=
  foldl_ports_eq ..

theorem endPort_bids (i : SlotIx) (s : State) (p : PortIx) : bidQueued (endPort i s p) i p = false := by
  have w := withdrawBid_bids i p s
  simp only [endPort]
  refine (setPort_none_falls (f := fun r => { r with
    state := .none, need := none, group := none, timer := none, cross := none }) (fun _ => rfl) _).bids i p ?_
  split
  · exact (offerAll_falls (fun _ h => returnOf_bid h) _).bids i p w
  · exact w

/-- Settles O35: the expiries of a record's timers, the reports of a slot's RUNNING, and what starts and ends one record. -/
theorem bidsArePresentedAgain : Obligations.BidsArePresentedAgain := by
  refine ⟨fun s i p d n run tm due need => ⟨fun m a tag st chosen tagged owner => ?_, fun st => ?_⟩,
    fun o i f w => ⟨fun b c h => ?_, left_reported o i f w⟩,
    fun w i => ⟨fun st ad => ?_, fun h => ?_, congrArg w.map (funext (endPorts_eq i))⟩, fun b p => ⟨fun h => needOf_invalid h p, fun r e v => ?_⟩,
    startPorts_eq, fun s i p => ⟨startPort_idle, fun n e => ⟨startPort_unplaced e, fun m a c => ?_⟩,
      fun m a g st chosen owner group => ?_, fun st => ?_, endPort_bids i s p⟩⟩
  · have guard : ((portOf s i p).state.asks && timerDue (portOf s i p).timer s.now) = true := by
      rw [asks_of st, timer_due tm due]; rfl
    have fires : exec (.representTimerExpiry i p) s = _ := simpleEvent_occurs _ run guard
    rw [fires]
    exact ⟨fun idle => by rw [representPort_offers need chosen tagged owner idle],
      fun queued => by rw [representPort_waits queued]⟩
  · have guard : ((portOf s i p).state == .lost && timerDue (portOf s i p).timer s.now) = true := by
      rw [st, timer_due tm due]; rfl
    have fires : exec (.lostTimerExpiry i p) s = _ := simpleEvent_occurs _ run guard
    refine ⟨fun m a c => ?_, fun c => ?_⟩
    · rw [placePort_bids need c] at fires
      have b := newBid_made i p n m a s
      have free := (nextTag_free s i p s.tagCounter).1
      generalize nextTag s i p 16 s.tagCounter = tag at b free
      exact ⟨_, fires, b.state, b.chosen, b.owner, b.timer, tag, b.tagged, b.counter, ⟨free, b.others⟩, b.bus⟩
    · rw [fires, placePort_unplaced need c]
      rfl
  · refine entered_reported o i f w ((served_iff _).2 ⟨b, c⟩) (Bool.eq_false_of_not_eq_true fun x => ?_)
    obtain ⟨running, plain⟩ := (served_iff _).1 x
    exact h.elim (fun y => y running) fun y => absurd (plain.symm.trans y) Bool.false_ne_true
  · have served : w.st.bays[i].served = true := (served_iff _).2 ⟨st, ad⟩
    refine ⟨fun c => ?_, fun c => ?_⟩
    · simp only [deliver, Work.map, takeEntered, served, if_true, c, Option.isNone_none]
      rfl
    · have busy : w.st.census.isNone = false := by rw [← Option.not_isSome, c]; rfl
      simp only [deliver, Work.map, takeEntered, served, if_true, busy, Bool.false_eq_true, if_false]
      rfl
  · have out : w.st.bays[i].served = false := Bool.eq_false_of_not_eq_true fun x => by
      obtain ⟨running, plain⟩ := (served_iff _).1 x
      exact h.elim (fun y => y running) fun y => absurd (plain.symm.trans y) Bool.false_ne_true
    simp only [deliver, Work.map, takeEntered, out, Bool.false_eq_true, if_false]
  · dsimp only
    rw [needOf_valid e v]
    refine ⟨fun h => ?_, fun k lt here first => ?_⟩
    · have none : (List.range (natAt r.bytes 25)).find? (fun k => natAt r.bytes (26 + 2 * k) / 16 == p.val) = none := by
        simpa using h
      rw [none]
      rfl
    · have found : (List.range (natAt r.bytes 25)).find? (fun k => natAt r.bytes (26 + 2 * k) / 16 == p.val) = some k := by
        rw [List.find?_range_eq_some]
        exact ⟨beq_iff_eq.2 here, List.mem_range.2 lt, fun j l => by simpa using first j l⟩
      rw [found]
      exact ⟨_, rfl, rfl, needModule_iff r.bytes k⟩
  · dsimp only
    rw [startPort_bids e c]
    have b := newBid_made i p n m a (setPort i p (fun r => { r with need := some n }) s)
    have free := (nextTag_free (setPort i p (fun r => { r with need := some n }) s) i p
      (setPort i p (fun r => { r with need := some n }) s).tagCounter).1
    generalize nextTag (setPort i p (fun r => { r with need := some n }) s) i p 16
      (setPort i p (fun r => { r with need := some n }) s).tagCounter = tag at b free
    rw [tagInUse_congr (setPort_others i p _ s)] at free
    refine ⟨b.state, b.need.trans (congrArg PortRec.need (portOf_setPort_self ..)), b.chosen, b.owner, b.timer, tag,
      b.tagged, b.counter, ⟨free, fun j q d => (b.others j q d).trans ?_⟩, b.bus⟩
    rw [setPort_others i p _ s j q d]
  · have held : ((portOf s i p).state == .held) = true := beq_iff_eq.2 st
    simp only [endPort, held, if_true, returnOf, chosen, owner, group]
    rfl
  · simp only [endPort, beq_false_of_ne st, Bool.false_eq_true, if_false]
    rfl

end Sys2Proof.Machine

end

section
/-! PROOF. ORDERs: which are refused, how a list runs, and the ORDER of one action. -/

namespace Sys2Proof.Machine

/-! ### Offers of ROUTINE messages on stations that differ by what reports change -/

/-- A ROUTINE message that merges with none is offered alike to two stations, one of which keeps what `Kept` lists. -/
theorem offer_routine_kept {m : Outgoing} {s t : State} (c : m.cls = .routine) (n : ∀ b, merges b m = false)
    (k : Kept s t) : Kept (offer m s) (offer m t) := by
  have room : hasRoom t.bus m = hasRoom s.bus m := by
    simp only [hasRoom, c, BusPort.fifo, k.bus.routine]
  have bus : BusKept (s.bus.offer m s.now s.tst) (t.bus.offer m t.now t.tst) := by
    simp only [BusPort.offer, n, Bool.false_eq_true, if_false, room, c, BusPort.fifo, BusPort.setFifo]
    split
    · exact { k.bus with routine := by dsimp only; rw [k.bus.routine] }
    · exact { k.bus with }
  exact { k with bus := bus }

theorem answer_plain (a : Addr) (m : AnswerMsg) (x : Bool) : (Outgoing.answer a m x).cls = .routine ∧
    ∀ b, merges b (.answer a m x) = false := ⟨rfl, fun _ => rfl⟩

theorem refuseOrder_kept {s t : State} (k : Kept s t) (src : Addr) : Kept (refuseOrder src s) (refuseOrder src t) := by
  have counted : Kept (countOrderRefused s) (countOrderRefused t) :=
    { k with bus := { k.bus with ordersRefused := congrArg satInc k.bus.ordersRefused } }
  exact offer_routine_kept rfl (fun _ => rfl) counted

/-! ### Which ORDERs are taken -/

theorem operatorRole_known {p : Peer} (h : p.operatorRole = true) : p.state ≠ .unknown := by
  rintro e
  simp [Peer.operatorRole, Peer.counts, e] at h

/-- An ORDER delivered to the station, from a source that is known. -/
theorem order_known {s : State} {h : OrderHead} {m : OrderMsg} (run : s.run = .running)
    (foreign : h.route.src ≠ s.address) (here : h.route.dst = s.address)
    (known : s.peers[h.route.src].state ≠ .unknown) :
    order s h m = .next (orderOutcome h.route.src m ⟨countGood s, []⟩) := by
  have g : (s.run == .running && h.route.src != s.address && h.route.dst == s.address) = true := by
    simp [run, foreign, here]
  simp only [order, g, if_true, hearOnly_known known, flush_done]

theorem orderOutcome_refused {src : Addr} {m : OrderMsg} {w : Work} (h : orderTaken w.st src m = false) :
    orderOutcome src m w = finish (w.map (refuseOrder src)) := by
  simp only [orderOutcome, takeOrder, h, Bool.false_eq_true, if_false]

theorem orderTaken_iff (s : State) (src : Addr) (m : OrderMsg) : orderTaken s src m = true ↔
    s.peers[src].operatorRole = true ∧ 1 ≤ m.actions.length ∧ m.actions.length ≤ 4 := by
  simp [orderTaken, and_assoc]

theorem ownActions_length (a : Action) (o : OwnAction) : (ownActions a o).length = o.length := by
  cases o <;> rfl

theorem orderOf_length (h : OrderHead) (a : Action) (b : List OrderAction) (o : OwnAction) (c : List OrderAction) :
    (orderOf h a b o c).actions.length = b.length + o.length + c.length := by
  simp only [orderOf, List.length_append, ownActions_length]

theorem orderOutcome_taken {src : Addr} {m : OrderMsg} {w : Work} (h : orderTaken w.st src m = true) :
    orderOutcome src m w =
      let r := listActions (sampleOf w.st m.cond) m.pattern m.actions 0 false w
      let owes := r.2.2 && !w.st.attention.restartOwed
      let a := orderAnswer src r.2.1 owes
      if owes = true ∧ takes r.1.st.bus a = false then beginWarm (finish (r.1.map (offer a)))
      else finish (r.1.map (offer a)) := by
  simp only [orderOutcome, takeOrder, h, if_true, Bool.and_eq_true, Bool.not_eq_true']

/-! ### A list of actions -/

theorem actionOf_code (a : Action) : actionOf a.code = some a := by cases a <;> rfl

theorem actionOf_none {n : Nat} (h : 12 ≤ n) : actionOf n = none := by
  obtain ⟨k, rfl⟩ := Nat.exists_eq_add_of_le h
  rw [Nat.add_comm]
  rfl

theorem carried_iff (sample : Option Bool) (pattern : BitVec 4) (k : Nat) : carried sample pattern k = true ↔
    ∀ v, sample = some v → pattern.getLsbD k = v := by
  cases sample with
  | none => simp [carried]
  | some b => simp [carried]

theorem listAction_carried {sample : Option Bool} {pattern : BitVec 4} {k : Nat} {x : OrderAction} {w : Work}
    (h : carried sample pattern k = true) : listAction sample pattern k false x w =
      match actionOf x.code with
      | none => (w, .rejected)
      | some a => (flush (carryAction a x.target x.value w).1, (carryAction a x.target x.value w).2) := by
  simp only [listAction, h, Bool.not_true, Bool.false_eq_true, if_false] <;> rfl

/-- Settles O36: an ORDER refused or taken, and the one action of a list by the tests in their order. -/
theorem ordersNotTakenAreRefused : Obligations.OrdersNotTakenAreRefused := by
  refine ⟨fun s h b o a run foreign here c mem => ⟨fun known why => ?_, fun unknown bare => ?_, fun role => ?_⟩,
    fun sample pattern k restarted w x l => ⟨rfl, rfl, fun r => ?_, fun r out => ?_, fun r inn => ⟨fun beyond => ?_,
      fun act e => ?_⟩⟩, rfl⟩
  · have refused : orderTaken (countGood s) h.route.src (orderOf h c.2 b o a) = false := by
      refine Bool.eq_false_of_not_eq_true fun t => ?_
      obtain ⟨role, low, high⟩ := (orderTaken_iff ..).1 t
      rw [orderOf_length] at low high
      obtain no | none | many := why
      · exact Bool.false_ne_true (no.symm.trans role)
      · omega
      · omega
    rw [exec_orderRows mem, order_known run foreign here known, orderOutcome_refused (w := ⟨countGood s, []⟩) refused]
    exact congrArg _ (finish_done _)
  · have k := hearOnly_kept unknown
    have none : (flush (hearOnly h.route.src ⟨s, []⟩)).st.peers[h.route.src].roles = none := by
      rw [k.peers, setPeer_peers, updAt_self]
      exact bare
    have refused : orderTaken (flush (hearOnly h.route.src ⟨s, []⟩)).st h.route.src (orderOf h c.2 b o a) = false := by
      refine Bool.eq_false_of_not_eq_true fun t => ?_
      have role := ((orderTaken_iff ..).1 t).1
      simp only [Peer.operatorRole, none, Bool.and_false] at role
      exact Bool.false_ne_true role
    have g : (s.run == .running && h.route.src != s.address && h.route.dst == s.address) = true := by
      simp [run, foreign, here]
    refine ⟨_, by rw [exec_orderRows mem, order, if_pos g,
      orderOutcome_refused (w := flush (hearOnly h.route.src ⟨s, []⟩)) refused], ?_⟩
    exact (refuseOrder_kept k h.route.src).trans
      (finish_kept ((flush (hearOnly h.route.src ⟨s, []⟩)).map (refuseOrder h.route.src)))
  · intro l sample r owes m low high
    have length : (orderOf h c.2 b o a).actions.length = l.length := rfl
    have taken : orderTaken (countGood s) h.route.src (orderOf h c.2 b o a) = true :=
      (orderTaken_iff ..).2 ⟨role, length ▸ low, length ▸ high⟩
    rw [exec_orderRows mem, order_known run foreign here (operatorRole_known role), orderOutcome_taken (w := ⟨countGood s, []⟩) taken]
    rfl
  · subst r
    rfl
  · subst r
    have skipped : carried sample pattern k = false := by
      refine Bool.eq_false_of_not_eq_true fun y => ?_
      obtain ⟨v, e, n⟩ := out
      exact n ((carried_iff ..).1 y v e)
    simp only [listAction, skipped, Bool.not_false, Bool.false_eq_true, if_false, if_true]
  · subst r
    rw [listAction_carried ((carried_iff ..).2 inn), actionOf_none beyond]
  · subst r
    rw [listAction_carried ((carried_iff ..).2 inn), e, actionOf_code]

end Sys2Proof.Machine

end

section
/-! PROOF. The ORDER of one action: what it leaves of its slot and of the station, and the power orders. -/

namespace Sys2Proof.Machine

/-! ### The ORDER of one action -/

/-- The ANSWER of an ORDER whose one action has the outcome `r`. -/
def answerOf (dst : Addr) (r : Result) : Outgoing := .answer dst ⟨7, .ok, [byteOf r.code]⟩ false

theorem restarts_false {a : Action} (n : a ≠ .restart) (t v : Nat) (r : Result) :
    restarts ⟨a.code, t, v⟩ r = false := by
  cases a with
  | restart => exact absurd rfl n
  | _ => rfl

/-- The list of an order row that stands alone. -/
theorem listActions_act (a : Action) (pattern : BitVec 4) (n v : Nat) (w : Work) :
    listActions none pattern [⟨a.code, n, v⟩] 0 false w =
      (flush (carryAction a n v w).1, [(carryAction a n v w).2], restarts ⟨a.code, n, v⟩ (carryAction a n v w).2) := by
  simp only [listActions, listAction_carried (show carried none pattern 0 = true from rfl), actionOf_code, Bool.false_or]

theorem order_act {s : State} {h : OrderHead} {a : Action} (ready : OrderReady s h) (n : a ≠ .restart) (k v : Nat) :
    order s h (orderOf h a [] (.act k v) []) = .next (finish ((flush (carryAction a k v ⟨countGood s, []⟩).1).map
      (offer (answerOf h.route.src (carryAction a k v ⟨countGood s, []⟩).2)))) := by
  have taken : orderTaken (countGood s) h.route.src (orderOf h a [] (.act k v) []) = true :=
    (orderTaken_iff ..).2 ⟨ready.operator, Nat.le_refl 1, Nat.le_add_left 1 3⟩
  have list : (orderOf h a [] (.act k v) []).actions = [⟨a.code, k, v⟩] := rfl
  have sample : sampleOf (countGood s) (orderOf h a [] (.act k v) []).cond = none := by
    rw [show (orderOf h a [] (.act k v) []).cond = h.cond from rfl, ready.unconditional]
    rfl
  rw [order_known ready.running ready.foreign ready.own (operatorRole_known ready.operator),
    orderOutcome_taken (w := ⟨countGood s, []⟩) taken]
  simp only [list, sample, listActions_act, restarts_false n, Bool.false_and, Bool.false_eq_true, false_and, if_false]
  rfl

theorem slotAt_fitted {s : State} {i : SlotIx} (h : s.bays[i].fitted = true) : slotAt s i.val = some i := by
  rw [slotAt, dif_pos i.isLt]
  exact if_pos h

theorem slotAt_unfitted {s : State} {n : Nat} (h : ∀ i : SlotIx, i.val = n → s.bays[i].fitted = false) :
    slotAt s n = none := by
  simp only [slotAt]
  split
  · next lt => exact if_neg (ne_true_of_eq_false (h ⟨n, lt⟩ rfl))
  · rfl

theorem onSlot_fitted {s : State} {i : SlotIx} (h : s.bays[i].fitted = true) (f : SlotIx → Work → Work × Result) :
    onSlot i.val f ⟨countGood s, []⟩ = f i ⟨countGood s, []⟩ := by
  have at' : slotAt (countGood s) i.val = some i := slotAt_fitted (s := countGood s) h
  simp only [onSlot, at']

theorem onSlot_unfitted {s : State} {n : Nat} (h : ∀ i : SlotIx, i.val = n → s.bays[i].fitted = false)
    (f : SlotIx → Work → Work × Result) : onSlot n f ⟨countGood s, []⟩ = (⟨countGood s, []⟩, .rejected) := by
  have none : slotAt (countGood s) n = none := slotAt_unfitted (s := countGood s) h
  simp only [onSlot, none]

/-! ### The frame of a slot order -/

/-- `v` is the station with the ORDER counted and slot `i` changed, as the slot's own work may have left it. -/
structure SlotOnly (i : SlotIx) (s v : State) : Prop where
  kept : OrderKept i s v
  routine : v.bus.routine = s.bus.routine

theorem SlotOnly.counted (i : SlotIx) (s : State) : SlotOnly i s (countGood s) :=
  ⟨⟨fun _ _ => .refl _, rfl, rfl, rfl, rfl, rfl, rfl, rfl, rfl, rfl⟩, rfl⟩

theorem OrderKept.of_kept {i : SlotIx} {s v u : State} (h : OrderKept i s v) (k : Kept v u) : OrderKept i s u where
  others := fun j n => (h.others j n).trans (k.bays j)
  peers := k.peers.trans h.peers
  settings := k.settings.trans h.settings
  address := k.address.trans h.address
  supplies := k.supplies.trans h.supplies
  owner := k.owner.trans h.owner
  census := k.census.trans h.census
  run := k.run.trans h.run
  urgent := k.bus.urgent.trans h.urgent
  good := k.bus.good.trans h.good

/-- An offer of a ROUTINE message that merges with none. -/
theorem offer_routine_eq {m : Outgoing} (c : m.cls = .routine) (n : ∀ b, merges b m = false) (s : State) : ∃ r o v,
    offer m s = { s with bus := { s.bus with routine := r, owed := o, overflows := v } } := by
  simp only [offer, BusPort.offer, n, Bool.false_eq_true, if_false, c, BusPort.fifo, BusPort.setFifo]
  split
  · exact ⟨_, _, s.bus.overflows, rfl⟩
  · exact ⟨s.bus.routine, _, _, rfl⟩

theorem SlotOnly.of_kept {i : SlotIx} {s v u : State} (h : SlotOnly i s v) (k : Kept v u) : SlotOnly i s u where
  kept := h.kept.of_kept k
  routine := k.bus.routine.trans h.routine

/-- Slot `i` itself changed. -/
theorem SlotOnly.set {i : SlotIx} {s v : State} (h : SlotOnly i s v) (f : Bay → Bay) : SlotOnly i s (setBay i f v) where
  kept := { h.kept with
    others := fun j n => by
      rw [setBay_bays, updAt_ne _ _ _ _ (Ne.symm n)]
      exact h.kept.others j n }
  routine := h.routine

theorem SlotOnly.mod {i : SlotIx} {s : State} {w : Work} (h : SlotOnly i s w.st) (o : StepOrder) (f : Bay → Bay) :
    SlotOnly i s (modBay o i f w).st := by
  obtain ⟨x, e⟩ := modBay_eq o i f w
  have b := h.set fun _ => capFollows w.st.now w.st.bays[i] (f w.st.bays[i])
  rw [e]
  exact ⟨{ b.kept with }, b.routine⟩

/-- The ANSWER waits at the tail of the ROUTINE FIFO, where that stood as before and nothing follows. -/
theorem answered_of_routine {s u t : State} {dst : Addr} {r : Result} (b : u.bus.routine = s.bus.routine)
    (e : t.bus.routine = (offer (answerOf dst r) u).bus.routine) : Answered dst [byteOf r.code] s t := fun room => by
  have free : u.bus.routine.length < 4 := by rw [b]; exact room
  rw [e, ← b]
  show (u.bus.offer (answerOf dst r) u.now u.tst).routine = _
  rw [offer_joins (m := answerOf dst r) _ _ rfl free]
  rfl

/-- What the ANSWER and the reports leave of a slot order. -/
theorem SlotOnly.answered {i : SlotIx} {s : State} {w : Work} (h : SlotOnly i s w.st) (dst : Addr) (r : Result) :
    let t := finish ((flush w).map (offer (answerOf dst r)))
    BayKept w.st.bays[i] t.bays[i] ∧ Answered dst [byteOf r.code] s t ∧ OrderKept i s t := by
  have k : Kept w.st (flush w).st := flush_kept w
  have f : SlotOnly i s (flush w).st := h.of_kept k
  have last := finish_kept ((flush w).map (offer (answerOf dst r)))
  obtain ⟨x, o, v, e⟩ := offer_routine_eq (m := answerOf dst r) rfl (fun _ => rfl) (flush w).st
  have offered : OrderKept i s (offer (answerOf dst r) (flush w).st) := by
    rw [e]
    exact { f.kept with }
  exact ⟨(k.bays i).trans (last.bays i), answered_of_routine f.routine last.bus.routine, offered.of_kept last⟩

/-- A slot action that changes its slot and says so. -/
theorem act_does {s : State} {h : OrderHead} {a : Action} {i : SlotIx} {v : Nat} {w : Work} {r : Result} {f : Bay → Prop}
    (ready : OrderReady s h) (n : a ≠ .restart) (c : carryAction a i.val v ⟨countGood s, []⟩ = (w, r))
    (only : SlotOnly i s w.st) (p : ∀ x, BayKept w.st.bays[i] x → f x) :
    ∃ t, order s h (orderOf h a [] (.act i.val v) []) = .next t ∧ f t.bays[i] ∧
      Answered h.route.src [byteOf r.code] s t ∧ OrderKept i s t := by
  obtain ⟨k, answered, kept⟩ := only.answered h.route.src r
  refine ⟨_, order_act ready n i.val v, ?_⟩
  rw [c]
  exact ⟨p _ k, answered, kept⟩

/-- A slot action that changes nothing, with its outcome. -/
theorem act_stays {s : State} {h : OrderHead} {a : Action} {k v : Nat} {r : Result} (ready : OrderReady s h)
    (n : a ≠ .restart) (c : carryAction a k v ⟨countGood s, []⟩ = (⟨countGood s, []⟩, r)) :
    order s h (orderOf h a [] (.act k v) []) = .next (settleFlags (offer (answerOf h.route.src r) (countGood s))) := by
  rw [order_act ready n k v, c, flush_done]
  exact congrArg _ (finish_done _)

/-- An unpowered slot after its change and the reports: as the change left it, but for what waits to be settled. -/
theorem seq_of_mod {o : StepOrder} {i : SlotIx} {g : Bay → Bay} {w : Work} {x : Bay}
    (u : (g w.st.bays[i]).powered = false) (k : BayKept (modBay o i g w).st.bays[i] x) :
    ∃ c p, x.seq = { (g w.st.bays[i]).seq with opCeiling := c, pendingOp := p } := by
  have seq : (modBay o i g w).st.bays[i].seq = (g w.st.bays[i]).seq := by rw [modBay_bay, capFollows_seq]
  have off : (modBay o i g w).st.bays[i].powered = false := by
    rw [Bay.powered, seq]
    exact u
  obtain ⟨c, p, e⟩ := (k.unpowered off).2
  exact ⟨c, p, by rw [e, seq]⟩

/-! ### The power orders by the slot's state -/

section
variable {i : SlotIx} {w : Work}

theorem orderOn_off (st : w.st.bays[i].seq.state = .off) (a : w.st.bays[i].seq.allowance.isSome = true) :
    orderOn i w = (modBay .fault i (fun b => b.enter w.st.now .waitPower none) w, .started) := by
  simp only [orderOn, st, a, if_true]

theorem orderOn_bare (st : w.st.bays[i].seq.state = .off) (a : w.st.bays[i].seq.allowance = none) :
    orderOn i w = (w, .rejected) := by
  simp only [orderOn, st, a, Option.isSome_none, Bool.false_eq_true, if_false]

theorem orderOn_barred (st : w.st.bays[i].seq.state = .shedOff) (b : w.st.bays[i].seq.restoreBarred = true) :
    orderOn i w = (modBay .fault i (fun b => b.enter w.st.now .waitPower none) w, .started) := by
  simp only [orderOn, st, b, if_true]

theorem orderOn_shed (st : w.st.bays[i].seq.state = .shedOff) (b : w.st.bays[i].seq.restoreBarred = false) :
    orderOn i w = (w, .rejected) := by
  simp only [orderOn, st, b, Bool.false_eq_true, if_false]

theorem orderOn_done (st : w.st.bays[i].seq.state ∈ [SlotState.waitPower, .ramp, .running, .retryWait]) :
    orderOn i w = (w, .done) := by
  simp only [List.mem_cons, List.not_mem_nil, or_false] at st
  rcases st with st | st | st | st <;> simp only [orderOn, st]

theorem orderOn_rejected (st : w.st.bays[i].seq.state ∈ [SlotState.empty, .identify, .stopping, .latched, .stuck]) :
    orderOn i w = (w, .rejected) := by
  simp only [List.mem_cons, List.not_mem_nil, or_false] at st
  rcases st with st | st | st | st | st <;> simp only [orderOn, st]

theorem orderOff_off (st : w.st.bays[i].seq.state = .off) : orderOff i w =
    (modBay .fault i (fun b => { b with seq := { b.seq with cycle := false, cycleTimer := none } }) w, .done) := by
  simp only [orderOff, st]

theorem orderOff_ramp (st : w.st.bays[i].seq.state = .ramp) : orderOff i w =
    (modBay .fault i (fun b => ((b.cut w.st.now).toOff w.st.now false).setCause .operator) w, .done) := by
  simp only [orderOff, st]

theorem orderOff_waiting
    (st : w.st.bays[i].seq.state = .waitPower ∨ w.st.bays[i].seq.state = .retryWait ∨ w.st.bays[i].seq.state = .shedOff) :
    orderOff i w = (modBay .fault i (fun b => b.toOff w.st.now false) w, .done) := by
  rcases st with st | st | st <;> simp only [orderOff, st]

theorem orderOff_running (st : w.st.bays[i].seq.state = .running) : orderOff i w =
    (modBay .stop i (fun b => b.toDraining w.st.now .operator .off false) w, .started) := by
  simp only [orderOff, st]

theorem orderOff_done (st : w.st.bays[i].seq.state = .stopping ∨ w.st.bays[i].seq.state = .latched) :
    orderOff i w = (w, .done) := by
  rcases st with st | st <;> simp only [orderOff, st]

theorem orderOff_rejected (st : w.st.bays[i].seq.state ∈ [SlotState.empty, .identify, .stuck]) :
    orderOff i w = (w, .rejected) := by
  simp only [List.mem_cons, List.not_mem_nil, or_false] at st
  rcases st with st | st | st <;> simp only [orderOff, st]

theorem orderCycle_running (st : w.st.bays[i].seq.state = .running) : orderCycle i w =
    (modBay .stop i (fun b => b.toDraining w.st.now .operator .off true) w, .started) := by
  simp only [orderCycle, st]

theorem orderCycle_rejected (st : w.st.bays[i].seq.state ≠ .running) : orderCycle i w = (w, .rejected) := by
  simp only [orderCycle]
  split
  · next e => exact absurd e st
  all_goals rfl

theorem orderClearLatch_latched (st : w.st.bays[i].seq.state = .latched) : orderClearLatch i w =
    (modBay .fault i (fun b => let c := b.toOff w.st.now false; { c with seq := { c.seq with retryCount := 0 } }) w,
      .done) := by
  simp only [orderClearLatch, st]

theorem orderClearLatch_high (st : w.st.bays[i].seq.state = .stuck)
    (a : w.st.bays[i].cfg.stuckThreshold ≤ w.st.bays[i].meter.amp) : orderClearLatch i w = (w, .rejected) := by
  simp only [orderClearLatch, st, Nat.not_lt.2 a, if_false]

theorem orderClearLatch_released (st : w.st.bays[i].seq.state = .stuck)
    (a : w.st.bays[i].meter.amp < w.st.bays[i].cfg.stuckThreshold) :
    orderClearLatch i w = (modBay .fault i (fun b => b.release w.st.now) w, .done) := by
  simp only [orderClearLatch, st, a, if_true]

theorem orderClearLatch_done (l : w.st.bays[i].seq.state ≠ .latched) (k : w.st.bays[i].seq.state ≠ .stuck) :
    orderClearLatch i w = (w, .done) := by
  simp only [orderClearLatch]
  split
  · next e => exact absurd e l
  · next e => exact absurd e k
  all_goals rfl

end

/-! ### Draining -/

/-- Slot `i` holds nothing to settle, and only reports that leave its record alone wait. -/
structure Steady (i : SlotIx) (w : Work) : Prop where
  held : w.st.bays[i].link.held = none
  pending : w.st.bays[i].seq.pendingOp = none
  reports : ∀ r ∈ w.reports, r = .left i ∨ r = .check i ∨ r = .settle i

/-- The record and the link of slot `j` are in `t` as they are in `s`. -/
structure SameSlot (j : SlotIx) (s t : State) : Prop where
  seq : t.bays[j].seq = s.bays[j].seq
  link : t.bays[j].link = s.bays[j].link

theorem SameSlot.trans {j : SlotIx} {s t u : State} (h : SameSlot j s t) (k : SameSlot j t u) : SameSlot j s u :=
  ⟨k.seq.trans h.seq, k.link.trans h.link⟩

theorem SameSlot.of_slots {s t : State} (h : SameSlots s t) (j : SlotIx) : SameSlot j s t := ⟨h.seq j, h.link j⟩

theorem sendingCheck_bays (s : State) : (sendingCheck s).bays = s.bays := by
  obtain ⟨b, o, l, e⟩ := sendingCheck_eq s
  rw [e]

theorem withdrawEntry_bays (i : SlotIx) (s : State) : (withdrawEntry i s).bays = s.bays := by
  have re (t : State) (h : t.bays = s.bays) : (recheck s t).bays = s.bays := by
    simp only [recheck]
    split
    · rw [sendingCheck_bays, h]
    · exact h
  simp only [withdrawEntry]
  split
  · rfl
  · refine re _ ?_
    split
    · simp only [withdrawClaim, takeOut]
      split <;> rfl
    · rfl

theorem Steady.moved {i : SlotIx} {w : Work} {s : State} {l : List Report} (h : Steady i w) (same : SameSlot i w.st s)
    (rest : ∀ r ∈ l, r = .left i ∨ r = .check i ∨ r = .settle i) : Steady i ⟨s, l⟩ where
  held := (congrArg Link.held same.link).trans h.held
  pending := (congrArg Seq.pendingOp same.seq).trans h.pending
  reports := rest

theorem deliver_steady {i : SlotIx} {w : Work} {r : Report} {l : List Report} (h : Steady i w) (e : w.reports = r :: l) :
    Steady i (deliver r { w with reports := l }) ∧ SameSlot i w.st (deliver r { w with reports := l }).st := by
  have rest (x : Report) (m : x ∈ l) : x = .left i ∨ x = .check i ∨ x = .settle i := h.reports x (e ▸ .tail _ m)
  have still : Steady i { w with reports := l } ∧ SameSlot i w.st w.st := ⟨h.moved ⟨rfl, rfl⟩ rest, rfl, rfl⟩
  obtain rfl | rfl | rfl := h.reports r (e ▸ .head _)
  · have same := SameSlot.of_slots (endPorts_slots i w.st) i
    exact ⟨h.moved same rest, same⟩
  · simp only [deliver, checkEntry, leaveQueue]
    split
    · split
      · exact still
      · split
        · have same : SameSlot i w.st (withdrawEntry i w.st) := by
            constructor <;> rw [withdrawEntry_bays]
          refine ⟨h.moved same fun x m => ?_, same⟩
          rcases List.mem_append.1 m with m | m
          · exact rest x m
          · exact .inr (.inr (List.mem_singleton.1 m))
        · exact still
    · exact still
  · have idle : deliver (.settle i) { w with reports := l } = { w with reports := l } := by
      simp only [deliver, settleSlot, settleHeld, settlePending, h.held, h.pending]
    rw [idle]
    exact still

theorem drain_steady {i : SlotIx} (n : Nat) {w : Work} (h : Steady i w) :
    Steady i (drain n w) ∧ SameSlot i w.st (drain n w).st := by
  induction n generalizing w with
  | zero => exact ⟨h, rfl, rfl⟩
  | succ n ih =>
    cases e : w.reports with
    | nil =>
      have done : drain (n + 1) w = w := by simp only [drain, e]
      rw [done]
      exact ⟨h, rfl, rfl⟩
    | cons r l =>
      obtain ⟨steady, same⟩ := deliver_steady h e
      obtain ⟨last, more⟩ := ih steady
      simp only [drain, e]
      exact ⟨last, same.trans more⟩

/-- What the ANSWER and the reports leave of a slot that holds nothing to settle. -/
theorem Steady.answered {i : SlotIx} {w : Work} (h : Steady i w) (m : Outgoing) :
    SameSlot i w.st (finish ((flush w).map (offer m))) := by
  obtain ⟨steady, same⟩ := drain_steady drainFuel h
  have offered : Steady i ((flush w).map (offer m)) := steady.moved ⟨rfl, rfl⟩ steady.reports
  have offers : SameSlot i (flush w).st (offer m (flush w).st) := ⟨rfl, rfl⟩
  exact (SameSlot.trans same offers).trans ⟨(drain_steady drainFuel offered).2.seq, (drain_steady drainFuel offered).2.link⟩

/-- What the stop of a slot in RUNNING sets (R53). -/
theorem toDraining_sets (b : Bay) (now : Nat) (cause : ShutdownCause) (dest : StopDest) (cycle : Bool) :
    (b.toDraining now cause dest cycle).seq = { b.seq with
      state := .stopping, phase := some .draining, dest := some dest, cause := cause, cycle := cycle
      shutdownEnded := false, gracefulTimer := some (now + 1000 * b.cfg.gracefulSeconds)
      ejectorHold := false, restoreBarred := false, rampTimer := none, retryTimer := none, cycleTimer := none
      retryClearTimer := none } := by
  simp [Bay.toDraining, Bay.enter, setsHeld, poweredIn, drainingIn]

/-- The stop of a slot with a valid record leaves its charge (R65). -/
theorem toDraining_charge {b : Bay} (st : b.seq.state = .running) (v : b.recordValid = true) (a : b.seq.adopted = false)
    (now : Nat) (cause : ShutdownCause) (dest : StopDest) (cycle : Bool) :
    (b.toDraining now cause dest cycle).charge = b.charge := by
  have valid : (b.toDraining now cause dest cycle).recordValid = true := v
  rw [charge_powered (.inr st), charge_draining (by rw [toDraining_sets]) (by rw [toDraining_sets])]
  simp only [valid, v, a, Bool.false_eq_true, reduceCtorEq, or_false, if_true, if_false]
  simp only [Bay.activeCeiling, toDraining_sets]

/-- Nothing follows inside a slot that is not in RUNNING after its change (R64). -/
theorem capFollows_idle {now : Nat} {a b : Bay} (h : b.seq.state ≠ .running) : capFollows now a b = b := by
  rw [capFollows, beq_false_of_ne h, Bool.and_false, Bool.false_and]
  rfl

/-- A change into STOPPING, or in it, that leaves the charge and nothing to settle, reports the leaving of RUNNING and the
check of the entry at most (R53, R66). -/
theorem stop_reports {i : SlotIx} {a b : Bay} (st : b.seq.state = .stopping) (charge : b.charge = a.charge)
    (held : b.link.held = none) (pending : b.seq.pendingOp = none) {r : Report} (m : r ∈ reportsOf .stop i a b) :
    r = .left i ∨ r = .check i := by
  have unserved : b.served = false := by rw [Bay.served, st]; rfl
  obtain m | m | m | m | m := (mem_reportsOf ..).1 m
  · simp [chargeReport, charge] at m
  · simp only [trunkReport, unserved, Bool.and_false, Bool.false_eq_true, if_false] at m
    split at m
    · exact .inl (List.mem_singleton.1 m)
    · exact absurd m List.not_mem_nil
  · simp only [checkReport] at m
    split at m
    · exact .inr (List.mem_singleton.1 m)
    · exact absurd m List.not_mem_nil
  · simp [admitReport, st] at m
  · simp [settleReport, held, pending] at m

theorem stop_steady {i : SlotIx} {s : State} {f : Bay → Bay} (st : (f s.bays[i]).seq.state = .stopping)
    (charge : (f s.bays[i]).charge = s.bays[i].charge) (held : (f s.bays[i]).link.held = none)
    (pending : (f s.bays[i]).seq.pendingOp = none) : Steady i (modBay .stop i f ⟨s, []⟩) := by
  have same : capFollows s.now s.bays[i] (f s.bays[i]) = f s.bays[i] := capFollows_idle (by rw [st]; nofun)
  refine ⟨?_, ?_, fun r m => ?_⟩
  · rw [modBay_bay, same, held]
  · rw [modBay_bay, same, pending]
  · rw [modBay_reports, same, List.nil_append] at m
    exact (stop_reports st charge held pending m).imp_right .inl

theorem toDraining_steady {i : SlotIx} {s : State} (st : s.bays[i].seq.state = .running)
    (v : s.bays[i].recordValid = true) (a : s.bays[i].seq.adopted = false) (h : s.bays[i].link.held = none)
    (p : s.bays[i].seq.pendingOp = none) (now : Nat) (cause : ShutdownCause) (dest : StopDest) (cycle : Bool) :
    Steady i (modBay .stop i (fun b => b.toDraining now cause dest cycle) ⟨s, []⟩) :=
  stop_steady (by rw [toDraining_sets]) (toDraining_charge st v a ..) h p

/-- A change of an unpowered slot by an ORDER of one action. -/
theorem act_moves {s : State} {h : OrderHead} {a : Action} {i : SlotIx} {v : Nat} {r : Result} {f : Bay → Prop}
    {o : StepOrder} {g : Bay → Bay} {b : Bay} (ready : OrderReady s h) (n : a ≠ .restart)
    (c : carryAction a i.val v ⟨countGood s, []⟩ = (modBay o i g ⟨countGood s, []⟩, r))
    (becomes : g s.bays[i] = b) (u : b.powered = false)
    (p : ∀ x y z, BayKept b x → x.seq = { b.seq with opCeiling := y, pendingOp := z } → f x) :
    ∃ t, order s h (orderOf h a [] (.act i.val v) []) = .next t ∧ f t.bays[i] ∧
      Answered h.route.src [byteOf r.code] s t ∧ OrderKept i s t :=
  act_does ready n c (.mod (.counted i s) o g) fun x k => by
    subst becomes
    obtain ⟨y, z, e⟩ := seq_of_mod (w := ⟨countGood s, []⟩) u k
    refine p x y z (.trans ?_ k) e
    rw [modBay_bay]
    exact capFollows_kept ..

/-- The stop of a slot in RUNNING, with nothing to settle and a charge that stays, by an ORDER of one action. -/
theorem act_drains {s : State} {h : OrderHead} {a : Action} {i : SlotIx} {v : Nat} {r : Result} {f : Bay → Prop}
    {g : Bay → Bay} (ready : OrderReady s h) (n : a ≠ .restart)
    (c : carryAction a i.val v ⟨countGood s, []⟩ = (modBay .stop i g ⟨countGood s, []⟩, r))
    (steady : Steady i (modBay .stop i g ⟨countGood s, []⟩)) (p : ∀ x, x.seq = (g s.bays[i]).seq → f x) :
    ∃ t, order s h (orderOf h a [] (.act i.val v) []) = .next t ∧ f t.bays[i] ∧
      Answered h.route.src [byteOf r.code] s t ∧ OrderKept i s t := by
  have same := (steady.answered (answerOf h.route.src r)).seq
  obtain ⟨-, answered, kept⟩ := (SlotOnly.mod (w := ⟨countGood s, []⟩) (.counted i s) .stop g).answered h.route.src r
  refine ⟨_, order_act ready n i.val v, ?_⟩
  rw [c]
  refine ⟨p _ ?_, answered, kept⟩
  rw [same, modBay_bay, capFollows_seq]
  rfl

end Sys2Proof.Machine

end

section
/-! PROOF. The power orders by the slot's state. -/

namespace Sys2Proof.Machine

theorem slotRows_restart {h : OrderHead} {o : OwnAction} {c : Instr × Action} (m : c ∈ (orderRows h [] o []).take 9) :
    c.2 ≠ .restart := by
  simp only [orderRows, List.take_succ_cons, List.take_zero, List.mem_cons, List.not_mem_nil, or_false] at m
  rcases m with rfl | rfl | rfl | rfl | rfl | rfl | rfl | rfl | rfl
  all_goals nofun

/-- The nine slot actions on a slot that is not fitted are REJECTED (R177). -/
theorem slotRows_unfitted {h : OrderHead} {o : OwnAction} {c : Instr × Action} {s : State} {n v : Nat}
    (m : c ∈ (orderRows h [] o []).take 9) (u : ∀ i : SlotIx, i.val = n → s.bays[i].fitted = false) :
    carryAction c.2 n v ⟨countGood s, []⟩ = (⟨countGood s, []⟩, .rejected) := by
  simp only [orderRows, List.take_succ_cons, List.take_zero, List.mem_cons, List.not_mem_nil, or_false] at m
  rcases m with rfl | rfl | rfl | rfl | rfl | rfl | rfl | rfl | rfl
  all_goals simp only [carryAction, onSlot_unfitted u]

/-- The stop of a slot in RUNNING by an ORDER of one action. -/
theorem order_stops {s : State} {h : OrderHead} {a : Action} {i : SlotIx} {v : Nat} {g : Bay → Bay}
    (ready : OrderReady s h) (n : a ≠ .restart)
    (c : carryAction a i.val v ⟨countGood s, []⟩ = (modBay .stop i g ⟨countGood s, []⟩, .started)) :
    order s h (orderOf h a [] (.act i.val v) []) = .next (finish ((flush (modBay .stop i g ⟨countGood s, []⟩)).map
      (offer (.answer h.route.src ⟨7, .ok, [1]⟩ false)))) := by
  rw [order_act ready n i.val v, c]
  rfl

theorem release_filed {b : Bay} {now : Nat} (p : b.seq.presence = true) (r : b.link.record.isSome = true) :
    b.release now = b.toOff now false := by
  rw [Bay.release, if_pos p, if_pos r]

theorem release_bare {b : Bay} {now : Nat} (p : b.seq.presence = true) (r : b.link.record = none) :
    b.release now = let c := b.enter now .identify none
      { c with seq := { c.seq with standby := true }, link := c.link.queueInventory .release } := by
  rw [Bay.release, if_pos p, r]
  rfl

theorem release_gone {b : Bay} {now : Nat} (p : b.seq.presence = false) :
    b.release now = let c := b.enter now .empty none
      { c with seq := { c.seq with standby := false }, meter := c.meter.clear } := by
  rw [Bay.release, p]
  rfl

theorem queueInventory_release (l : Link) : (l.queueInventory .release).inventory = some (match l.inventory with
    | none => ⟨.release, 0, 0, []⟩
    | some y => { y with purpose := .release }) := by
  simp only [Link.queueInventory]
  cases l.inventory <;> rfl

/-- The shutdown write that a stop queues, or joins (R53). -/
theorem toDraining_shutdown (b : Bay) (now : Nat) (cause : ShutdownCause) (dest : StopDest) (cycle : Bool) :
    (b.toDraining now cause dest cycle).link.shutdown =
      if b.link.shutdown = .inFlight then .inFlight else .pending := by
  have queued (x : WorkItem) :
      (if (x == .absent) = true then WorkItem.pending else x) = if x = .inFlight then .inFlight else .pending := by
    cases x <;> rfl
  exact queued b.link.shutdown

/-- Settles O37: an order's outcome by the slot's state, and what its one change of the slot leaves. -/
theorem powerOrdersMoveTheSlot : Obligations.PowerOrdersMoveTheSlot := by
  refine ⟨fun s h n v ready unfitted c m => ?_, fun b now cause dest cycle => ?_, fun s h i v ready fit => ?_⟩
  · rw [exec_orderRows (List.mem_of_mem_take m)]
    exact act_stays ready (slotRows_restart m) (slotRows_unfitted m unfitted)
  · dsimp only
    rw [toDraining_sets]
    refine ⟨rfl, rfl, rfl, rfl, rfl, rfl, rfl, rfl, rfl, rfl, rfl, rfl, rfl, rfl, ?_⟩
    exact toDraining_shutdown ..
  · intro b q on off cycle clear stays does
    have moves {c : Instr} {a : Action} {k : Byte} {r : Result} {f : Bay → Prop} {o : StepOrder} {g : Bay → Bay} {b' : Bay}
        (row : exec c s = order s h (orderOf h a [] (.act i.val v) [])) (n : a ≠ .restart)
        (carry : carryAction a i.val v ⟨countGood s, []⟩ = (modBay o i g ⟨countGood s, []⟩, r))
        (becomes : g s.bays[i] = b') (u : b'.powered = false)
        (code : byteOf r.code = k)
        (p : ∀ x y z, BayKept b' x → x.seq = { b'.seq with opCeiling := y, pendingOp := z } → f x) :
        does c k f := by
      obtain ⟨t, e, rest⟩ := act_moves (f := f) ready n carry becomes u p
      exact ⟨t, row.trans e, code ▸ rest⟩
    have drains {c : Instr} {a : Action} {k : Byte} {f : Bay → Prop} {g : Bay → Bay}
        (row : exec c s = order s h (orderOf h a [] (.act i.val v) [])) (n : a ≠ .restart)
        (carry : carryAction a i.val v ⟨countGood s, []⟩ = (modBay .stop i g ⟨countGood s, []⟩, .started))
        (steady : Steady i (modBay .stop i g ⟨countGood s, []⟩)) (code : byteOf Result.started.code = k)
        (p : ∀ x, x.seq = (g s.bays[i]).seq → f x) : does c k f := by
      obtain ⟨t, e, rest⟩ := act_drains (f := f) ready n carry steady p
      exact ⟨t, row.trans e, code ▸ rest⟩
    have keeps {c : Instr} {a : Action} {k : Byte} {r : Result}
        (row : exec c s = order s h (orderOf h a [] (.act i.val v) [])) (n : a ≠ .restart)
        (carry : carryAction a i.val v ⟨countGood s, []⟩ = (⟨countGood s, []⟩, r))
        (code : byteOf r.code = k) : stays c k :=
      code ▸ row.trans (act_stays ready n carry)
    clear_value does stays
    have ons := onSlot_fitted fit orderOn
    have offs := onSlot_fitted fit orderOff
    have cycles := onSlot_fitted fit orderCycle
    have clears := onSlot_fitted fit orderClearLatch
    refine ⟨fun st a => ?_, fun st a => ?_, fun st a => ?_, fun st a => ?_, fun st => ?_, fun st => ?_, fun st => ?_,
      fun st => ?_, fun st => ?_, fun st => ?_, fun st => ?_, ?_⟩
    · refine moves (a := .slotOn) rfl nofun (ons.trans (orderOn_off st a)) rfl rfl rfl fun x y z _ e => ?_
      rw [e]
      simp [Bay.enter, b, q]
    · exact keeps (a := .slotOn) rfl nofun (ons.trans (orderOn_bare st a)) rfl
    · refine moves (a := .slotOn) rfl nofun (ons.trans (orderOn_barred st a)) rfl rfl rfl fun x y z _ e => ?_
      rw [e]
      simp [Bay.enter, poweredIn]
    · exact keeps (a := .slotOn) rfl nofun (ons.trans (orderOn_shed st a)) rfl
    · exact keeps (a := .slotOn) rfl nofun (ons.trans (orderOn_done st)) rfl
    · exact keeps (a := .slotOn) rfl nofun (ons.trans (orderOn_rejected st)) rfl
    · refine moves (a := .slotOff) rfl nofun (offs.trans (orderOff_off st)) rfl ?_ rfl fun x y z _ e => ?_
      · simp only [Bay.powered]
        rw [st]
        rfl
      · rw [e]
        exact ⟨st, rfl, rfl⟩
    · refine moves (a := .slotOff) rfl nofun (offs.trans (orderOff_ramp st)) rfl rfl rfl fun x y z _ e => ?_
      rw [e]
      exact ⟨rfl, Seq.cut_gate .., rfl, rfl⟩
    · refine moves (a := .slotOff) rfl nofun (offs.trans (orderOff_waiting st)) rfl rfl rfl fun x y z _ e => ?_
      rw [e]
      exact ⟨rfl, rfl, rfl, by simp [Bay.toOff, Bay.enter], rfl, rfl⟩
    · exact keeps (a := .slotOff) rfl nofun (offs.trans (orderOff_done st)) rfl
    · exact keeps (a := .slotOff) rfl nofun (offs.trans (orderOff_rejected st)) rfl
    · intro stops
      refine ⟨fun st => ⟨?_, ?_⟩, fun st valid a hl p => ⟨?_, ?_⟩, fun st => ?_, fun st => ?_, fun st a => ?_,
        fun st a => ?_, fun l k => ?_⟩
      · exact order_stops (a := .slotOff) ready nofun (offs.trans (orderOff_running st))
      · exact order_stops (a := .slotCycle) ready nofun (cycles.trans (orderCycle_running st))
      · refine drains (a := .slotOff) rfl nofun (offs.trans (orderOff_running st))
          (toDraining_steady (s := countGood s) st valid a hl p _ _ _ _) rfl fun x e => ?_
        rw [e, toDraining_sets]
        exact ⟨rfl, rfl, rfl, rfl, rfl, rfl⟩
      · refine drains (a := .slotCycle) rfl nofun (cycles.trans (orderCycle_running st))
          (toDraining_steady (s := countGood s) st valid a hl p _ _ _ _) rfl fun x e => ?_
        rw [e, toDraining_sets]
        exact ⟨rfl, rfl, rfl, rfl, rfl⟩
      · exact keeps (a := .slotCycle) rfl nofun (cycles.trans (orderCycle_rejected st)) rfl
      · refine moves (a := .clearLatch) rfl nofun (clears.trans (orderClearLatch_latched st)) rfl rfl rfl fun x y z _ e => ?_
        rw [e]
        exact ⟨rfl, rfl, rfl⟩
      · exact keeps (a := .clearLatch) rfl nofun (clears.trans (orderClearLatch_high st a)) rfl
      · have release := clears.trans (orderClearLatch_released st a)
        refine ⟨fun p r => ?_, fun p r => ?_, fun p => ?_⟩
        · refine moves (a := .clearLatch) rfl nofun release (release_filed p r) rfl rfl fun x y z _ e => ?_
          have st : x.seq.state = .off := by rw [e]; rfl
          exact ⟨st, by rw [e]; rfl, charge_of_zero (by rw [st]; decide)⟩
        · refine moves (a := .clearLatch) rfl nofun release (release_bare p r) rfl rfl fun x y z k e => ?_
          have st : x.seq.state = .identify := by rw [e]; rfl
          exact ⟨st, by rw [e], by rw [e]; rfl, charge_of_zero (by rw [st]; decide),
            k.inventory.trans (queueInventory_release _)⟩
        · refine moves (a := .clearLatch) rfl nofun release (release_gone p) rfl rfl fun x y z _ e => ?_
          have st : x.seq.state = .empty := by rw [e]; rfl
          exact ⟨st, by rw [e], by rw [e]; rfl, charge_of_zero (by rw [st]; decide)⟩
      · exact keeps (a := .clearLatch) rfl nofun (clears.trans (orderClearLatch_done l k)) rfl

end Sys2Proof.Machine

end

section
/-! PROOF. The setting orders: what they make of the slot's ceilings, its pending setting and its entry. -/

namespace Sys2Proof.Machine

/-! ### An entry that has left the queue -/

theorem Budget.NoReturn.of_same {a b : Budget} (q : b.queue = a.queue) (n : b.nextArrival = a.nextArrival) : a.NoReturn b :=
  fun _ out early => ⟨q ▸ out, n ▸ early⟩

theorem Budget.NoReturn.trans {a b c : Budget} (h : a.NoReturn b) (k : b.NoReturn c) : a.NoReturn c := fun e out early =>
  let ⟨out', early'⟩ := h e out early
  k e out' early'

theorem offerClaim_noReturn (e : Entry) (s : State) : s.budget.NoReturn (offerClaim e s).budget := by
  simp only [offerClaim]
  split <;> exact .of_same rfl rfl

theorem Move.noReturn {v w : Work} (m : Move v w) : v.st.budget.NoReturn w.st.budget := by
  cases m with
  | refigure =>
    exact .of_same (by simp only [map_st, Machine.refigure]; split <;> rfl)
      (by simp only [map_st, Machine.refigure]; split <;> rfl)
  | budget b h =>
    obtain ⟨noReturn, -⟩ := h
    exact noReturn
  | claim e _ => exact offerClaim_noReturn e v.st
  | unclaim =>
    exact .of_same (by simp only [map_st, withdrawClaim]; split <;> rfl) (by simp only [map_st, withdrawClaim]; split <;> rfl)
  | deficit => exact .of_same rfl rfl
  | bay i f _ => rw [modBay_budget]; exact .of_same rfl rfl
  | settle => exact .of_same rfl rfl

theorem Step.noReturn {v w : Work} (m : Step v w) : v.st.budget.NoReturn w.st.budget := by
  cases m with
  | move h => exact h.noReturn
  | entered s i l =>
    exact .of_same (congrArg Budget.queue (takeEntered_budget i s)) (congrArg Budget.nextArrival (takeEntered_budget i s))
  | left s i l =>
    exact .of_same (congrArg Budget.queue (endPorts_budget i s)) (congrArg Budget.nextArrival (endPorts_budget i s))
  | charge => exact .of_same rfl rfl
  | check | admission | settle => exact .of_same rfl rfl

theorem flush_noReturn (w : Work) : w.st.budget.NoReturn (flush w).st.budget :=
  (flush_steps w).rel (R := fun v w => v.st.budget.NoReturn w.st.budget) (fun _ => .of_same rfl rfl)
    (fun _ _ _ => .trans) fun _ _ => Step.noReturn

theorem finish_noReturn (w : Work) : w.st.budget.NoReturn (finish w).budget := flush_noReturn w

/-! ### An operator ceiling in force -/

/-- Slot `i` has no pending setting, and `x` is its operator ceiling. -/
structure InForce (i : SlotIx) (x : Option Nat) (s : State) : Prop where
  pending : s.bays[i].seq.pendingOp = none
  ceiling : s.bays[i].seq.opCeiling = x

theorem InForce.of_slots {i : SlotIx} {x : Option Nat} {s t : State} (h : InForce i x s) (k : SameSlots s t) : InForce i x t :=
  ⟨(congrArg Seq.pendingOp (k.seq i)).trans h.pending, (congrArg Seq.opCeiling (k.seq i)).trans h.ceiling⟩

theorem cut_operator (q : Seq) (now : Nat) : (q.cut now).pendingOp = q.pendingOp ∧ (q.cut now).opCeiling = q.opCeiling := by
  simp only [Seq.cut]
  split <;> exact ⟨rfl, rfl⟩

/-- No move of the recomputation changes an operator ceiling, but the settling of a pending setting. -/
theorem BayMove.operator {a b : Bay} (m : BayMove a b) (p : a.seq.pendingOp = none) :
    b.seq.pendingOp = none ∧ b.seq.opCeiling = a.seq.opCeiling := by
  cases m with
  | shedOff now c h =>
    obtain ⟨e, f⟩ := cut_operator a.seq now
    exact ⟨e.trans p, f⟩
  | settled =>
    have idle : a.settled = a := by simp only [Bay.settled, p]
    rw [idle]
    exact ⟨p, rfl⟩
  | capped | eject | figures | restored => exact ⟨p, rfl⟩

theorem Move.inForce {i : SlotIx} {x : Option Nat} {v w : Work} (m : Move v w) (h : InForce i x v.st) : InForce i x w.st := by
  cases m with
  | refigure => exact h.of_slots (.of_bays (refigure_bays _))
  | claim e _ => exact h.of_slots (.of_bays (by simp only [map_st, offerClaim]; split <;> rfl))
  | unclaim => exact h.of_slots (.of_bays (by simp only [map_st, withdrawClaim]; split <;> rfl))
  | bay j f m =>
    by_cases e : j = i
    · subst e
      obtain ⟨p, c⟩ := m.operator h.pending
      refine ⟨?_, ?_⟩ <;> rw [modBay_bay, capFollows_seq]
      · exact p
      · exact c.trans h.ceiling
    · exact ⟨by rw [modBay_other _ _ _ e]; exact h.pending, by rw [modBay_other _ _ _ e]; exact h.ceiling⟩
  | budget | deficit | settle => exact h.of_slots (.of_bays rfl)

theorem Step.inForce {i : SlotIx} {x : Option Nat} {v w : Work} (m : Step v w) (h : InForce i x v.st) : InForce i x w.st := by
  cases m with
  | move m => exact m.inForce h
  | entered s j l => exact h.of_slots (takeEntered_slots ..)
  | left s j l => exact h.of_slots (endPorts_slots j s)
  | charge | check | admission | settle => exact h.of_slots (.of_bays rfl)

theorem flush_inForce {i : SlotIx} {x : Option Nat} {w : Work} (h : InForce i x w.st) : InForce i x (flush w).st :=
  (flush_steps w).keeps (P := fun w => InForce i x w.st) (fun _ _ => Step.inForce) h

end Sys2Proof.Machine

end

section
/-! PROOF. Operator ceilings: the setting order's cases, and the settling of a pending setting. -/

namespace Sys2Proof.Machine

/-! ### A pending setting -/

/-- The station with `o` as slot `i`'s pending setting. -/
def withPending (i : SlotIx) (o : Option OperatorSetting) (s : State) : State :=
  setBay i (fun b => { b with seq := { b.seq with pendingOp := o } }) s

theorem setBay_setBay (i : SlotIx) (f g : Bay → Bay) (s : State) :
    setBay i g (setBay i f s) = setBay i (fun b => g (f b)) s := by
  simp only [setBay, updAt, Fin.getElem_fin, Vector.getElem_set_self, Vector.set_set]

theorem withPending_bay (i : SlotIx) (o : Option OperatorSetting) (s : State) :
    (withPending i o s).bays[i] = { s.bays[i] with seq := { s.bays[i].seq with pendingOp := o } } := updAt_self ..

theorem withPending_same {i : SlotIx} {s : State} (h : s.bays[i].seq.pendingOp = none) : withPending i none s = s :=
  setBay_same (by rw [← h])

theorem withPending_again (i : SlotIx) (o o' : Option OperatorSetting) (s : State) :
    withPending i o' (withPending i o s) = withPending i o' s := setBay_setBay ..

theorem withPending_only {i : SlotIx} {s u : State} (h : SlotOnly i s u) (o : Option OperatorSetting) :
    SlotOnly i s (withPending i o u) := h.set _

/-! ### The settling of a pending setting -/

section
variable {i : SlotIx} {w : Work}

theorem settlePending_idle (h : w.st.bays[i].seq.pendingOp = none ∨ w.st.bays[i].seq.shedCeiling.isSome = true) :
    settlePending i w = w := by
  simp only [settlePending]
  split
  · rfl
  · next o e =>
    obtain h | h := h
    · exact absurd (h.symm.trans e) nofun
    · rw [if_pos h]

variable {o : OperatorSetting} (p : w.st.bays[i].seq.pendingOp = some o) (n : w.st.bays[i].seq.shedCeiling = none)
include p n

theorem settlePending_free (c : needsClaim w.st.bays[i] o = false) : settlePending i w = modBay .fault i Bay.settled w := by
  simp only [settlePending, p, n, c, Option.isSome_none, Bool.false_eq_true, if_false]

theorem settlePending_waits (c : needsClaim w.st.bays[i] o = true) (e : (entryOf w.st i).isSome = true) :
    settlePending i w = w := by
  obtain ⟨x, e⟩ := Option.isSome_iff_exists.1 e
  simp only [settlePending, p, n, c, e, Option.isSome_none, Option.isNone_some, Bool.false_eq_true, if_false, if_true]

theorem settlePending_claims (c : needsClaim w.st.bays[i] o = true) (e : entryOf w.st i = none) :
    settlePending i w =
      w.map (handEntry i .operatorRaise ((w.st.bays[i].withOperator o).charge - w.st.bays[i].charge)) := by
  simp only [settlePending, p, n, c, e, Option.isSome_none, Option.isNone_none, Bool.false_eq_true, if_false, if_true]

end

theorem needsClaim_iff (b : Bay) (o : OperatorSetting) :
    needsClaim b o = true ↔ b.powered = true ∧ b.charge < (b.withOperator o).charge := by
  simp only [needsClaim, Bool.and_eq_true, decide_eq_true_eq]

/-! ### An earlier setting discarded -/

theorem discardSetting_plain {i : SlotIx} {w : Work} (h : ∀ e, entryOf w.st i = some e → e.purpose ≠ .operatorRaise) :
    discardSetting i w = w.map (withPending i none) := by
  have none : (entryOf (w.map (withPending i none)).st i).any (·.purpose == .operatorRaise) = false := by
    show (entryOf w.st i).any (·.purpose == .operatorRaise) = false
    cases e : entryOf w.st i with
    | none => rfl
    | some x => exact beq_false_of_ne (h x e)
  exact if_neg (ne_true_of_eq_false none)

theorem withdrawEntry_queue {i : SlotIx} {s : State} {e : Entry} (h : entryOf s i = some e) :
    e ∉ (withdrawEntry i s).budget.queue ∧ (withdrawEntry i s).budget.nextArrival = s.budget.nextArrival := by
  have left (t : State) (n : t.budget.nextArrival = s.budget.nextArrival) : e ∉ (recheck s (takeOut e t)).budget.queue ∧
      (recheck s (takeOut e t)).budget.nextArrival = s.budget.nextArrival := by
    have gone : e ∉ (takeOut e t).budget.queue := fun m => by
      simpa only [bne_self_eq_false, Bool.false_eq_true] using (List.mem_filter.1 m).2
    simp only [recheck]
    split
    · obtain ⟨b, o, l, c⟩ := sendingCheck_eq (takeOut e t)
      rw [c]
      exact ⟨gone, n⟩
    · exact ⟨gone, n⟩
  simp only [withdrawEntry, h]
  refine left _ ?_
  split
  · simp only [withdrawClaim]
    split <;> rfl
  · rfl

/-- An operator-raise entry leaves the queue with its setting, and does not come back (R137). -/
theorem discardSetting_gone {i : SlotIx} {w : Work} {e : Entry} (h : entryOf w.st i = some e)
    (p : e.purpose = .operatorRaise) (l : e.arrival < w.st.budget.nextArrival) :
    e ∉ (discardSetting i w).st.budget.queue ∧ e.arrival < (discardSetting i w).st.budget.nextArrival := by
  have held : entryOf (w.map (withPending i none)).st i = some e := h
  have raise : (entryOf (w.map (withPending i none)).st i).any (·.purpose == .operatorRaise) = true := by
    rw [held]
    exact beq_iff_eq.2 p
  have step : discardSetting i w = flush (leaveQueue i (w.map (withPending i none))) := if_pos raise
  have leaves : leaveQueue i (w.map (withPending i none)) =
      ((w.map (withPending i none)).map (withdrawEntry i)).emit [.settle i] := by
    simp only [leaveQueue, held, Option.isSome_some, if_true]
  obtain ⟨out, next⟩ := withdrawEntry_queue held
  rw [step, leaves]
  exact flush_noReturn _ e out (next.symm ▸ l)

/-! ### The raise of a ceiling -/

theorem raiseSetting_noReturn (i : SlotIx) (o : OperatorSetting) (c : Bool) (w : Work) :
    w.st.budget.NoReturn (raiseSetting i o c w).1.st.budget := by
  simp only [raiseSetting]
  split
  · exact ((settlePending_moves i (w.map (withPending i (some o)))).rel
      (R := fun v w => v.st.budget.NoReturn w.st.budget) (fun _ => .of_same rfl rfl) (fun _ _ _ => .trans)
      fun _ _ => Move.noReturn)
  · rw [applySetting, modBay_budget]
    exact .of_same rfl rfl

section
variable {i : SlotIx} {o : OperatorSetting} {c : Bool} {w : Work}

/-- Where the slot holds a shed ceiling, a raise waits (R137). -/
theorem raiseSetting_shed (h : w.st.bays[i].seq.shedCeiling.isSome = true) :
    raiseSetting i o c w = (w.map (withPending i (some o)), .started) := by
  have bay : (w.map (withPending i (some o))).st.bays[i] = _ := withPending_bay i (some o) w.st
  have shed : (w.map (withPending i (some o))).st.bays[i].seq.shedCeiling.isSome = true := by rw [bay]; exact h
  have idle : keepSetting i o w = w.map (withPending i (some o)) := settlePending_idle (.inr shed)
  simp only [raiseSetting, h, Bool.true_or, if_true, idle]

theorem raiseSetting_free (h : w.st.bays[i].seq.shedCeiling = none) (n : needsClaim w.st.bays[i] o = false) :
    raiseSetting i o c w = (applySetting i o w, if c then .clamped else .done) := by
  simp only [raiseSetting, h, n, Option.isSome_none, Bool.or_false, Bool.false_eq_true, if_false]

/-- A raise that needs a claim waits, with an operator-raise entry handed where the slot has none (R137). -/
theorem raiseSetting_claims (h : w.st.bays[i].seq.shedCeiling = none) (n : needsClaim w.st.bays[i] o = true) :
    ((entryOf w.st i).isSome = true → raiseSetting i o c w = (w.map (withPending i (some o)), .started)) ∧
    (entryOf w.st i = none → raiseSetting i o c w = ((w.map (withPending i (some o))).map
      (handEntry i .operatorRaise ((w.st.bays[i].withOperator o).charge - w.st.bays[i].charge)), .started)) := by
  have bay : (w.map (withPending i (some o))).st.bays[i] = _ := withPending_bay i (some o) w.st
  have pending : (w.map (withPending i (some o))).st.bays[i].seq.pendingOp = some o := by rw [bay]
  have unshed : (w.map (withPending i (some o))).st.bays[i].seq.shedCeiling = none := by rw [bay]; exact h
  have claims : needsClaim (w.map (withPending i (some o))).st.bays[i] o = true := by rw [bay]; exact n
  have keeps : raiseSetting i o c w = (settlePending i (w.map (withPending i (some o))), .started) := by
    simp only [raiseSetting, n, Bool.or_true, if_true]
    rfl
  refine ⟨fun e => ?_, fun e => ?_⟩
  · rw [keeps, settlePending_waits pending unshed claims e]
  · rw [keeps, settlePending_claims pending unshed claims e, bay]
    rfl

end

end Sys2Proof.Machine

end

section
/-! PROOF. The setting orders. -/

namespace Sys2Proof.Machine

/-! ### An order that reports nothing, and one that sets the ceiling -/

/-- A slot action that reports nothing. -/
theorem act_leaves {s u : State} {h : OrderHead} {a : Action} {k v : Nat} {r : Result} (ready : OrderReady s h)
    (n : a ≠ .restart) (c : carryAction a k v ⟨countGood s, []⟩ = (⟨u, []⟩, r)) :
    order s h (orderOf h a [] (.act k v) []) = .next (settleFlags (offer (answerOf h.route.src r) u)) := by
  rw [order_act ready n k v, c, flush_done]
  exact congrArg _ (finish_done _)

/-- A slot action that puts an operator ceiling in force. -/
theorem act_inForce {s : State} {h : OrderHead} {a : Action} {i : SlotIx} {v : Nat} {w : Work} {r : Result}
    {x : Option Nat} (ready : OrderReady s h) (n : a ≠ .restart)
    (c : carryAction a i.val v ⟨countGood s, []⟩ = (w, r)) (only : SlotOnly i s w.st) (f : InForce i x w.st) :
    ∃ t, order s h (orderOf h a [] (.act i.val v) []) = .next t ∧ t.bays[i].seq.opCeiling = x ∧
      t.bays[i].seq.pendingOp = none ∧ Answered h.route.src [byteOf r.code] s t ∧ OrderKept i s t := by
  obtain ⟨-, answered, kept⟩ := only.answered h.route.src r
  have flushed := flush_inForce f
  have offered : InForce i x ((flush w).map (offer (answerOf h.route.src r))).st := ⟨flushed.pending, flushed.ceiling⟩
  have last := flush_inForce offered
  refine ⟨_, order_act ready n i.val v, ?_⟩
  rw [c]
  exact ⟨last.ceiling, last.pending, answered, kept⟩

/-- A slot action after which an entry has left the queue for good. -/
theorem act_gone {s : State} {h : OrderHead} {a : Action} {k v : Nat} {w : Work} {r : Result} {e : Entry}
    (ready : OrderReady s h) (n : a ≠ .restart) (c : carryAction a k v ⟨countGood s, []⟩ = (w, r))
    (out : e ∉ w.st.budget.queue ∧ e.arrival < w.st.budget.nextArrival) :
    ∃ t, order s h (orderOf h a [] (.act k v) []) = .next t ∧ e ∉ t.budget.queue := by
  obtain ⟨out, early⟩ := out
  obtain ⟨out, early⟩ := flush_noReturn w e out early
  refine ⟨_, order_act ready n k v, ?_⟩
  rw [c]
  exact (finish_noReturn ((flush w).map (offer (answerOf h.route.src r))) e out early).1

/-! ### SET CEILING and CLEAR CEILING -/

section
variable {i : SlotIx} {w : Work}

/-- The bay of a slot whose earlier setting has gone. -/
theorem discardSetting_bay (h : ∀ e, entryOf w.st i = some e → e.purpose ≠ .operatorRaise) :
    (discardSetting i w).st.bays[i] = { w.st.bays[i] with seq := { w.st.bays[i].seq with pendingOp := none } } := by
  rw [discardSetting_plain h]
  exact withPending_bay i none w.st

theorem orderSetCeiling_bare {v : Nat} (h : w.st.bays[i].seq.allowance = none) :
    orderSetCeiling i v w = (w, .rejected) := by
  simp only [orderSetCeiling, h, Option.isNone_none, if_true]

theorem orderClearCeiling_bare (h : w.st.bays[i].seq.allowance = none) : orderClearCeiling i w = (w, .rejected) := by
  simp only [orderClearCeiling, h, Option.isNone_none, if_true]

/-- SET CEILING of a slot with an allowance, on the figures as the discarding leaves them. -/
theorem orderSetCeiling_some {v : Nat} (h : w.st.bays[i].seq.allowance.isSome = true) :
    let t := discardSetting i w
    let q := t.st.bays[i].seq
    orderSetCeiling i v w =
      if q.opCeiling.any (· < max v (q.floor.getD 0)) then
        raiseSetting i (.figure (max v (q.floor.getD 0))) (v < q.floor.getD 0) t
      else (applySetting i (.figure (max v (q.floor.getD 0))) t, if v < q.floor.getD 0 then .clamped else .done) := by
  have some : w.st.bays[i].seq.allowance.isNone = false := by rw [Option.isNone_eq_false_iff]; exact h
  simp only [orderSetCeiling, some, Bool.false_eq_true, if_false]

/-- CLEAR CEILING of a slot with an allowance and an operator ceiling. -/
theorem orderClearCeiling_raises (h : w.st.bays[i].seq.allowance.isSome = true)
    (c : w.st.bays[i].seq.opCeiling.isSome = true) :
    orderClearCeiling i w = raiseSetting i .removal false (discardSetting i w) := by
  have some : w.st.bays[i].seq.allowance.isNone = false := by rw [Option.isNone_eq_false_iff]; exact h
  simp only [orderClearCeiling, some, c, Bool.false_eq_true, if_false, if_true]

theorem orderClearCeiling_pending (h : w.st.bays[i].seq.allowance.isSome = true) (c : w.st.bays[i].seq.opCeiling = none)
    (p : w.st.bays[i].seq.pendingOp.isSome = true) : orderClearCeiling i w = (discardSetting i w, .done) := by
  have some : w.st.bays[i].seq.allowance.isNone = false := by rw [Option.isNone_eq_false_iff]; exact h
  simp only [orderClearCeiling, some, c, p, Option.isSome_none, Bool.false_eq_true, if_false, if_true]

theorem orderClearCeiling_idle (h : w.st.bays[i].seq.allowance.isSome = true) (c : w.st.bays[i].seq.opCeiling = none)
    (p : w.st.bays[i].seq.pendingOp = none) : orderClearCeiling i w = (w, .done) := by
  have some : w.st.bays[i].seq.allowance.isNone = false := by rw [Option.isNone_eq_false_iff]; exact h
  simp only [orderClearCeiling, some, c, p, Option.isSome_none, Bool.false_eq_true, if_false]

end

/-- What a slot action does with a setting that leaves the figure `figure`: applied at once, or taken as a raise. -/
structure SettingOrder (s : State) (i : SlotIx) (a : Action) (v : Nat) (o : OperatorSetting) (figure : Option Nat)
    (clamped : Bool) (raise : Prop) : Prop where
  figure : settingCeiling s.bays[i] o = figure
  applies : ¬raise → carryAction a i.val v ⟨countGood s, []⟩ =
    (applySetting i o ⟨withPending i none (countGood s), []⟩, if clamped then .clamped else .done)
  raises : raise → carryAction a i.val v ⟨countGood s, []⟩ =
    raiseSetting i o clamped ⟨withPending i none (countGood s), []⟩

theorem setCeiling_setting {s : State} {i : SlotIx} {v : Nat} (fit : s.bays[i].fitted = true)
    (a : s.bays[i].seq.allowance.isSome = true)
    (h : ∀ e, entryOf s i = some e → e.purpose ≠ .operatorRaise) :
    let f := max v (s.bays[i].seq.floor.getD 0)
    SettingOrder s i .setCeiling v (.figure f) (some f) (v < s.bays[i].seq.floor.getD 0)
      (∃ x, s.bays[i].seq.opCeiling = some x ∧ ∀ y, some f = some y → x < y) := by
  intro f
  have plain : discardSetting i ⟨countGood s, []⟩ = ⟨withPending i none (countGood s), []⟩ := discardSetting_plain h
  have bay : (withPending i none (countGood s)).bays[i] = _ := withPending_bay i none (countGood s)
  have carry : carryAction .setCeiling i.val v ⟨countGood s, []⟩ = orderSetCeiling i v ⟨countGood s, []⟩ :=
    onSlot_fitted fit _
  have eq := orderSetCeiling_some (w := ⟨countGood s, []⟩) (v := v) a
  rw [plain] at eq
  dsimp only at eq
  rw [bay] at eq
  have any : s.bays[i].seq.opCeiling.any (· < f) = true ↔
      ∃ x, s.bays[i].seq.opCeiling = some x ∧ ∀ y, some f = some y → x < y := by
    cases s.bays[i].seq.opCeiling <;> simp
  refine ⟨?_, fun n => carry.trans (eq.trans ((if_neg fun m => n (any.1 m)).trans ?_)),
    fun r => carry.trans (eq.trans (if_pos (any.2 r)))⟩
  · exact congrArg some (by rw [Nat.max_assoc, Nat.max_self])
  · simp only [decide_eq_true_eq]
    rfl

theorem clearCeiling_setting {s : State} {i : SlotIx} {v : Nat} (fit : s.bays[i].fitted = true)
    (a : s.bays[i].seq.allowance.isSome = true) (c : s.bays[i].seq.opCeiling.isSome = true)
    (h : ∀ e, entryOf s i = some e → e.purpose ≠ .operatorRaise) :
    SettingOrder s i .clearCeiling v .removal none false
      (∃ x, s.bays[i].seq.opCeiling = some x ∧ ∀ y, (none : Option Nat) = some y → x < y) := by
  have plain : discardSetting i ⟨countGood s, []⟩ = ⟨withPending i none (countGood s), []⟩ := discardSetting_plain h
  have carry : carryAction .clearCeiling i.val v ⟨countGood s, []⟩ = orderClearCeiling i ⟨countGood s, []⟩ :=
    onSlot_fitted fit _
  obtain ⟨x, e⟩ := Option.isSome_iff_exists.1 c
  refine ⟨rfl, fun n => absurd ⟨x, e, nofun⟩ n, fun _ => ?_⟩
  rw [carry, orderClearCeiling_raises a c, plain]

section
variable {s : State} {h : OrderHead} {i : SlotIx} {a : Action} {v : Nat} {o : OperatorSetting} {figure : Option Nat}
  {clamped : Bool} {raise : Prop}

/-- A setting applied at once is in force. -/
theorem setting_sets (ready : OrderReady s h) (n : a ≠ .restart) (f : settingCeiling s.bays[i] o = figure)
    (c : carryAction a i.val v ⟨countGood s, []⟩ =
      (applySetting i o ⟨withPending i none (countGood s), []⟩, if clamped then .clamped else .done)) :
    ∃ t, order s h (orderOf h a [] (.act i.val v) []) = .next t ∧ t.bays[i].seq.opCeiling = figure ∧
      t.bays[i].seq.pendingOp = none ∧ Answered h.route.src [if clamped then 3 else 0] s t ∧ OrderKept i s t := by
  have bay : (withPending i none (countGood s)).bays[i] = _ := withPending_bay i none (countGood s)
  have only : SlotOnly i s (applySetting i o ⟨withPending i none (countGood s), []⟩).st :=
    .mod (w := ⟨withPending i none (countGood s), []⟩) (withPending_only (.counted i s) none) _ _
  have inForce : InForce i figure (applySetting i o ⟨withPending i none (countGood s), []⟩).st := by
    subst f
    refine ⟨?_, ?_⟩ <;> rw [applySetting, modBay_bay, capFollows_seq, bay] <;> rfl
  have done := act_inForce ready n c only inForce
  cases clamped <;> exact done

theorem setting_raise_free (c : SettingOrder s i a v o figure clamped raise) (r : raise)
    (shed : s.bays[i].seq.shedCeiling = none) (free : needsClaim s.bays[i] o = false) :
    carryAction a i.val v ⟨countGood s, []⟩ =
      (applySetting i o ⟨withPending i none (countGood s), []⟩, if clamped then .clamped else .done) := by
  have bay : (withPending i none (countGood s)).bays[i] = _ := withPending_bay i none (countGood s)
  exact (c.raises r).trans (raiseSetting_free (by rw [bay]; exact shed) (by rw [bay]; exact free))

variable (ready : OrderReady s h) (n : a ≠ .restart) (c : SettingOrder s i a v o figure clamped raise)
include ready n c

theorem setting_raise_waits (r : raise) (shed : s.bays[i].seq.shedCeiling.isSome = true) :
    order s h (orderOf h a [] (.act i.val v) []) =
      .next (settleFlags (offer (answerOf h.route.src .started) (withPending i (some o) (countGood s)))) := by
  have bay : (withPending i none (countGood s)).bays[i] = _ := withPending_bay i none (countGood s)
  refine act_leaves ready n ((c.raises r).trans ?_)
  rw [raiseSetting_shed (by rw [bay]; exact shed)]
  simp only [Work.map, withPending_again]

theorem setting_raise_claims (r : raise) (shed : s.bays[i].seq.shedCeiling = none) (claims : needsClaim s.bays[i] o = true) :
    ((entryOf s i).isSome = true → order s h (orderOf h a [] (.act i.val v) []) =
      .next (settleFlags (offer (answerOf h.route.src .started) (withPending i (some o) (countGood s))))) ∧
    (entryOf s i = none → order s h (orderOf h a [] (.act i.val v) []) =
      .next (settleFlags (offer (answerOf h.route.src .started) (handEntry i .operatorRaise
        ((s.bays[i].withOperator o).charge - s.bays[i].charge) (withPending i (some o) (countGood s)))))) := by
  have bay : (withPending i none (countGood s)).bays[i] = _ := withPending_bay i none (countGood s)
  obtain ⟨waits, hands⟩ := raiseSetting_claims (i := i) (o := o) (c := clamped) (w := ⟨withPending i none (countGood s), []⟩)
    (by rw [bay]; exact shed) (by rw [bay]; exact claims)
  refine ⟨fun e => act_leaves ready n ((c.raises r).trans ?_), fun e => act_leaves ready n ((c.raises r).trans ?_)⟩
  · rw [waits e]
    simp only [Work.map, withPending_again]
  · rw [hands e, bay]
    simp only [Work.map, withPending_again]
    rfl

end

end Sys2Proof.Machine

end

section
/-! PROOF. The setting orders' statement. -/

namespace Sys2Proof.Machine

/-- A change of the active ceiling in RUNNING queues its cap write (R64, R80, R83). -/
theorem capFollows_moved {now : Nat} {a b : Bay} (r : a.seq.state = .running) (k : b.seq.state = .running)
    (n : a.activeCeiling ≠ b.activeCeiling) :
    (capFollows now a b).activeCeiling = b.activeCeiling ∧
      (capFollows now a b).link.cap = some ⟨(capFollows now a b).activeCeiling, .writing, 0⟩ ∧
      (capFollows now a b).link.hold = .running (now + 1000) := by
  have moves : (a.seq.state == .running && b.seq.state == .running && a.activeCeiling != b.activeCeiling) = true := by
    rw [r, k, bne_iff_ne.2 n]
    rfl
  have same := activeCeiling_congr (capFollows_seq now a b)
  refine ⟨same, ?_⟩
  rw [same, capFollows, if_pos moves]
  exact ⟨rfl, rfl⟩

theorem settle_reported (o : StepOrder) (i : SlotIx) (f : Bay → Bay) (w : Work)
    (h : (f w.st.bays[i]).link.held.isSome = true ∨ (f w.st.bays[i]).seq.pendingOp.isSome = true) :
    .settle i ∈ (modBay o i f w).reports := by
  rw [modBay_reports]
  refine List.mem_append_right _ ((mem_reportsOf ..).2 (.inr (.inr (.inr (.inr ?_)))))
  rw [settleReport, capFollows_held, capFollows_seq, if_pos (Bool.or_eq_true_iff.2 h)]
  exact .head _

theorem modBay_congr {o : StepOrder} {i : SlotIx} {f g : Bay → Bay} {w : Work} (h : f w.st.bays[i] = g w.st.bays[i]) :
    modBay o i f w = modBay o i g w := by
  simp only [modBay, h]

/-- REIDENTIFY is taken by the states of R87. -/
theorem mayReidentify_iff (b : Bay) : b.mayReidentify = true ↔
    b.link.inventory = none ∧ (b.seq.state ∈ [SlotState.off, .retryWait, .latched] ∨
      (b.seq.state = .running ∧ b.seq.adopted = false) ∨ (b.seq.state = .stuck ∧ b.seq.presence = true)) := by
  simp only [Bay.mayReidentify, Bool.and_eq_true, Option.isNone_iff_eq_none]
  cases b.seq.state <;> simp

theorem orderReidentify_taken {i : SlotIx} {s : State} (h : s.bays[i].mayReidentify = true) :
    orderReidentify i ⟨countGood s, []⟩ = (⟨setBay i (fun b => { b with link := { b.link with
      inventory := some ⟨.reidentify, 0, 0, []⟩ } }) (countGood s), []⟩, .started) := by
  have free : s.bays[i].link.inventory = none := ((mayReidentify_iff _).1 h).1
  refine (if_pos h).trans (Prod.ext (congrArg (Work.mk · []) (setBay_congr ?_)) rfl)
  show ({ s.bays[i] with link := s.bays[i].link.queueInventory .reidentify } : Bay) = _
  simp only [Link.queueInventory, free]
  rfl

section
variable {i : SlotIx} {v : Nat} {s : State} {e : Entry}

theorem orderSetCeiling_gone (a : s.bays[i].seq.allowance.isSome = true) (h : entryOf s i = some e)
    (p : e.purpose = .operatorRaise) (l : e.arrival < s.budget.nextArrival) :
    let w := (orderSetCeiling i v ⟨countGood s, []⟩).1
    e ∉ w.st.budget.queue ∧ e.arrival < w.st.budget.nextArrival := by
  obtain ⟨out, early⟩ := discardSetting_gone (w := ⟨countGood s, []⟩) h p l
  rw [orderSetCeiling_some (w := ⟨countGood s, []⟩) a]
  dsimp only
  split
  · exact raiseSetting_noReturn i _ _ _ e out early
  · rw [applySetting, modBay_budget]
    exact ⟨out, early⟩

theorem orderClearCeiling_gone (a : s.bays[i].seq.allowance.isSome = true) (h : entryOf s i = some e)
    (p : e.purpose = .operatorRaise) (l : e.arrival < s.budget.nextArrival)
    (c : s.bays[i].seq.opCeiling.isSome = true ∨ s.bays[i].seq.pendingOp.isSome = true) :
    let w := (orderClearCeiling i ⟨countGood s, []⟩).1
    e ∉ w.st.budget.queue ∧ e.arrival < w.st.budget.nextArrival := by
  obtain ⟨out, early⟩ := discardSetting_gone (w := ⟨countGood s, []⟩) h p l
  by_cases o : s.bays[i].seq.opCeiling.isSome = true
  · rw [orderClearCeiling_raises (w := ⟨countGood s, []⟩) a o]
    exact raiseSetting_noReturn i _ _ _ e out early
  · rw [orderClearCeiling_pending (w := ⟨countGood s, []⟩) a (Option.not_isSome_iff_eq_none.1 o) (c.resolve_left o)]
    exact ⟨out, early⟩

end

/-- A setting applied at once to an unpowered slot with no pending setting. -/
theorem setting_exact {s : State} {h : OrderHead} {i : SlotIx} {a : Action} {v : Nat} {o : OperatorSetting}
    {figure : Option Nat} {clamped : Bool} (ready : OrderReady s h) (n : a ≠ .restart)
    (f : settingCeiling s.bays[i] o = figure) (c : carryAction a i.val v ⟨countGood s, []⟩ =
      (applySetting i o ⟨withPending i none (countGood s), []⟩, if clamped then .clamped else .done))
    (u : s.bays[i].powered = false) (p : s.bays[i].seq.pendingOp = none) :
    ∃ t, order s h (orderOf h a [] (.act i.val v) []) = .next t ∧
      t.bays[i].seq = { s.bays[i].seq with opCeiling := figure } ∧
      Answered h.route.src [if clamped then 3 else 0] s t ∧ OrderKept i s t := by
  rw [withPending_same (s := countGood s) p] at c
  have seq : (applySetting i o ⟨countGood s, []⟩).st.bays[i].seq = { s.bays[i].seq with opCeiling := figure } := by
    subst f
    rw [applySetting, modBay_bay, capFollows_seq]
    rfl
  have unpowered : (applySetting i o ⟨countGood s, []⟩).st.bays[i].powered = false := by
    rw [Bay.powered, seq]
    exact u
  have done := act_does (f := fun b => b.seq = { s.bays[i].seq with opCeiling := figure }) ready n c
    (.mod (w := ⟨countGood s, []⟩) (.counted i s) _ _)
    fun x k => ((k.unpowered unpowered).1 (by rw [seq]; exact p)).trans seq
  cases clamped <;> exact done

/-- Settles O38: the setting orders by the slot's ceilings, and what settles a pending setting. -/
theorem settingOrdersSetTheSlot : Obligations.SettingOrdersSetTheSlot := by
  refine ⟨fun s h i v ready fit u p shed e => ?_, fun o i f w r k n => ?_, fun o i f w => settle_reported o i f w,
    fun w i => ⟨rfl, settlePending_idle, fun o p n => ?_⟩, fun s h i v ready fit => ?_⟩
  · intro q done
    have noRaise (e' : Entry) (m : entryOf s i = some e') : e'.purpose ≠ .operatorRaise := absurd (m.symm.trans e) nofun
    have free (o : OperatorSetting) : needsClaim s.bays[i] o = false := by
      rw [needsClaim, u, Bool.false_and]
    have does {c : Instr} {a : Action} {k : Byte} {w : Work} {r : Result} {f : Bay → Prop}
        (row : exec c s = order s h (orderOf h a [] (.act i.val v) [])) (n : a ≠ .restart)
        (carry : carryAction a i.val v ⟨countGood s, []⟩ = (w, r)) (only : SlotOnly i s w.st) (code : byteOf r.code = k)
        (p : ∀ x, BayKept w.st.bays[i] x → f x) : done c k f := by
      obtain ⟨t, e, rest⟩ := act_does (f := f) ready n carry only p
      exact ⟨t, row.trans e, code ▸ rest⟩
    have sets {c : Instr} {a : Action} {o : OperatorSetting} {figure : Option Nat} {clamped : Bool} {raise : Prop}
        (row : exec c s = order s h (orderOf h a [] (.act i.val v) [])) (n : a ≠ .restart)
        (setting : SettingOrder s i a v o figure clamped raise) :
        done c (if clamped then 3 else 0) fun b => b.seq = { q with opCeiling := figure } := by
      obtain ⟨t, e, rest⟩ : ∃ t, order s h (orderOf h a [] (.act i.val v) []) = .next t ∧ _ := by
        by_cases r : raise
        · exact setting_exact ready n setting.figure (setting_raise_free setting r shed (free o)) u p
        · exact setting_exact ready n setting.figure (setting.applies r) u p
      exact ⟨t, row.trans e, rest⟩
    clear_value done
    refine ⟨fun a => ⟨?_, ?_⟩, fun st none => ?_, ?_, ?_⟩
    · have set := sets (c := .setCeiling h [] (.act i.val v) []) rfl nofun (setCeiling_setting (v := v) fit a noRaise)
      simpa only [decide_eq_true_eq] using set
    · by_cases c : s.bays[i].seq.opCeiling.isSome = true
      · exact sets (c := .clearCeiling h [] (.act i.val v) []) rfl nofun (clearCeiling_setting (v := v) fit a c noRaise)
      · have bare := Option.not_isSome_iff_eq_none.1 c
        have idle := (onSlot_fitted fit orderClearCeiling).trans (orderClearCeiling_idle (w := ⟨countGood s, []⟩) a bare p)
        refine does (a := .clearCeiling) rfl nofun idle (.counted i s) rfl fun x k => ?_
        rw [(k.unpowered u).1 p, ← bare]
        rfl
    · have may : s.bays[i].mayReidentify = true := (mayReidentify_iff _).2 ⟨none, .inl (by rw [st]; decide)⟩
      refine does (a := .reidentify) rfl nofun ((onSlot_fitted fit orderReidentify).trans (orderReidentify_taken may))
        (.set (.counted i s) _) rfl fun x k => ?_
      simp only [setBay_bays, updAt_self] at k
      exact ⟨(k.unpowered u).1 p, k.inventory⟩
    · refine does (a := .clearPeaks) rfl nofun (onSlot_fitted fit orderClearPeaks) (.set (.counted i s) _) rfl fun x k => ?_
      simp only [map_st, setBay_bays, updAt_self] at k
      exact ⟨(k.unpowered u).1 p, k.meter⟩
    · have plain : changePriority i (min v 7) (countGood s) =
          setBay i (fun b => { b with seq := { b.seq with priority := min v 7 } }) (countGood s) := by
        have same : entryOf (setBay i (fun b => { b with seq := { b.seq with priority := min v 7 } }) (countGood s)) i = none :=
          e
        simp only [changePriority, same]
      have acts : orderPriority i v ⟨countGood s, []⟩ = (⟨setBay i
          (fun b => { b with seq := { b.seq with priority := min v 7 } }) (countGood s), []⟩,
            if 7 < v then .clamped else .done) := by
        rw [← plain]
        rfl
      refine does (a := .setPriority) rfl nofun ((onSlot_fitted fit fun i => orderPriority i v).trans acts)
        (.set (.counted i s) _) (by split <;> rfl) fun x k => ?_
      simp only [setBay_bays, updAt_self] at k
      exact (k.unpowered u).1 p
  · obtain ⟨x, y, z⟩ := capFollows_moved (now := w.st.now) r k n
    rw [modBay_bay]
    exact ⟨x, y, z⟩
  · intro after claims
    have settled : w.st.bays[i].settled = after := by
      simp only [Bay.settled, p]
      cases o <;> rfl
    have charges : claims ↔ needsClaim w.st.bays[i] o = true := by
      rw [needsClaim_iff]
      cases o <;> exact Iff.rfl
    refine ⟨fun c => ?_, fun c e => settlePending_waits p n (charges.1 c) e, fun c e => ?_⟩
    · rw [settlePending_free p n (Bool.eq_false_of_not_eq_true fun x => c (charges.2 x))]
      exact modBay_congr settled
    · rw [settlePending_claims p n (charges.1 c) e]
      cases o <;> rfl
  · intro b q set clear u leaves waits taken
    have leavesOf {c : Instr} {a : Action} {k : Byte} {r : Result} {x : State}
        (row : exec c s = order s h (orderOf h a [] (.act i.val v) [])) (n : a ≠ .restart)
        (carry : carryAction a i.val v ⟨u, []⟩ = (⟨x, []⟩, r)) (code : byteOf r.code = k) : leaves c k x :=
      code ▸ row.trans (act_leaves ready n carry)
    have sets := onSlot_fitted fit (fun i => orderSetCeiling i v)
    have clears := onSlot_fitted fit orderClearCeiling
    have reads := onSlot_fitted fit orderReidentify
    refine ⟨?_, ?_, fun t => ?_, fun n => ?_, fun a => ⟨?_, ?_⟩, fun a => ⟨fun e held p l => ⟨?_, fun c => ?_⟩, fun c p => ?_,
      fun noRaise => ⟨fun c p => ?_, fun c o figure code shape => ?_⟩⟩⟩
    · exact leavesOf (a := .clearPeaks) rfl nofun (onSlot_fitted fit orderClearPeaks) rfl
    · exact leavesOf (a := .setPriority) rfl nofun (onSlot_fitted fit fun i => orderPriority i v) (by split <;> rfl)
    · exact leavesOf (a := .reidentify) rfl nofun (reads.trans (orderReidentify_taken ((mayReidentify_iff _).2 t))) rfl
    · have refused : orderReidentify i ⟨u, []⟩ = (⟨u, []⟩, .rejected) := if_neg fun m => n ((mayReidentify_iff _).1 m)
      exact leavesOf (a := .reidentify) rfl nofun (reads.trans refused) rfl
    · exact leavesOf (a := .setCeiling) rfl nofun (sets.trans (orderSetCeiling_bare a)) rfl
    · exact leavesOf (a := .clearCeiling) rfl nofun (clears.trans (orderClearCeiling_bare a)) rfl
    · exact act_gone (a := .setCeiling) ready nofun sets (orderSetCeiling_gone a held p l)
    · exact act_gone (a := .clearCeiling) ready nofun clears (orderClearCeiling_gone a held p l c)
    · exact leavesOf (a := .clearCeiling) rfl nofun (clears.trans (orderClearCeiling_idle (w := ⟨u, []⟩) a c p)) rfl
    · have plain : discardSetting i ⟨u, []⟩ = ⟨waits none, []⟩ := discardSetting_plain noRaise
      have drops : orderClearCeiling i ⟨u, []⟩ = (⟨waits none, []⟩, .done) := by
        rw [orderClearCeiling_pending (w := ⟨u, []⟩) a c p, plain]
      exact leavesOf (a := .clearCeiling) rfl nofun (clears.trans drops) rfl
    · intro raise after doesSet
      have order : ∃ a clamped, exec c s = order s h (orderOf h a [] (.act i.val v) []) ∧ a ≠ .restart ∧
          SettingOrder s i a v o figure clamped raise ∧ code = if clamped then 3 else 0 := by
        obtain ⟨rfl, rfl, rfl, rfl⟩ | ⟨rfl, rfl, rfl, rfl, some⟩ := shape
        · exact ⟨.setCeiling, _, rfl, nofun, setCeiling_setting fit a noRaise, by simp only [decide_eq_true_eq]; rfl⟩
        · exact ⟨.clearCeiling, false, rfl, nofun, clearCeiling_setting fit a some noRaise, rfl⟩
      obtain ⟨act, clamped, row, n, setting, rfl⟩ := order
      have same : b.withOperator o = after := by simp only [Bay.withOperator, b, setting.figure]; rfl
      have inForce (carry : carryAction act i.val v ⟨u, []⟩ =
          (applySetting i o ⟨withPending i none u, []⟩, if clamped then .clamped else .done)) : doesSet := by
        obtain ⟨t, e, rest⟩ := setting_sets ready n setting.figure carry
        exact ⟨t, row.trans e, rest⟩
      refine ⟨fun r => inForce (setting.applies r), fun r shed => row.trans (setting_raise_waits ready n setting r shed),
        fun r shed free => inForce (setting_raise_free setting r shed ?_), fun r shed on more => ?_⟩
      · exact Bool.eq_false_of_not_eq_true fun m => free (same ▸ (needsClaim_iff _ _).1 m)
      · have claims : needsClaim b o = true := (needsClaim_iff _ _).2 ⟨on, same.symm ▸ more⟩
        obtain ⟨waits, hands⟩ := setting_raise_claims ready n setting r shed claims
        refine ⟨fun e => row.trans (waits e), fun e => row.trans ((hands e).trans ?_)⟩
        rw [show s.bays[i].withOperator o = after from same]
        rfl

end Sys2Proof.Machine

end

section
/-! PROOF. The orders to the station: FORGET STATION, CLEAR ATTENTION and RESTART. -/

namespace Sys2Proof.Machine

/-! ### FORGET STATION -/

theorem Steps.noEntry {v w : Work} (m : Steps v w) (n : v.noEntry) : w.noEntry :=
  m.keeps (fun _ _ k n => (k.falls n).2) n

/-- A notification, an ANSWER behind its reports, and what is then still to be delivered. -/
theorem notify_answer_behind (u : State) (dst : Addr) (r : Result) :
    Behind u (finish ((flush (notifyUnits ⟨u, []⟩)).map (offer (answerOf dst r)))) := by
  have steps : Steps (Work.map deriveTargets ⟨u, []⟩) (flush (notifyUnits ⟨u, []⟩)) :=
    (recompute_moves _).steps.trans (flush_steps _)
  have quiet : Work.noEntry (Work.map deriveTargets ⟨u, []⟩) := fun _ h => absurd h List.not_mem_nil
  have notified := (deriveTargets_falls u).trans (steps.falls quiet)
  have rest : Falls _ (flush ((flush (notifyUnits ⟨u, []⟩)).map (offer (answerOf dst r)))).st :=
    (flush_steps ((flush (notifyUnits ⟨u, []⟩)).map (offer (answerOf dst r)))).falls (steps.noEntry quiet)
  have falls := (notified.trans (offer_falls (m := answerOf dst r) (fun _ _ => rfl) _)).trans rest
  have k := (notifyUnits_kept ⟨u, []⟩).trans (flush_kept (notifyUnits ⟨u, []⟩))
  have l := finish_kept ((flush (notifyUnits ⟨u, []⟩)).map (offer (answerOf dst r)))
  exact ⟨l.peers.trans k.peers, l.owner.trans k.owner, falls.ports, falls.bids, falls.withdrawals⟩

theorem notify_answer_answered {s u : State} (b : u.bus.routine = s.bus.routine) (dst : Addr) (r : Result) :
    Answered dst [byteOf r.code] s (finish ((flush (notifyUnits ⟨u, []⟩)).map (offer (answerOf dst r)))) := by
  have k := (notifyUnits_kept ⟨u, []⟩).trans (flush_kept (notifyUnits ⟨u, []⟩))
  have l := finish_kept ((flush (notifyUnits ⟨u, []⟩)).map (offer (answerOf dst r)))
  exact answered_of_routine (k.bus.routine.trans b) l.bus.routine

/-- The station with the entry of `q` forgotten, and what waits for it unplaced. -/
def forgotten (q : Addr) (s : State) : State := ownerGone (ownerOf s) q (setPeer q (fun _ => Peer.fresh) s)

theorem forgetPeer_eq {q : Addr} {s : State} (h : s.peers[q].state ≠ .unknown) :
    forgetPeer q ⟨s, []⟩ = notifyUnits ⟨forgotten q s, []⟩ := if_neg (ne_true_of_eq_false (beq_false_of_ne h))

theorem orderForget_peer {q : Addr} {s : State} (n : q ≠ s.address) :
    orderForget q.val ⟨s, []⟩ = (forgetPeer q ⟨s, []⟩, .done) := by
  rw [orderForget, dif_pos q.isLt]
  exact if_neg n

theorem orderForget_own (s : State) : orderForget s.address.val ⟨s, []⟩ = (⟨s, []⟩, .rejected) := by
  rw [orderForget, dif_pos s.address.isLt]
  exact if_pos rfl

theorem forgotten_kept (q : Addr) (s : State) :
    Kept (setPeer q (fun _ => Peer.fresh) (countGood s)) (forgotten q (countGood s)) := ownerGone_kept ..

theorem forgotten_ports (q : Addr) (s : State) (i : SlotIx) (p : PortIx) :
    portOf (forgotten q (countGood s)) i p =
      if (portOf s i p).ownedBy (ownerOf s) q = true ∧ (portOf s i p).state.asks = true then
        { portOf s i p with state := .unplaced, timer := some (s.now + 10 * s.tst) }
      else portOf s i p := portOf_ownerGone ..

/-! ### RESTART -/

/-- The station that owes the restart of an ORDER. -/
def owing (s : State) : State := { countGood s with attention := { s.attention with restartOwed := true } }

/-- The ANSWER of a RESTART, whose send begins the restart. -/
def restartAnswer (dst : Addr) : Outgoing := .answer dst ⟨7, .ok, [1]⟩ true

theorem order_restart {s : State} {h : OrderHead} (ready : OrderReady s h) (n : s.attention.restartOwed = false) (k v : Nat) :
    order s h (orderOf h .restart [] (.act k v) []) = .next (
      if takes s.bus (restartAnswer h.route.src) = false then
        beginWarm (settleFlags (offer (restartAnswer h.route.src) (owing s)))
      else settleFlags (offer (restartAnswer h.route.src) (owing s))) := by
  have taken : orderTaken (countGood s) h.route.src (orderOf h .restart [] (.act k v) []) = true :=
    (orderTaken_iff ..).2 ⟨ready.operator, Nat.le_refl 1, Nat.le_add_left 1 3⟩
  have list : (orderOf h .restart [] (.act k v) []).actions = [⟨Action.restart.code, k, v⟩] := rfl
  have sample : sampleOf (countGood s) (orderOf h .restart [] (.act k v) []).cond = none := by
    rw [show (orderOf h .restart [] (.act k v) []).cond = h.cond from rfl, ready.unconditional]
    rfl
  have act : carryAction .restart k v ⟨countGood s, []⟩ = (⟨owing s, []⟩, .started) := rfl
  have owed : (countGood s).attention.restartOwed = false := n
  have restarting : restarts ⟨Action.restart.code, k, v⟩ .started = true := rfl
  have done : finish (Work.map (offer (restartAnswer h.route.src)) ⟨owing s, []⟩) =
      settleFlags (offer (restartAnswer h.route.src) (owing s)) := finish_done _
  rw [order_known ready.running ready.foreign ready.own (operatorRole_known ready.operator),
    orderOutcome_taken (w := ⟨countGood s, []⟩) taken]
  simp only [list, sample, listActions_act, act, owed, restarting, flush_done, Bool.not_false, Bool.and_true, true_and]
  rw [← done]
  rfl

/-! ### CLEAR ATTENTION -/

theorem clearFlags_live {s : State} (h : s.settings.lineMode = .live) : clearFlags s = s := by
  simp only [clearFlags, h]

/-- The flags that CLEAR ATTENTION keeps in LATCHED mode: those whose condition holds (R181). -/
theorem clearFlags_latched {s : State} (h : s.settings.lineMode = .latched) :
    ∃ l, clearFlags s = { s with attention := { s.attention with
      slots := l
      station := ⟨s.attention.station.deficit && (stationConditions s).deficit,
        s.attention.station.redundancyLost && (stationConditions s).redundancyLost,
        s.attention.station.fanFailed && (stationConditions s).fanFailed,
        s.attention.station.configMismatch && (stationConditions s).configMismatch,
        s.attention.station.startDefaults && (stationConditions s).startDefaults,
        s.attention.station.busFaults && (stationConditions s).busFaults⟩ } } ∧
      ∀ i : SlotIx, l[i] = keepHolding s.attention.slots[i] (slotConditions s.bays[i]) := by
  simp only [clearFlags, h]
  refine ⟨_, rfl, fun i => ?_⟩
  match i with
  | 0 | 1 | 2 | 3 => rfl

theorem settleFlags_owed (s : State) : (settleFlags s).attention.restartOwed = s.attention.restartOwed := by
  simp only [settleFlags]
  split <;> rfl

/-- In LATCHED mode the settling of the flags leaves them (R180), and so does the offer before it. -/
theorem settleFlags_latched {s : State} (h : s.settings.lineMode = .latched) (m : Outgoing) :
    (settleFlags (offer m s)).attention.station = s.attention.station ∧
      (settleFlags (offer m s)).attention.slots = s.attention.slots := by
  have l : (offer m s).settings.lineMode = .latched := h
  simp only [settleFlags, l]
  exact ⟨rfl, rfl⟩

/-- Settles O39: the entry forgotten and what waits at it, the flags kept, and the restart owed or begun. -/
theorem stationOrdersActOnTheStation : Obligations.StationOrdersActOnTheStation := by
  refine fun s h v ready => ⟨fun q n known => ?_, ?_, fun latched k => ?_, fun live k => ?_,
    fun idle k => ⟨fun room => ?_, fun full => ?_⟩⟩
  · have forgets : carryAction .forgetStation q.val v ⟨countGood s, []⟩ = (notifyUnits ⟨forgotten q (countGood s), []⟩, .done) := by
      refine (orderForget_peer (s := countGood s) n).trans ?_
      rw [forgetPeer_eq (s := countGood s) known]
    have kept := forgotten_kept q s
    have b := notify_answer_behind (forgotten q (countGood s)) h.route.src .done
    have run := order_act ready (a := .forgetStation) nofun q.val v
    rw [forgets] at run
    refine ⟨_, run, ?_⟩
    dsimp only
    refine ⟨b.peers.trans kept.peers, b.owner.trans kept.owner, notify_answer_answered kept.bus.routine h.route.src .done,
      fun i p => ⟨fun at' => ⟨?_, fun asks => ?_⟩, fun rest => ?_⟩⟩
    · exact b.falls.bids i p (ownerGone_bids ((ownedBy_iff ..).mpr at'))
    · refine (b.falls.ports i p).imp id fun x => ?_
      rw [x, forgotten_ports, if_pos ⟨(ownedBy_iff ..).mpr at', (asks_iff _).mpr asks⟩]
    · refine (b.falls.ports i p).imp id fun x => ?_
      rw [x, forgotten_ports, if_neg fun y => rest ((asks_iff _).mp y.2)]
  · refine ⟨_, act_stays (a := .forgetStation) ready nofun (orderForget_own (countGood s)), rfl, rfl, ?_⟩
    exact answered_of_routine (u := countGood s) rfl rfl
  · obtain ⟨l, e, slots⟩ := clearFlags_latched (s := countGood s) latched
    have clears : carryAction .clearAttention k v ⟨countGood s, []⟩ = (⟨clearFlags (countGood s), []⟩, .done) := rfl
    have same : (clearFlags (countGood s)).settings = s.settings ∧ (clearFlags (countGood s)).bays = s.bays ∧
        (clearFlags (countGood s)).bus.routine = s.bus.routine := by rw [e]; exact ⟨rfl, rfl, rfl⟩
    obtain ⟨settings, bays, routine⟩ := same
    obtain ⟨station, flags⟩ := settleFlags_latched (settings.symm ▸ latched) (answerOf h.route.src .done)
    refine ⟨_, act_leaves (a := .clearAttention) ready nofun clears, station.trans ?_, fun i => ?_, bays,
      answered_of_routine routine rfl⟩
    · rw [e]
      rfl
    · rw [flags, e]
      exact slots i
  · have clears : carryAction .clearAttention k v ⟨countGood s, []⟩ = (⟨clearFlags (countGood s), []⟩, .done) := rfl
    rw [clearFlags_live (s := countGood s) live] at clears
    exact act_stays (a := .clearAttention) ready nofun clears
  · have taken : takes s.bus (restartAnswer h.route.src) = true := decide_eq_true room
    refine ⟨_, (order_restart ready idle k v).trans (congrArg _ (if_neg (by rw [taken]; nofun))), settleFlags_owed _, ready.running, rfl, ?_⟩
    show ((countGood s).bus.offer (restartAnswer h.route.src) s.now s.tst).routine = _
    rw [offer_joins (b := (countGood s).bus) (m := restartAnswer h.route.src) _ _ rfl room]
    rfl
  · have refused : takes s.bus (restartAnswer h.route.src) = false := decide_eq_false (Nat.not_lt.2 full)
    refine ⟨_, (order_restart ready idle k v).trans (congrArg _ (if_pos refused)), rfl, rfl, ?_⟩
    show ((countGood s).bus.offer (restartAnswer h.route.src) s.now s.tst).ordersRefused = _
    rw [offer_refused (b := (countGood s).bus) (m := restartAnswer h.route.src) _ _ rfl full]
    rfl

end Sys2Proof.Machine

end

section
/-! PROOF. One event of a slot: its change and its reports, and what they leave of the slot and of the station. -/

namespace Sys2Proof.Machine

/-! ### The frame of a slot's event -/

theorem Kept.but {i : SlotIx} {s t : State} {b : Bay} (k : Kept (setBay i (fun _ => b) s) t) : KeptBut i s t :=
  { k with
    bays := fun j => by
      have old := k.bays j
      simp only [setBay_bays, updAt_get] at old ⊢
      split
      · next e => subst e; exact .refl _
      · next e =>
        rw [if_neg e] at old
        exact old }

/-- A slot's change and its reports. -/
theorem modBay_finish_kept (o : StepOrder) (i : SlotIx) (f : Bay → Bay) (s : State) :
    KeptBut i s (finish (modBay o i f ⟨s, []⟩)) ∧ BayKept (f s.bays[i]) (finish (modBay o i f ⟨s, []⟩)).bays[i] := by
  have k : Kept (setBay i (fun _ => f s.bays[i]) s) (finish (modBay o i f ⟨s, []⟩)) := by
    refine Kept.trans ?_ (finish_kept _)
    refine Kept.trans (t := setBay i (fun _ => capFollows s.now s.bays[i] (f s.bays[i])) s) ?_
      ((coolingReport_kept i _ _ _).trans
        (raiseSlot_kept i (fun x => ⟨fun e => by simp [e], fun e => by simp [e], fun e => by simp [e]⟩) _))
    exact { Kept.refl (setBay i (fun _ => f s.bays[i]) s) with
      bays := fun j => by
        simp only [setBay_bays, updAt_get]
        split
        · exact capFollows_kept ..
        · exact .refl _ }
  refine ⟨k.but, ?_⟩
  have own := k.bays i
  rwa [setBay_bays, updAt_self] at own

section
variable {s : State} {i : SlotIx} {c : Instr} {o : StepOrder} {f : Bay → Bay}
  (fires : exec c s = .next (finish (modBay o i f ⟨s, []⟩)))
include fires

theorem slot_becomes {g : Bay → Bay} (h : f s.bays[i] = g s.bays[i]) :
    exec c s = .next (finish (modBay o i g ⟨s, []⟩)) := modBay_congr (w := ⟨s, []⟩) h ▸ fires

/-- A change that leaves the slot unpowered: its record stays, but for what waits to be settled. -/
theorem slot_moves_off {b : Bay} (becomes : f s.bays[i] = b) (u : b.powered = false) :
    ∃ t, exec c s = .next t ∧ KeptBut i s t ∧ BayKept b t.bays[i] ∧
      ∃ y z, t.bays[i].seq = { b.seq with opCeiling := y, pendingOp := z } := by
  subst becomes
  obtain ⟨kept, bay⟩ := modBay_finish_kept o i f s
  exact ⟨_, fires, kept, bay, (bay.unpowered u).2⟩

/-- A change that leaves the slot unpowered with no pending setting: its record stays. -/
theorem slot_moves_plain {b : Bay} (becomes : f s.bays[i] = b) (u : b.powered = false) (n : b.seq.pendingOp = none) :
    ∃ t, exec c s = .next t ∧ KeptBut i s t ∧ BayKept b t.bays[i] ∧ t.bays[i].seq = b.seq := by
  subst becomes
  obtain ⟨kept, bay⟩ := modBay_finish_kept o i f s
  exact ⟨_, fires, kept, bay, (bay.unpowered u).1 n⟩

/-- A change whose reports settle nothing leaves the record it made. -/
theorem slot_moves_steady (h : Steady i (modBay o i f ⟨s, []⟩)) :
    ∃ t, exec c s = .next t ∧ KeptBut i s t ∧ t.bays[i].seq = (f s.bays[i]).seq := by
  have same := (drain_steady drainFuel h).2.seq
  refine ⟨_, fires, (modBay_finish_kept o i f s).1, Eq.trans same ?_⟩
  rw [modBay_bay, capFollows_seq]

end

/-! ### The reports of a change -/

theorem chargeReport_eq (i : SlotIx) (a b : Bay) :
    chargeReport i a b = if b.charge = a.charge then [] else [.charge i b.charge] := by
  simp only [chargeReport, bne_iff_ne, ne_eq, ite_not, eq_comm (a := a.charge)]

theorem trunkReport_eq (i : SlotIx) (a b : Bay) : trunkReport i a b =
    if a.served = false ∧ b.served = true then [.entered i]
    else if a.seq.state = .running ∧ b.seq.state ≠ .running then [.left i] else [] := by
  simp only [trunkReport, Bool.and_eq_true, Bool.not_eq_true', beq_iff_eq, bne_iff_ne]

theorem checkReport_eq (i : SlotIx) (a b : Bay) :
    checkReport i a b = if b.seq.state = a.seq.state ∧ b.seq.phase = a.seq.phase then [] else [.check i] := by
  simp only [checkReport, Bool.or_eq_true, bne_iff_ne, ne_eq, ← not_and_or, ite_not, eq_comm (a := a.seq.state),
    eq_comm (a := a.seq.phase)]

theorem admitReport_eq (i : SlotIx) (a b : Bay) :
    admitReport i a b = if a.seq.state ≠ .waitPower ∧ b.seq.state = .waitPower then [.admission i] else [] := by
  simp only [admitReport, Bool.and_eq_true, beq_iff_eq, bne_iff_ne]

theorem settleReport_eq (i : SlotIx) (b : Bay) :
    settleReport i b = if b.link.held = none ∧ b.seq.pendingOp = none then [] else [.settle i] := by
  rw [settleReport]
  cases b.link.held <;> cases b.seq.pendingOp <;> rfl

/-! ### A change without reports -/

/-- Nothing outside the slot, and no report, follows from a change of `a` to `b`. -/
structure SameOutside (a b : Bay) : Prop where
  moved : b.seq.state = a.seq.state ∧ b.seq.phase = a.seq.phase
  adopted : b.seq.adopted = a.seq.adopted
  ceiling : b.activeCeiling = a.activeCeiling
  charge : b.charge = a.charge
  health : b.link.health = a.link.health
  margin : b.link.margin = a.link.margin
  conditions : slotConditions b = slotConditions a
  held : b.link.held = none
  pending : b.seq.pendingOp = none

theorem raiseFor_same {i : SlotIx} {a b : Bay} (h : slotConditions b = slotConditions a) (s : State) :
    raiseFor i a b s = s := by
  have idle : (fun f : SlotFlags => (⟨f.latched || ((slotConditions b).latched && !(slotConditions a).latched),
      f.stuck || ((slotConditions b).stuck && !(slotConditions a).stuck),
      f.noncompliant || ((slotConditions b).noncompliant && !(slotConditions a).noncompliant)⟩ : SlotFlags)) = id := by
    funext f
    simp only [h, Bool.and_not_self, Bool.or_false]
    rfl
  simp only [raiseFor, raiseSlot]
  rw [idle, updAt_same _ i id rfl]

theorem modBay_plain {o : StepOrder} {i : SlotIx} {f : Bay → Bay} {s : State} (h : SameOutside s.bays[i] (f s.bays[i])) :
    modBay o i f ⟨s, []⟩ = ⟨setBay i f s, []⟩ := by
  obtain ⟨state, phase⟩ := h.moved
  have follows : capFollows s.now s.bays[i] (f s.bays[i]) = f s.bays[i] := by
    rw [capFollows, h.ceiling, bne_self_eq_false, Bool.and_false]
    rfl
  have powered : (f s.bays[i]).powered = s.bays[i].powered := by rw [Bay.powered, Bay.powered, state, phase]
  have served : (f s.bays[i]).served = s.bays[i].served := by rw [Bay.served, Bay.served, state, h.adopted]
  have cooling (t : State) : coolingReport i s.bays[i] (f s.bays[i]) t = t := by
    rw [coolingReport, powered, h.health, h.margin, bne_self_eq_false, bne_self_eq_false, bne_self_eq_false]
    rfl
  have none : reportsOf o i s.bays[i] (f s.bays[i]) = [] := by
    have charge := (chargeReport_eq i s.bays[i] (f s.bays[i])).trans (if_pos h.charge)
    have trunk : trunkReport i s.bays[i] (f s.bays[i]) = [] := by
      rw [trunkReport_eq, served, state, if_neg fun x => Bool.false_ne_true (x.1.symm.trans x.2), if_neg fun x => x.2 x.1]
    have check := (checkReport_eq i s.bays[i] (f s.bays[i])).trans (if_pos h.moved)
    have admission : admitReport i s.bays[i] (f s.bays[i]) = [] := by
      rw [admitReport_eq, state, if_neg fun x => x.1 x.2]
    have settle := (settleReport_eq i (f s.bays[i])).trans (if_pos ⟨h.held, h.pending⟩)
    simp only [reportsOf, charge, trunk, check, admission, settle]
    cases o <;> rfl
  have same : setBay i (fun _ => f s.bays[i]) s = setBay i f s := setBay_congr rfl
  simp only [modBay, follows, cooling, raiseFor_same h.conditions, none]
  exact congrArg (Work.mk · []) same

end Sys2Proof.Machine

end

section
/-! PROOF. The slot sequencer's events: seatings, removals, the ejector, faults and timers. -/

namespace Sys2Proof.Machine

/-! ### The switch cut -/

theorem cut_stuckTimer (q : Seq) (now : Nat) :
    (q.cut now).stuckTimer = if q.gate = .off then q.stuckTimer else some (now + 50) := by
  simp only [Seq.cut, beq_iff_eq]
  split <;> rfl

theorem cut_eq (q : Seq) (now : Nat) : q.cut now = { q with gate := .off, stuckTimer := (q.cut now).stuckTimer } := by
  simp only [Seq.cut, beq_iff_eq]
  split
  · next e => rw [← e]
  · rfl

theorem presenceLost_stuck {b : Bay} {now : Nat} (h : b.seq.state = .stuck) : b.presenceLost now = b.removeStuck := by
  rw [Bay.presenceLost, if_pos (beq_iff_eq.2 h)]

theorem presenceLost_other {b : Bay} {now : Nat} (h : b.seq.state ≠ .stuck) : b.presenceLost now = b.remove now := by
  rw [Bay.presenceLost, if_neg (ne_true_of_eq_false (beq_false_of_ne h))]

theorem remove_cause (b : Bay) (now : Nat) :
    (b.remove now).seq.cause = if b.seq.gate = .off then b.seq.cause else .surpriseRemoval := by
  simp only [Bay.remove, bne_iff_ne, ne_eq, ite_not]

/-- Settles O41: the guards hold, and each event is one change whose lasting parts the reports keep. -/
theorem seatingsAndRemovals : Obligations.SeatingsAndRemovals := by
  intro s i run fit b changes
  have seats {d : Nat} (e : b.seq.state = .empty) (t : b.seq.presenceTimer = some d) (due : d ≤ s.now) :
      changes (.seating i) fun b => b.seat s.now :=
    event_occurs _ run (by rw [show s.bays[i].seq.state = .empty from e, timer_due t due]; rfl)
  have loses (p : b.seq.presence = true) (n : b.seq.state ≠ .empty) :
      changes (.surpriseRemoval i) fun b => b.presenceLost s.now :=
    event_occurs _ run (by rw [fit, show s.bays[i].seq.presence = true from p, bne_iff_ne.2 n]; rfl)
  have removes (p : b.seq.presence = true) (n : b.seq.state ≠ .empty) (k : b.seq.state ≠ .stuck) :
      changes (.surpriseRemoval i) fun b => b.remove s.now :=
    slot_becomes (loses p n) (presenceLost_other k)
  have sticks (p : b.seq.presence = true) (k : b.seq.state = .stuck) :
      changes (.surpriseRemoval i) Bay.removeStuck :=
    slot_becomes (loses p (by rw [show s.bays[i].seq.state = .stuck from k]; nofun)) (presenceLost_stuck k)
  refine ⟨fun d => seats, removes, sticks, fun d e t due => ?_, fun p n k => ?_, fun p k => ?_⟩
  · obtain ⟨t, fires, kept, bay, seq⟩ := slot_moves_plain (seats e t due) rfl rfl rfl
    refine ⟨t, fires, kept, ?_⟩
    rw [seq]
    exact ⟨rfl, rfl, rfl, rfl, rfl, rfl, rfl, rfl, rfl, bay.inventory, bay.meter⟩
  · obtain ⟨t, fires, kept, bay, seq⟩ := slot_moves_plain (removes p n k) rfl rfl rfl
    refine ⟨t, fires, kept, ?_⟩
    rw [seq]
    exact ⟨rfl, Seq.cut_gate .., rfl, rfl, bay.record, bay.inventory, remove_cause b s.now, cut_stuckTimer .., bay.meter⟩
  · have off : b.removeStuck.powered = false := by
      rw [Bay.powered, show b.removeStuck.seq.state = .stuck from k]
      rfl
    obtain ⟨t, fires, kept, bay, y, z, seq⟩ := slot_moves_off (sticks p k) rfl off
    refine ⟨t, fires, kept, ?_⟩
    rw [seq]
    exact ⟨k, rfl, rfl, bay.record⟩

end Sys2Proof.Machine

end

section
/-! PROOF. The ejector's debounced openings and closings. -/

namespace Sys2Proof.Machine

section
variable {b : Bay} {now : Nat}

theorem opened_off (h : b.seq.state = .off) : b.opened now = b.openedInOff := by
  simp only [Bay.opened, h]

theorem opened_waiting (h : b.seq.state = .waitPower ∨ b.seq.state = .retryWait ∨ b.seq.state = .shedOff) :
    b.opened now = b.toOff now true := by
  rcases h with h | h | h <;> simp only [Bay.opened, h]

theorem opened_ramp (h : b.seq.state = .ramp) : b.opened now = ((b.cut now).toOff now true).setCause .operator := by
  simp only [Bay.opened, h]

theorem opened_running (h : b.seq.state = .running) : b.opened now = b.toDraining now .operator .unseat false := by
  simp only [Bay.opened, h]

theorem draining_iff : b.draining = true ↔ b.seq.state = .stopping ∧ b.seq.phase = some .draining := by
  simp only [Bay.draining, drainingIn, Bool.and_eq_true, beq_iff_eq]

theorem opened_draining (h : b.draining = true) : b.opened now = b.openedInDraining := by
  simp only [Bay.opened, (draining_iff.1 h).1, h, if_true]

theorem opened_idle (h : b.seq.state = .identify ∨ b.seq.state = .latched ∨ b.seq.state = .stuck) : b.opened now = b := by
  rcases h with h | h | h <;> simp only [Bay.opened, h]

theorem closed_auto (h : b.seq.state = .off) (k : b.seq.ejectorHold = true) (p : b.cfg.startPolicy = .auto) :
    b.closed now = b.enter now .waitPower none := by
  simp only [Bay.closed, h, k, p, if_true]

theorem closed_hold (h : b.seq.state = .off) (k : b.seq.ejectorHold = true) (p : b.cfg.startPolicy = .hold) :
    b.closed now = { b with seq := { b.seq with ejectorHold := false } } := by
  simp only [Bay.closed, h, k, p, if_true]

theorem closed_unseating (h : b.seq.state = .stopping) (p : b.seq.phase = some .unseating) :
    b.closed now = b.toOff now false := by
  simp only [Bay.closed, h, p, beq_self_eq_true, if_true]

end

theorem unpowered_of {b : Bay} (h : b.seq.state ∈
    [SlotState.empty, .identify, .off, .waitPower, .retryWait, .latched, .shedOff, .stuck]) : b.powered = false := by
  simp only [List.mem_cons, List.not_mem_nil, or_false] at h
  rcases h with h | h | h | h | h | h | h | h <;> rw [Bay.powered, h] <;> rfl

/-- Settles O42: the opening and the closing by the slot's state. -/
theorem ejectorsAct : Obligations.EjectorsAct := by
  intro s i d run t due b q
  have timer : timerDue s.bays[i].seq.ejectorTimer s.now = true := timer_due t due
  refine ⟨fun raw shut => ?_, fun raw open' => ?_⟩
  · intro opens
    have fires : exec (.ejectorOpening i) s =
        .next (finish (modBay .stop i (fun b => (b.withEjector true).opened s.now) ⟨s, []⟩)) :=
      event_occurs _ run (by rw [timer, show s.bays[i].seq.ejectorRaw = true from raw,
        show s.bays[i].seq.ejectorOpen = false from shut]; rfl)
    have turns (dr : b.draining = true) : (b.withEjector true).opened s.now = (b.withEjector true).openedInDraining :=
      opened_draining (b := b.withEjector true) dr
    refine ⟨fun st => ?_, fun st => ?_, fun st => ?_, ?_⟩
    · obtain ⟨t, e, kept, bay, y, z, seq⟩ := slot_moves_off fires (opened_off (b := b.withEjector true) st)
        (unpowered_of (by rw [show (b.withEjector true).openedInOff.seq.state = .off from st]; decide))
      refine ⟨t, e, kept, ?_⟩
      rw [seq]
      exact ⟨rfl, st, rfl, rfl, rfl⟩
    · obtain ⟨t, e, kept, bay, y, z, seq⟩ := slot_moves_off fires (opened_waiting (b := b.withEjector true) st) rfl
      refine ⟨t, e, kept, ?_⟩
      rw [seq]
      exact ⟨rfl, rfl, rfl, rfl, rfl⟩
    · obtain ⟨t, e, kept, bay, y, z, seq⟩ := slot_moves_off fires (opened_ramp (b := b.withEjector true) st) rfl
      refine ⟨t, e, kept, ?_⟩
      rw [seq]
      exact ⟨congrArg Seq.ejectorOpen (cut_eq (b.withEjector true).seq s.now), rfl, rfl, Seq.cut_gate .., rfl⟩
    · intro acts
      refine ⟨fun st => slot_becomes fires (opened_running (b := b.withEjector true) st),
        fun dr => slot_becomes fires (turns dr), fun st valid ad held pend => ?_, fun dr held pend => ?_, fun st => ?_⟩
      · have becomes : (b.withEjector true).opened s.now = (b.withEjector true).toDraining s.now .operator .unseat false :=
          opened_running (b := b.withEjector true) st
        have charge := toDraining_charge (b := b.withEjector true) st valid ad s.now .operator .unseat false
        have steady : Steady i (modBay .stop i (fun b => (b.withEjector true).toDraining s.now .operator .unseat false) ⟨s, []⟩) :=
          stop_steady (by rw [toDraining_sets]) charge held pend
        obtain ⟨t, e, kept, seq⟩ := slot_moves_steady (slot_becomes fires becomes) steady
        refine ⟨t, e, kept, ?_⟩
        rw [seq, toDraining_sets]
        exact ⟨rfl, rfl, rfl, rfl, rfl⟩
      · obtain ⟨state, phase⟩ := draining_iff.1 dr
        have steady : Steady i (modBay .stop i (fun b => (b.withEjector true).openedInDraining) ⟨s, []⟩) :=
          stop_steady state rfl held pend
        obtain ⟨t, e, kept, seq⟩ := slot_moves_steady (slot_becomes fires (turns dr)) steady
        refine ⟨t, e, kept, ?_⟩
        rw [seq]
        exact ⟨rfl, state, phase, rfl, rfl⟩
      · have off : (b.withEjector true).powered = false := unpowered_of (by
          rcases st with st | st | st <;> rw [show (b.withEjector true).seq.state = _ from st] <;> decide)
        obtain ⟨t, e, kept, bay, y, z, seq⟩ := slot_moves_off fires (opened_idle (b := b.withEjector true) st) off
        refine ⟨t, e, kept, ?_⟩
        rw [seq]
        exact ⟨rfl, rfl⟩
  · intro closes
    have fires : exec (.ejectorClosing i) s =
        .next (finish (modBay .fault i (fun b => (b.withEjector false).closed s.now) ⟨s, []⟩)) :=
      event_occurs _ run (by rw [timer, show s.bays[i].seq.ejectorRaw = false from raw,
        show s.bays[i].seq.ejectorOpen = true from open']; rfl)
    refine ⟨fun st hold p => ?_, fun st hold p => ?_, fun st p => ?_⟩
    · obtain ⟨t, e, kept, bay, y, z, seq⟩ := slot_moves_off fires (closed_auto (b := b.withEjector false) st hold p) rfl
      refine ⟨t, e, kept, ?_⟩
      rw [seq]
      exact ⟨rfl, rfl, Bool.and_false _⟩
    · obtain ⟨t, e, kept, bay, y, z, seq⟩ := slot_moves_off fires (closed_hold (b := b.withEjector false) st hold p) 
        (unpowered_of (by dsimp only; rw [show (b.withEjector false).seq.state = .off from st]; decide))
      refine ⟨t, e, kept, ?_⟩
      rw [seq]
      exact ⟨rfl, st, rfl⟩
    · obtain ⟨t, e, kept, bay, y, z, seq⟩ := slot_moves_off fires (closed_unseating (b := b.withEjector false) st p) rfl
      refine ⟨t, e, kept, ?_⟩
      rw [seq]
      exact ⟨rfl, rfl, rfl, rfl⟩

end Sys2Proof.Machine

end

section
/-! PROOF. The faults of a powered slot, and the slot's timers. -/

namespace Sys2Proof.Machine

/-! ### Faults -/

theorem faultLatches_iff (b : Bay) (kind : ShutdownCause) : b.faultLatches kind = true ↔
    1 ≤ b.seq.retryCount ∨ (kind = .severeOc ∧ b.cfg.faultPolicy = .latch) := by
  simp only [Bay.faultLatches, Bool.or_eq_true, Bool.and_eq_true, decide_eq_true_eq, beq_iff_eq]

section
variable {b : Bay} {now : Nat} {kind : ShutdownCause}

theorem fault_latches (h : b.draining = true ∨ b.faultLatches kind = true) :
    b.fault now kind = ((b.cut now).enter now .latched none).setCause kind :=
  if_pos (Bool.or_eq_true_iff.2 h)

theorem fault_retries (h : ¬(b.draining = true ∨ b.faultLatches kind = true)) :
    b.fault now kind = let d := ((b.cut now).enter now .retryWait none).setCause kind
      { d with seq := { d.seq with retryCount := 1, retryTimer := some (now + b.cfg.retryDelay) } } :=
  if_neg fun m => h (Bool.or_eq_true_iff.1 m)

end

/-- A fault of a slot, as its change and its reports leave the slot (R50, R51, R55). -/
theorem faulted {s : State} {i : SlotIx} {c : Instr} {kind : ShutdownCause}
    (fires : exec c s = .next (finish (modBay .fault i (fun b => b.fault s.now kind) ⟨s, []⟩))) :
    ∃ t, exec c s = .next t ∧ KeptBut i s t ∧ t.bays[i].seq.gate = .off ∧ t.bays[i].seq.cause = kind ∧
      (s.bays[i].seq.gate ≠ .off → t.bays[i].seq.stuckTimer = some (s.now + 50)) ∧
      (if s.bays[i].draining = true ∨ 1 ≤ s.bays[i].seq.retryCount ∨
          (kind = .severeOc ∧ s.bays[i].cfg.faultPolicy = .latch) then
        t.bays[i].seq.state = .latched ∧ t.bays[i].seq.retryCount = s.bays[i].seq.retryCount
      else t.bays[i].seq.state = .retryWait ∧ t.bays[i].seq.retryCount = 1 ∧
        t.bays[i].seq.retryTimer = some (s.now + s.bays[i].cfg.retryDelay)) := by
  have stuck (n : s.bays[i].seq.gate ≠ .off) : (s.bays[i].seq.cut s.now).stuckTimer = some (s.now + 50) := by
    rw [cut_stuckTimer, if_neg n]
  have count : (s.bays[i].seq.cut s.now).retryCount = s.bays[i].seq.retryCount := by rw [cut_eq]
  by_cases h : s.bays[i].draining = true ∨ s.bays[i].faultLatches kind = true
  · obtain ⟨t, e, kept, bay, y, z, seq⟩ := slot_moves_off fires (fault_latches h) rfl
    refine ⟨t, e, kept, ?_⟩
    rw [if_pos (h.imp_right (faultLatches_iff ..).1), seq]
    exact ⟨Seq.cut_gate .., rfl, stuck, rfl, count⟩
  · obtain ⟨t, e, kept, bay, y, z, seq⟩ := slot_moves_off fires (fault_retries h) rfl
    refine ⟨t, e, kept, ?_⟩
    rw [if_neg fun m => h (m.imp_right (faultLatches_iff ..).2), seq]
    exact ⟨Seq.cut_gate .., rfl, stuck, rfl, rfl, rfl⟩

theorem overcurrentReached_of {s : State} {i : SlotIx} {u : Nat} (p : s.bays[i].powered = true)
    (o : s.bays[i].seq.ocSince = some u) (h : s.bays[i].cfg.faultTime ≤ s.bays[i].seq.ocCount + (s.now - u)) :
    overcurrentReached s i = true := by
  have reached : s.bays[i].cfg.faultTime ≤ s.bays[i].seq.ocAt s.now := by
    simp only [Seq.ocAt, o]
    exact h
  rw [overcurrentReached, p, o, decide_eq_true reached]
  rfl

/-- Settles O43: the reports of one change, and the fault as one change. -/
theorem faultsCutTheSlot : Obligations.FaultsCutTheSlot := by
  refine ⟨fun o i f w => ?_, fun s i run => ?_⟩
  · intro a b serves charge trunk check admission settle
    have bay : b = capFollows w.st.now a (f a) := modBay_bay o i f w
    refine ⟨?_, by rw [bay, capFollows_seq]⟩
    rw [modBay_reports]
    simp only [reportsOf, chargeReport_eq, trunkReport_eq, checkReport_eq, admitReport_eq, settleReport_eq]
    simp only [charge, trunk, check, admission, settle, bay]
    cases o <;> simp only [List.append_assoc] <;> rfl
  · intro b changes
    have counts {u : Nat} (p : b.powered = true) (o : b.seq.ocSince = some u)
        (h : b.cfg.faultTime ≤ b.seq.ocCount + (s.now - u)) : changes (.overcurrentFault i) .overcurrent :=
      event_occurs _ run (overcurrentReached_of p o h)
    have severe (p : b.powered = true) : changes (.severeOvercurrent i) .severeOc := by
      have running : inWarmRestart s = false := by rw [inWarmRestart, run]
      show execSevereOvercurrent i s = _
      rw [execSevereOvercurrent, running]
      exact event_occurs _ run p
    have ramp {d : Nat} (st : b.seq.state = .ramp) (t : b.seq.rampTimer = some d) (due : d ≤ s.now) :
        changes (.rampTimeout i) .rampTimeout :=
      event_occurs _ run (by rw [show s.bays[i].seq.state = .ramp from st, timer_due t due]; rfl)
    exact ⟨fun u => counts, severe, fun d => ramp, fun u p o h => faulted (counts p o h), fun p => faulted (severe p),
      fun d st t due => faulted (ramp st t due)⟩

/-! ### Timers -/

section
variable {b : Bay} {now : Nat}

theorem endStuckCheck_high (h : b.cfg.stuckThreshold < b.meter.amp) :
    b.endStuckCheck now = ({ b with seq := { b.seq with stuckTimer := none } } : Bay).toStuck now := if_pos h

theorem endStuckCheck_low (h : b.meter.amp ≤ b.cfg.stuckThreshold) :
    b.endStuckCheck now = { b with seq := { b.seq with stuckTimer := none } } := if_neg (Nat.not_lt.2 h)

theorem endDraining_unseats (h : b.seq.dest = some .unseat ∧ b.seq.ejectorOpen = true) :
    b.endDraining now = (b.cut now).enter now .stopping (some .unseating) := by
  rw [Bay.endDraining, h.1, h.2]
  rfl

theorem endDraining_closed (d : b.seq.dest = some .unseat) (e : b.seq.ejectorOpen = false) :
    b.endDraining now = (b.cut now).toOff now false := by
  rw [Bay.endDraining, d, e]
  rfl

theorem endDraining_off (d : b.seq.dest ≠ some .unseat) :
    b.endDraining now = let x := (b.cut now).toOff now false
      { x with seq := { x.seq with cycleTimer := if b.seq.cycle = true then some (now + 5000) else none } } := by
  have cycle : ((b.cut now).toOff now false).seq.cycle = b.seq.cycle := by
    show ((b.seq.cut now).cycle && _) = _
    rw [cut_eq]
    exact Bool.and_true _
  simp only [Bay.endDraining, beq_false_of_ne d, cycle]
  rfl

end

/-- Settles O44: each timer is one change of its slot, and what the change leaves. -/
theorem slotTimersAct : Obligations.SlotTimersAct := by
  intro s i d run due b changes checked
  have retries (st : b.seq.state = .retryWait) (t : b.seq.retryTimer = some d) :
      changes (.retryTimerExpiry i) .fault fun b => b.enter s.now .waitPower none :=
    event_occurs _ run (by rw [show s.bays[i].seq.state = .retryWait from st, timer_due t due]; rfl)
  have cycles (st : b.seq.state = .off) (t : b.seq.cycleTimer = some d) :
      changes (.cycleTimerExpiry i) .fault fun b => b.enter s.now .waitPower none :=
    event_occurs _ run (by rw [show s.bays[i].seq.state = .off from st, timer_due t due]; rfl)
  have ends (dr : b.draining = true) (t : b.seq.gracefulTimer = some d) :
      changes (.gracefulExpiry i) .fault fun b => b.endDraining s.now :=
    event_occurs _ run (by rw [show s.bays[i].draining = true from dr, timer_due t due]; rfl)
  have checks (t : b.seq.stuckTimer = some d) : changes (.stuckCheckEnd i) .stuck fun b => b.endStuckCheck s.now :=
    event_occurs _ run (timer_due t due)
  refine ⟨retries, cycles, ends, fun t high => slot_becomes (checks t) (endStuckCheck_high high),
    fun t low => slot_becomes (checks t) (endStuckCheck_low low), fun st t => ?_, fun st t => ?_, fun dr t => ?_,
    fun t high => ?_, fun t low held pending => ?_⟩
  · obtain ⟨t, e, kept, bay, y, z, seq⟩ := slot_moves_off (retries st t) rfl rfl
    refine ⟨t, e, kept, ?_⟩
    rw [seq]
    exact ⟨rfl, rfl, rfl, rfl⟩
  · obtain ⟨t, e, kept, bay, y, z, seq⟩ := slot_moves_off (cycles st t) rfl rfl
    refine ⟨t, e, kept, ?_⟩
    rw [seq]
    exact ⟨rfl, Bool.and_false _, rfl⟩
  · have stuck (n : b.seq.gate ≠ .off) : (b.seq.cut s.now).stuckTimer = some (s.now + 50) := by
      rw [cut_stuckTimer, if_neg n]
    by_cases h : b.seq.dest = some .unseat ∧ b.seq.ejectorOpen = true
    · obtain ⟨t, e, kept, bay, y, z, seq⟩ := slot_moves_off (ends dr t) (endDraining_unseats h) rfl
      refine ⟨t, e, kept, ?_⟩
      dsimp only
      rw [if_pos h, seq]
      exact ⟨Seq.cut_gate .., rfl, rfl, rfl, stuck, rfl, rfl⟩
    · by_cases u : b.seq.dest = some .unseat
      · have shut : b.seq.ejectorOpen = false := Bool.eq_false_of_not_eq_true fun o => h ⟨u, o⟩
        obtain ⟨t, e, kept, bay, y, z, seq⟩ := slot_moves_off (ends dr t) (endDraining_closed u shut) rfl
        refine ⟨t, e, kept, ?_⟩
        dsimp only
        rw [if_neg h, seq]
        exact ⟨Seq.cut_gate .., rfl, rfl, rfl, stuck, rfl, rfl, rfl, fun n => absurd u n⟩
      · obtain ⟨t, e, kept, bay, y, z, seq⟩ := slot_moves_off (ends dr t) (endDraining_off u) rfl
        refine ⟨t, e, kept, ?_⟩
        dsimp only
        rw [if_neg h, seq]
        exact ⟨Seq.cut_gate .., rfl, rfl, rfl, stuck, rfl, rfl, rfl, fun _ => rfl⟩
  · obtain ⟨t, e, kept, bay, y, z, seq⟩ := slot_moves_off (checks t) (endStuckCheck_high high) rfl
    refine ⟨t, e, kept, ?_⟩
    rw [seq]
    exact ⟨rfl, rfl, rfl, rfl⟩
  · refine (slot_becomes (g := checked) (checks t) (endStuckCheck_low low)).trans ?_
    rw [modBay_plain ⟨⟨rfl, rfl⟩, rfl, rfl, rfl, rfl, rfl, rfl, held, pending⟩, finish_done]

end Sys2Proof.Machine

end

section
/-! PROOF. Cap writes and their confirmation. -/

namespace Sys2Proof.Machine

section
variable {s : State} {i : SlotIx} {t : Txn}

theorem kind_inFlight {l : Link} (h : l.inFlight = some t) : l.kind = some t.kind := by
  rw [Link.kind, h]
  rfl

/-- The end of a cap WRITE, on the link. -/
theorem capWriteEnd_fires {f : Nat} {live completed : Bool} {y : Link} (run : s.run = .running)
    (h : s.bays[i].link.inFlight = some t) (k : t.kind = .capWrite f live)
    (e : s.bays[i].link.capEnd s.now f live completed = y) :
    exec (.capWriteEnd i completed) s = .next (settleFlags (setBay i (fun b => { b with link := y }) s)) := by
  have kind : s.bays[i].link.kind = some (.capWrite f live) := (kind_inFlight h).trans (congrArg some k)
  have guard : inFlightIs s i TxnKind.isCap = true := by rw [inFlightIs, kind]; rfl
  have fires : exec (.capWriteEnd i completed) s = .next (settleFlags (endCapWrite i completed s)) :=
    simpleEvent_occurs _ run guard
  rw [fires, endCapWrite, setBay_congr]
  rw [kind, ← e]

section
variable {l : Link} {now f : Nat} {x : CapItem}

theorem capEnd_confirms (h : l.cap = some x) : l.capEnd now f true true = { l with
    inFlight := none, lastCap := some f
    cap := some { x with phase := .confirming (some (now + 20)) false (now + 200) } } := by
  simp only [Link.capEnd, h, if_true]
  rfl

theorem capEnd_again (h : l.cap = some x) (n : x.failed < 2) :
    l.capEnd now f true false = { l with inFlight := none, cap := some { x with failed := x.failed + 1 } } := by
  have tries : ¬Config.sidebandTries ≤ x.failed + 1 := by simp only [Config.sidebandTries]; omega
  simp only [Link.capEnd, h, Bool.false_eq_true, if_false, tries]

theorem capEnd_unacked (h : l.cap = some x) (n : 2 ≤ x.failed) :
    l.capEnd now f true false = { l with inFlight := none, cap := none, capUnacked := true } := by
  have tries : Config.sidebandTries ≤ x.failed + 1 := Nat.succ_le_succ n
  simp only [Link.capEnd, h, Bool.false_eq_true, if_false, tries, if_true]

end

theorem confirmDue_of {l : Link} {f n d : Nat} {r : Bool} {u now : Nat} (h : l.cap = some ⟨f, .confirming (some d) r u, n⟩)
    (due : d ≤ now) : l.confirmDue now = true := by
  simp only [Link.confirmDue, h]
  exact timer_due rfl due

theorem confirmOver_of {l : Link} {f n : Nat} {d : Due} {r : Bool} {u now : Nat} (h : l.cap = some ⟨f, .confirming d r u, n⟩)
    (due : u ≤ now) : l.confirmOver now = true := by
  simp only [Link.confirmOver, h]
  exact decide_eq_true due

end

/-- Settles O48: the end of a WRITE by what waits, and the two instants of its confirmation. -/
theorem capWritesAreConfirmed : Obligations.CapWritesAreConfirmed := by
  intro s i run l becomes
  refine ⟨fun t f x e k c => ⟨?_, fun n => ?_, fun n => ?_⟩, fun t f e k => ⟨?_, ?_⟩, fun f n d r u c due => ?_,
    fun f n d r u c due => ?_⟩
  · exact capWriteEnd_fires run e k (capEnd_confirms c)
  · exact capWriteEnd_fires run e k (capEnd_again c n)
  · exact capWriteEnd_fires run e k (capEnd_unacked c n)
  · exact capWriteEnd_fires run e k rfl
  · exact capWriteEnd_fires run e k rfl
  · refine setBay_occurs run (confirmDue_of c due) ?_
    rw [show s.bays[i].link.cap = _ from c]
    rfl
  · exact setBay_occurs run (confirmOver_of c due) rfl

end Sys2Proof.Machine

end

section
/-! PROOF. Status reads, of either origin. -/

namespace Sys2Proof.Machine

/-! ### The status region -/

theorem decodeStatus_some {v : Vector Byte 8} {st : BladeState} (h : bladeStateOf v[1].toNat = some st) :
    decodeStatus v.toList = some ⟨v[0].toInt, st, v[3].toNat * 256 + v[2].toNat⟩ := by
  have code : natAt v.toList 1 = v[1].toNat := by simp [natAt]
  have echo : le16At v.toList 2 = v[3].toNat * 256 + v[2].toNat := by simp [le16At, natAt]
  have margin : signedByte (v.toList.getD 0 0) = v[0].toInt := by simp [signedByte]
  rw [decodeStatus, code, h, echo, margin]
  rfl

theorem decodeStatus_none {v : Vector Byte 8} (h : bladeStateOf v[1].toNat = none) : decodeStatus v.toList = none := by
  have code : natAt v.toList 1 = v[1].toNat := by simp [natAt]
  rw [decodeStatus, code, h]
  rfl

/-! ### The link at the end of a status read -/

theorem confirming_iff (l : Link) : l.confirming = true ↔ ∃ c d r u, l.cap = some c ∧ c.phase = .confirming d r u := by
  simp only [Link.confirming]
  split
  · next f d r u n e => exact ⟨fun _ => ⟨_, d, r, u, e, rfl⟩, fun _ => rfl⟩
  · next n =>
    refine ⟨nofun, fun ⟨⟨f, p, k⟩, d, r, u, e, h⟩ => ?_⟩
    subst h
    exact absurd e (n f d r u k)

/-- The cap item that the end of a completed status read leaves (R80, R81). -/
def capAfterRead (l : Link) (now echo : Nat) : Option CapItem :=
  let c := if l.lastCap = some echo ∧ l.confirming = true then none else l.cap
  if l.kind = some .confirm then c.map (CapItem.readEnded now) else c

theorem statusEnd_some (l : Link) (now : Nat) (r : StatusRead) : l.statusEnd now (some r) = { l with
    inFlight := none, failures := 0, health := .responsive, bladeState := some r.state
    cap := capAfterRead l now r.echo
    status := if l.kind = some .confirm then l.status else .absent
    margin := if r.state = .booting then l.margin else some r.margin
    capUnacked := if l.lastCap = some r.echo then false else l.capUnacked } := by
  simp only [Link.statusEnd, Link.statusRead, Link.compareEcho, Link.confirming, capAfterRead, beq_iff_eq]
  by_cases echo : l.lastCap = some r.echo
  · by_cases k : l.kind = some .confirm
    · simp only [echo, k, if_true, true_and] <;> rfl
    · simp only [echo, k, if_true, if_false, true_and] <;> rfl
  · by_cases k : l.kind = some .confirm
    · simp only [echo, k, if_true, if_false, false_and]
    · simp only [echo, k, if_false, false_and]

/-! ### The slot at the end of a status read -/

section
variable {s : State} {i : SlotIx} {x : Txn} {r : ReadResult 8}

theorem statusReadEnd_fires (run : s.run = .running) (h : s.bays[i].link.inFlight = some x)
    (k : x.kind = .status ∨ x.kind = .confirm) : exec (.statusReadEnd i r) s =
      .next (finish (modBay .stop i (fun b => b.endStatusRead s.now ((readBytes r).bind decodeStatus)) ⟨s, []⟩)) := by
  have guard : inFlightIs s i TxnKind.isStatus = true := by
    rw [inFlightIs, kind_inFlight h]
    obtain k | k := k <;> rw [k] <;> rfl
  exact event_occurs _ run guard

end

theorem asksOff_iff (b : Bay) (r : StatusRead) :
    asksOff b (some r) = true ↔ r.state = .softOffRequest ∧ b.seq.state = .running := by
  simp only [asksOff, Option.any_some, Bool.and_eq_true, beq_iff_eq, and_comm]

theorem endStatusRead_some (b : Bay) (now : Nat) (r : StatusRead) : b.endStatusRead now (some r) =
    let c : Bay := { b with link := b.link.statusEnd now (some r) }
    if r.state = .softOffRequest ∧ b.seq.state = .running then c.toDraining now .bladeRequest .off false else c := by
  by_cases h : r.state = .softOffRequest ∧ b.seq.state = .running
  · exact (if_pos ((asksOff_iff b r).2 h)).trans (if_pos h).symm
  · exact (if_neg fun y => h ((asksOff_iff b r).1 y)).trans (if_neg h).symm

theorem endStatusRead_none (b : Bay) (now : Nat) :
    b.endStatusRead now none = { b with link := b.link.statusEnd now none } := by
  have silent : asksOff b none = false := Bool.and_false _
  exact if_neg (ne_true_of_eq_false silent)

/-- A failed status read on the link (R78). -/
theorem statusEnd_failed {l : Link} {now : Nat} (h : l.kind = some .status) : l.statusEnd now none = { l with
    inFlight := none, status := .absent, failures := min 3 (l.failures + 1)
    health := if 2 ≤ l.failures then .unresponsive else l.health } := by
  have third : (min 3 (l.failures + 1) == 3) = decide (2 ≤ l.failures) := by
    rw [Bool.eq_iff_iff, beq_iff_eq, decide_eq_true_eq]
    omega
  simp only [Link.statusEnd, Link.statusFailed, h, Config.sidebandTries, third, decide_eq_true_eq]
  rfl

theorem recordValid_link {b : Bay} {y : Link} (h : y.record = b.link.record) :
    ({ b with link := y } : Bay).recordValid = b.recordValid := by
  simp only [Bay.recordValid, h]

/-- A slot's charge depends on its link by the record alone (R65). -/
theorem charge_link {b : Bay} {y : Link} (h : y.record = b.link.record) :
    ({ b with link := y } : Bay).charge = b.charge := by
  simp only [Bay.charge, recordValid_link h]
  rfl

theorem stop_charge_link {b : Bay} {y : Link} (h : y.record = b.link.record) (st : b.seq.state = .running)
    (v : b.recordValid = true) (a : b.seq.adopted = false) (now : Nat) (cause : ShutdownCause) (dest : StopDest)
    (cycle : Bool) : (({ b with link := y } : Bay).toDraining now cause dest cycle).charge = b.charge :=
  (toDraining_charge (b := { b with link := y }) st ((recordValid_link h).trans v) a ..).trans (charge_link h)

/-- Settles O49: a status read is one change of its slot, and what that change leaves. -/
theorem statusReadsAreJudged : Obligations.StatusReadsAreJudged := by
  refine ⟨fun s i x v st run h k known => ?_, fun s i x run h k => ⟨fun v st known calm => ?_, fun r fails => ?_,
    fun v code st valid ad held pend => ?_⟩⟩
  · intro l echoes confirming again
    have fires := statusReadEnd_fires (r := .complete v) run h k
    have read : (readBytes (.complete v)).bind decodeStatus = some ⟨v[0].toInt, st, v[3].toNat * 256 + v[2].toNat⟩ :=
      decodeStatus_some known
    have kind : l.kind = some .confirm ↔ x.kind = .confirm := by
      rw [kind_inFlight h]
      exact Option.some_inj
    have next : (CapItem.readEnded s.now) = again := by
      funext c
      rfl
    rw [read] at fires
    refine ⟨l.statusEnd s.now (some ⟨v[0].toInt, st, v[3].toNat * 256 + v[2].toNat⟩), ?_, fun e c => ?_, fun n => ?_, ?_⟩
    · rw [statusEnd_some]
      simp only [kind]
      rfl
    · rw [statusEnd_some]
      have both : l.lastCap = some (v[3].toNat * 256 + v[2].toNat) ∧ l.confirming = true := ⟨e, (confirming_iff l).2 c⟩
      simp only [capAfterRead, both, and_self, if_true, Option.map_none, ite_self]
    · rw [statusEnd_some]
      have one : ¬(l.lastCap = some (v[3].toNat * 256 + v[2].toNat) ∧ l.confirming = true) :=
        fun b => n ⟨b.1, (confirming_iff l).1 b.2⟩
      simp only [capAfterRead, one, if_false, kind, next]
    · exact slot_becomes fires (endStatusRead_some s.bays[i] s.now _)
  · have fires := statusReadEnd_fires (r := .complete v) run h (.inl k)
    have read : (readBytes (.complete v)).bind decodeStatus = some ⟨v[0].toInt, st, v[3].toNat * 256 + v[2].toNat⟩ :=
      decodeStatus_some known
    rw [read] at fires
    have calmly := (endStatusRead_some s.bays[i] s.now ⟨v[0].toInt, st, v[3].toNat * 256 + v[2].toNat⟩).trans
      (if_neg fun y => calm y.1 y.2)
    obtain ⟨kept, bay⟩ := modBay_finish_kept .stop i
      (fun b => b.endStatusRead s.now (some ⟨v[0].toInt, st, v[3].toNat * 256 + v[2].toNat⟩)) s
    rw [calmly, statusEnd_some] at bay
    exact ⟨_, fires, kept, bay.health, bay.failures, bay.bladeState, bay.margin, bay.lastCap, bay.capUnacked⟩
  · have fires := statusReadEnd_fires (r := r) run h (.inl k)
    have read : (readBytes r).bind decodeStatus = none := by
      cases r with
      | complete v => exact decodeStatus_none (fails v rfl)
      | notAcknowledged => rfl
    rw [read] at fires
    obtain ⟨kept, bay⟩ := modBay_finish_kept .stop i (fun b => b.endStatusRead s.now none) s
    rw [endStatusRead_none, statusEnd_failed ((kind_inFlight h).trans (congrArg some k))] at bay
    exact ⟨_, fires, kept, bay.failures, bay.health, bay.margin, bay.bladeState⟩
  · have fires := statusReadEnd_fires (r := .complete v) run h (.inl k)
    have read : (readBytes (.complete v)).bind decodeStatus =
        some ⟨v[0].toInt, .softOffRequest, v[3].toNat * 256 + v[2].toNat⟩ := decodeStatus_some (by rw [code]; rfl)
    rw [read] at fires
    have y := statusEnd_some s.bays[i].link s.now ⟨v[0].toInt, .softOffRequest, v[3].toNat * 256 + v[2].toNat⟩
    have record : (s.bays[i].link.statusEnd s.now (some ⟨v[0].toInt, .softOffRequest,
      v[3].toNat * 256 + v[2].toNat⟩)).record = s.bays[i].link.record := by rw [y]
    have stops := (endStatusRead_some s.bays[i] s.now ⟨v[0].toInt, .softOffRequest, v[3].toNat * 256 + v[2].toNat⟩).trans
      (if_pos ⟨rfl, st⟩)
    have steady : Steady i (modBay .stop i
        (fun b => b.endStatusRead s.now (some ⟨v[0].toInt, .softOffRequest, v[3].toNat * 256 + v[2].toNat⟩)) ⟨s, []⟩) := by
      refine stop_steady ?_ ?_ ?_ ?_ <;> rw [stops]
      · rw [toDraining_sets]
      · exact stop_charge_link record st valid ad ..
      · show (s.bays[i].link.statusEnd _ _).held = none
        rw [y]
        exact held
      · exact pend
    obtain ⟨t, e, kept, seq⟩ := slot_moves_steady fires steady
    rw [stops, toDraining_sets] at seq
    refine ⟨t, e, kept, ?_⟩
    rw [seq]
    exact ⟨rfl, rfl, rfl, rfl⟩

end Sys2Proof.Machine

end

section
/-! PROOF. The inventory read: its READs, its end for each purpose, and the figures of a record. -/

namespace Sys2Proof.Machine

/-! ### The READs of an inventory read -/

section
variable {l : Link} {x : InventoryItem}

theorem inventoryEnd_gathers (h : l.inventory = some x) (n : x.index < 3) (bytes : List Byte) :
    l.inventoryEnd (some bytes) =
      ({ l with inFlight := none, inventory := some ⟨x.purpose, x.index + 1, 0, x.bytes ++ bytes⟩ }, none) := by
  simp only [Link.inventoryEnd, h, Nat.not_le.2 n, if_false]

theorem inventoryEnd_again (h : l.inventory = some x) (n : x.failed < 2) : l.inventoryEnd none =
    ({ l with inFlight := none, inventory := some { x with failed := x.failed + 1 } }, none) := by
  have tries : ¬Config.sidebandTries ≤ x.failed + 1 := by simp only [Config.sidebandTries]; omega
  simp only [Link.inventoryEnd, h, tries, if_false]

theorem inventoryEnd_record (h : l.inventory = some x) (n : 3 ≤ x.index) (bytes : List Byte) :
    l.inventoryEnd (some bytes) =
      ({ l with inFlight := none, inventory := none }, some (x.purpose, gatheredRecord (x.bytes ++ bytes))) := by
  simp only [Link.inventoryEnd, h, n, if_true]

theorem inventoryEnd_absent (h : l.inventory = some x) (n : 2 ≤ x.failed) : l.inventoryEnd none =
    ({ l with inFlight := none, inventory := none }, some (x.purpose, ⟨[], .absent⟩)) := by
  have tries : Config.sidebandTries ≤ x.failed + 1 := Nat.succ_le_succ n
  simp only [Link.inventoryEnd, h, tries, if_true]

end

/-- The station with the READ ended that ends slot `i`'s inventory read. -/
def readOver (i : SlotIx) (s : State) : State :=
  setBay i (fun b => { b with link := { b.link with inFlight := none, inventory := none } }) s

section
variable {s : State} {i : SlotIx} {t : Txn} {r : ReadResult 24}

theorem readEnd_fires (run : s.run = .running) (h : s.bays[i].link.inFlight = some t) (k : t.kind = .inventory) :
    exec (.sidebandReadEnd i r) s = .next (finish (endInventoryRead i (readBytes r) ⟨s, []⟩)) := by
  have guard : inFlightIs s i (· == .inventory) = true := by
    rw [inFlightIs, kind_inFlight h, k]
    rfl
  exact event_occurs _ run guard

theorem endInventoryRead_goes {y : Link} (e : s.bays[i].link.inventoryEnd (readBytes r) = (y, none)) :
    endInventoryRead i (readBytes r) ⟨s, []⟩ = ⟨setBay i (fun b => { b with link := y }) s, []⟩ := by
  simp only [endInventoryRead, e]
  rfl

variable {p : ReadPurpose} {rec : InvRecord}
  (e : s.bays[i].link.inventoryEnd (readBytes r) =
    ({ s.bays[i].link with inFlight := none, inventory := none }, some (p, rec)))
include e

theorem endInventoryRead_plain (n : ¬(p = .reidentify ∧ ∃ e, entryOf s i = some e ∧ e.purpose = .heldFigures)) :
    endInventoryRead i (readBytes r) ⟨s, []⟩ =
      modBay .fault i (fun b => b.endRead s.now p rec) ⟨readOver i s, []⟩ := by
  have ended : setBay i (fun b => { b with link := { s.bays[i].link with inFlight := none, inventory := none } }) s =
      readOver i s := setBay_congr rfl
  have none : (p == .reidentify && (entryOf (readOver i s) i).any (·.purpose == .heldFigures)) = false := by
    refine Bool.eq_false_of_not_eq_true fun y => n ?_
    simp only [Bool.and_eq_true, beq_iff_eq, Option.any_eq_true] at y
    exact ⟨y.1, y.2⟩
  simp only [endInventoryRead, e, Work.map, ended, none, Bool.false_eq_true, if_false]

theorem endInventoryRead_claimed (n : p = .reidentify ∧ ∃ e, entryOf s i = some e ∧ e.purpose = .heldFigures) :
    endInventoryRead i (readBytes r) ⟨s, []⟩ = modBay .fault i (fun b => b.endRead s.now p rec)
      ⟨withdrawEntry i (setBay i (fun b => { b with link := { b.link with held := none } }) (readOver i s)),
        [.settle i]⟩ := by
  have ended : setBay i (fun b => { b with link := { s.bays[i].link with inFlight := none, inventory := none } }) s =
      readOver i s := setBay_congr rfl
  obtain ⟨rfl, x, held, purpose⟩ := n
  have entry : entryOf (readOver i s) i = some x := held
  have some : (entryOf (setBay i (fun b => { b with link := { b.link with held := none } }) (readOver i s)) i).isSome = true :=
    congrArg Option.isSome held
  have held : (entryOf (readOver i s) i).any (·.purpose == .heldFigures) = true := by
    rw [entry]
    exact beq_iff_eq.2 purpose
  simp only [endInventoryRead, e, Work.map, ended, held, leaveQueue, some, beq_self_eq_true, Bool.and_self, if_true]
  rfl

end

/-! ### The end of the read, by its purpose -/

section
variable {b : Bay} {now : Nat} {rec : InvRecord}

theorem endRead_identifies (p : ReadPurpose) (h : p = .seating ∨ p = .release) (st : b.seq.state = .identify) :
    b.endRead now p rec = ((b.withRecord rec).endIdentify now).fixFigures (figuresFor b.cfg.worstCase rec) := by
  obtain rfl | rfl := h <;> exact if_pos (beq_iff_eq.2 st)

theorem endRead_adoption : b.endRead now .adoption rec =
    let d : Bay := { b with
      seq := { b.seq with
        allowance := some (figuresFor b.cfg.worstCase rec).allowance
        floor := some (figuresFor b.cfg.worstCase rec).floor
        adopted := false }
      link := { b.link with record := some rec, held := none } }
    if b.seq.adopted = true ∧ b.seq.state = .running ∧ d.activeCeiling ≠ b.cfg.worstCase then
      { d with link := d.link.queueCap d.activeCeiling }
    else d := by
  simp only [Bay.endRead, Bay.endAdoption, Bool.and_eq_true, beq_iff_eq, bne_iff_ne, and_assoc]
  rfl

theorem endRead_reidentify : b.endRead now .reidentify rec = (b.withRecord rec).applyReidentify b.charge rec := rfl

end

end Sys2Proof.Machine

end

section
/-! PROOF. The figures of a record, and the statement on inventory reads. -/

namespace Sys2Proof.Machine

/-! ### The figures of a record -/

theorem figuresFor_invalid {worst : Nat} {r : InvRecord} (h : r.status ≠ .valid) :
    figuresFor worst r = ⟨worst, max 1 (worst / 2)⟩ := by
  have half : min (worst / 2) worst = worst / 2 := Nat.min_eq_left (Nat.div_le_self ..)
  cases e : r.status with
  | valid => exact absurd e h
  | suspect | absent => simp only [figuresFor, e, figuresOf, half]

theorem figuresFor_valid {worst : Nat} {r : InvRecord} (h : r.status = .valid) :
    let word (k : Nat) : Nat := natAt r.bytes k * 256 + natAt r.bytes (k + 1)
    let extras := ((List.range (natAt r.bytes 34)).map fun k => word (37 + 4 * k)).sum
    let a := min (word 20 + extras) worst
    figuresFor worst r =
      ⟨a, max 1 (min a (if (natAt r.bytes 72).testBit 0 = true then word 22 else a / 2))⟩ := by
  intro word extras a
  have sum : ((List.range (recordMezzCount r.bytes)).map (recordExtra r.bytes)).foldl (· + ·) 0 = extras :=
    List.sum_eq_foldl.symm
  have floor : (recordFloor r.bytes).getD (a / 2) = if (natAt r.bytes 72).testBit 0 = true then word 22 else a / 2 := by
    show (if (natAt r.bytes 72).testBit 0 = true then some (word 22) else none).getD _ = _
    split <;> rfl
  simp only [figuresFor, h, sum]
  show figuresOf a ((recordFloor r.bytes).getD (a / 2)) = _
  rw [floor, figuresOf, Nat.min_comm]

/-! ### Held figures -/

section
variable {w : Work} {i : SlotIx}

theorem settleHeld_idle (h : w.st.bays[i].link.held = none ∨ w.st.bays[i].seq.state ≠ .running ∨
    (entryOf w.st i).isSome = true) : settleHeld i w = w := by
  simp only [settleHeld]
  split
  · rfl
  · next f e =>
    refine if_neg fun y => ?_
    simp only [Bool.and_eq_true, beq_iff_eq, Option.isNone_iff_eq_none] at y
    obtain h | h | h := h
    · exact absurd (h.symm.trans e) nofun
    · exact h y.1
    · rw [y.2] at h
      exact absurd h nofun

variable {f : Figures} (held : w.st.bays[i].link.held = some f) (run : w.st.bays[i].seq.state = .running)
  (free : entryOf w.st i = none)
include held run free

theorem settleHeld_sets (h : (w.st.bays[i].fixFigures f).charge ≤ w.st.bays[i].charge) :
    settleHeld i w = modBay .fault i (fun b => b.fixFigures f) w := by
  have le : (w.st.bays[i].withFigures f).charge ≤ w.st.bays[i].charge := h
  simp only [settleHeld, held, run, free, beq_self_eq_true, Option.isNone_none, Bool.and_self, if_true, le]

theorem settleHeld_claims (h : w.st.bays[i].charge < (w.st.bays[i].fixFigures f).charge) :
    settleHeld i w =
      w.map (handEntry i .heldFigures ((w.st.bays[i].fixFigures f).charge - w.st.bays[i].charge)) := by
  have gt : ¬(w.st.bays[i].withFigures f).charge ≤ w.st.bays[i].charge := Nat.not_le.2 h
  simp only [settleHeld, held, run, free, beq_self_eq_true, Option.isNone_none, Bool.and_self, if_true, gt, if_false]
  rfl

end

/-! ### The end of identification -/

theorem endIdentify_open {b : Bay} {now : Nat} (o : b.seq.ejectorOpen = true) : b.endIdentify now = b.toOff now true := by
  simp only [Bay.endIdentify, identifyNext, o, if_true]

theorem endIdentify_hold {b : Bay} {now : Nat} (o : b.seq.ejectorOpen = false) (p : b.cfg.startPolicy = .hold) :
    b.endIdentify now = b.toOff now false := by
  simp only [Bay.endIdentify, identifyNext, o, p, Bool.false_eq_true, if_false]

theorem endIdentify_auto {b : Bay} {now : Nat} (o : b.seq.ejectorOpen = false) (p : b.cfg.startPolicy = .auto) :
    b.endIdentify now = b.enter now .waitPower none := by
  simp only [Bay.endIdentify, identifyNext, o, p, Bool.false_eq_true, if_false]

/-- The slot at the end of identification, with its figures fixed (R43, R44). -/
theorem identified {b x : Bay} {now : Nat} {rec : InvRecord}
    (k : BayKept (((b.withRecord rec).endIdentify now).fixFigures (figuresFor b.cfg.worstCase rec)) x) :
    x.link.record = some rec ∧ x.link.inventory = b.link.inventory ∧
    x.seq.state = (if b.seq.ejectorOpen then .off else
      match b.cfg.startPolicy with
      | .auto => .waitPower
      | .hold => .off) ∧
    x.seq.allowance = some (figuresFor b.cfg.worstCase rec).allowance ∧
    x.seq.floor = some (figuresFor b.cfg.worstCase rec).floor ∧ x.seq.ejectorHold = b.seq.ejectorOpen := by
  cases o : b.seq.ejectorOpen with
  | true =>
    rw [endIdentify_open (b := b.withRecord rec) o] at k
    obtain ⟨y, z, seq⟩ := (k.unpowered rfl).2
    rw [seq]
    exact ⟨k.record, k.inventory, rfl, rfl, rfl, rfl⟩
  | false =>
    cases p : b.cfg.startPolicy with
    | hold =>
      rw [endIdentify_hold (b := b.withRecord rec) o p] at k
      obtain ⟨y, z, seq⟩ := (k.unpowered rfl).2
      rw [seq]
      exact ⟨k.record, k.inventory, rfl, rfl, rfl, rfl⟩
    | auto =>
      rw [endIdentify_auto (b := b.withRecord rec) o p] at k
      obtain ⟨y, z, seq⟩ := (k.unpowered rfl).2
      rw [seq]
      exact ⟨k.record, k.inventory, rfl, rfl, rfl, Bool.and_false _⟩

/-! ### The figures of a REIDENTIFY -/

section
variable {b : Bay} {rec : InvRecord} {n : Nat}

theorem applyReidentify_powered (h : b.powered = true) : b.applyReidentify n rec =
    if rec.status = .valid ∧ n < (b.fixFigures (figuresFor b.cfg.worstCase rec)).charge then
      b.holdFigures (figuresFor b.cfg.worstCase rec)
    else b.fixFigures (figuresFor b.cfg.worstCase rec) := by
  simp only [Bay.applyReidentify, h, if_true, Bool.and_eq_true, beq_iff_eq, decide_eq_true_eq]
  rfl

theorem applyReidentify_waits (h : b.seq.state = .waitPower ∨ b.seq.state = .shedOff) : b.applyReidentify n rec =
    if (figuresFor b.cfg.worstCase rec).allowance ≤ b.seq.allowance.getD 0 then
      b.fixFigures (figuresFor b.cfg.worstCase rec)
    else b.holdFigures (figuresFor b.cfg.worstCase rec) := by
  have off : b.powered = false := unpowered_of (by obtain h | h := h <;> rw [h] <;> decide)
  obtain h | h := h <;> simp only [Bay.applyReidentify, off, h, Bool.false_eq_true, if_false]

theorem applyReidentify_other (off : b.powered = false) (w : b.seq.state ≠ .waitPower) (s : b.seq.state ≠ .shedOff) :
    b.applyReidentify n rec = b.fixFigures (figuresFor b.cfg.worstCase rec) := by
  simp only [Bay.applyReidentify, off, Bool.false_eq_true, if_false]
  split
  · next e => exact absurd e w
  · next e => exact absurd e s
  all_goals rfl

end

/-- Settles O47: the READs of a read, its end for each purpose, the figures of a record, and the held figures settled. -/
theorem inventoryReadsGather : Obligations.InventoryReadsGather := by
  refine ⟨fun s i t x run h k item => ?_, fun b now rec => ?_, fun worst r => ?_,
    fun w i => ⟨settleHeld_idle, fun f held run free => ?_⟩⟩
  · intro l becomes
    have goes {r : ReadResult 24} {y : Link} (e : l.inventoryEnd (readBytes r) = (y, none)) : becomes r y := by
      refine (readEnd_fires run h k).trans ?_
      rw [endInventoryRead_goes e, finish_done]
    refine ⟨fun v n => goes (inventoryEnd_gathers item n v.toList), fun n => goes (inventoryEnd_again item n),
      fun r rec last => ?_⟩
    have ended : l.inventoryEnd (readBytes r) = ({ l with inFlight := none, inventory := none }, some (x.purpose, rec)) := by
      obtain ⟨v, rfl, n, rfl⟩ | ⟨rfl, n, rfl⟩ := last
      · exact inventoryEnd_record item n v.toList
      · exact inventoryEnd_absent item n
    intro w unheld claimed
    have plain (n : ¬claimed) : exec (.sidebandReadEnd i r) s =
        .next (finish (modBay .fault i (fun b => b.endRead s.now x.purpose rec) w)) := by
      refine (readEnd_fires run h k).trans ?_
      rw [endInventoryRead_plain ended n]
      rfl
    refine ⟨fun p st => ?_, plain, fun c => ?_⟩
    · have n : ¬claimed := fun c => by
        rw [c.1] at p
        exact p.elim nofun nofun
      obtain ⟨kept, bay⟩ := modBay_finish_kept .fault i (fun b => b.endRead s.now x.purpose rec) w.st
      have at' : w.st.bays[i] = { s.bays[i] with link := { l with inFlight := none, inventory := none } } := updAt_self ..
      rw [endRead_identifies (b := w.st.bays[i]) x.purpose p (by rw [at']; exact st), at'] at bay
      obtain ⟨record, inventory, state, allowance, floor, hold⟩ := identified bay
      refine ⟨_, plain n, ?_, inventory, record, state, allowance, floor, hold⟩
      rw [KeptBut, setBay_setBay] at kept
      exact kept
    · refine (readEnd_fires run h k).trans ?_
      rw [endInventoryRead_claimed ended c]
      rfl
  · intro f set holds freed
    refine ⟨fun n => ⟨if_neg (ne_true_of_eq_false (beq_false_of_ne n)), if_neg (ne_true_of_eq_false (beq_false_of_ne n))⟩,
      endRead_adoption, fun p => applyReidentify_powered (b := b.withRecord rec) p,
      fun st => applyReidentify_waits (b := b.withRecord rec) st,
      fun off w s => applyReidentify_other (b := b.withRecord rec) off w s⟩
  · intro f word extras
    refine ⟨fun n => ?_, fun v => ?_⟩
    · rw [show f = _ from figuresFor_invalid n]
      exact ⟨rfl, rfl⟩
    · have e : f = _ := figuresFor_valid v
      rw [e]
      exact ⟨rfl, rfl⟩
  · exact ⟨settleHeld_sets held run free, settleHeld_claims held run free⟩

end Sys2Proof.Machine

end

section
/-! PROOF. The sequencer on a sample and the compliance check, and the sample itself. -/

namespace Sys2Proof.Machine

/-! ### What a sample does to the sequencer -/

/-- Where the bay's current has fallen after the shutdown write, as a proposition. -/
theorem drained_iff (b : Bay) : b.drained = true ↔
    b.draining = true ∧ b.seq.shutdownEnded = true ∧ b.meter.amp < b.cfg.stuckThreshold := by
  simp only [Bay.drained, Bool.and_eq_true, decide_eq_true_eq, and_assoc]

theorem overdraws_iff (b : Bay) : b.overdraws = true ↔ b.seq.state = .running ∧ b.link.hold = .ended ∧
    b.activeCeiling + b.activeCeiling / 20 < b.meter.powerAvg / 4 := by
  simp only [Bay.overdraws, Bool.and_eq_true, decide_eq_true_eq, beq_iff_eq, and_assoc]
  rfl

section
variable {w : Work} {i : SlotIx}

theorem sampleActs_lifts (r : w.st.bays[i].seq.state = .ramp)
    (g : 9 * w.st.stationVolt ≤ 10 * w.st.bays[i].meter.volt) :
    sampleActs i w = modBay .fault i (fun b => b.toRunning w.st.now w.st.tst) w :=
  if_pos (by rw [r, powerGood, decide_eq_true g]; rfl)

theorem sampleActs_drained (d : w.st.bays[i].drained = true) :
    sampleActs i w = modBay .fault i (fun b => b.endDraining w.st.now) w := by
  have stopping := (draining_iff.1 ((drained_iff _).1 d).1).1
  have ramping : ¬(w.st.bays[i].seq.state == .ramp && powerGood w.st.bays[i].meter.volt w.st.stationVolt) = true := by
    rw [stopping]; exact Bool.noConfusion
  exact (if_neg ramping).trans (if_pos d)

theorem sampleActs_stays
    (r : ¬(w.st.bays[i].seq.state = .ramp ∧ 9 * w.st.stationVolt ≤ 10 * w.st.bays[i].meter.volt))
    (d : ¬w.st.bays[i].drained = true) : sampleActs i w = w := by
  have ramping : ¬(w.st.bays[i].seq.state == .ramp && powerGood w.st.bays[i].meter.volt w.st.stationVolt) = true := by
    rw [Bool.and_eq_true, beq_iff_eq, powerGood, decide_eq_true_eq]; exact r
  exact (if_neg ramping).trans (if_neg d)

theorem complianceCheck_deficit (h : w.st.bays[i].overdraws = true) (c : w.st.census = none)
    (d : w.st.budget.deficit = true) : complianceCheck i w = powerOff i .noncompliant w := by
  rw [complianceCheck, if_pos h, c, d]
  rfl

theorem complianceCheck_accepts (h : w.st.bays[i].overdraws = true)
    (c : w.st.census.isSome = true ∨ w.st.budget.deficit = false) :
    complianceCheck i w = modBay .fault i Bay.acceptOverdraw w := by
  rw [complianceCheck, if_pos h]
  refine if_neg fun e => ?_
  obtain ⟨n, d⟩ := Bool.and_eq_true_iff.1 e
  obtain c | c := c
  · rw [Option.isNone_iff_eq_none.1 n] at c; exact Bool.noConfusion c
  · exact absurd (d.symm.trans c) Bool.noConfusion

theorem complianceCheck_stays (h : ¬w.st.bays[i].overdraws = true) : complianceCheck i w = w := if_neg h

end

/-- The end of draining, as it leaves the sequencer (R54). -/
theorem endDraining_seq (b : Bay) (now : Nat) : let q := (b.endDraining now).seq
    q.gate = .off ∧ q.shedCeiling = none ∧ q.overdraw = none ∧ (q.state = .off ∨ q.phase = some .unseating) := by
  by_cases d : b.seq.dest = some .unseat
  · cases e : b.seq.ejectorOpen
    · rw [endDraining_closed d e]
      exact ⟨Seq.cut_gate .., rfl, rfl, .inl rfl⟩
    · rw [endDraining_unseats ⟨d, e⟩]
      exact ⟨Seq.cut_gate .., rfl, rfl, .inr rfl⟩
  · rw [endDraining_off d]
    exact ⟨Seq.cut_gate .., rfl, rfl, .inl rfl⟩

section
variable {w : Work} {i : SlotIx} (c : ShutdownCause)

theorem powerOff_closed (p : w.st.bays[i].powered = true) (e : w.st.bays[i].seq.ejectorOpen = false) :
    (powerOff i c w).st.bays[i].seq = (w.st.bays[i].toShedOff w.st.now c).seq := by
  have one : powerOff i c w = modBay .fault i (fun b => b.toShedOff w.st.now c) w :=
    (if_pos p).trans (if_neg (by rw [e]; exact Bool.noConfusion))
  rw [one, modBay_bay, capFollows_seq]

/-- With its ejector open the slot goes on from SHED_OFF to OFF (R57). -/
theorem powerOff_ejected (p : w.st.bays[i].powered = true) (e : w.st.bays[i].seq.ejectorOpen = true) :
    ∃ x : Bay, x.seq = (w.st.bays[i].toShedOff w.st.now c).seq ∧
      (powerOff i c w).st.bays[i].seq = (x.toOff w.st.now true).seq := by
  have both : powerOff i c w = modBay .fault i (fun b => b.toOff w.st.now true)
      (modBay .fault i (fun b => b.toShedOff w.st.now c) w) := (if_pos p).trans (if_pos e)
  refine ⟨_, ?_, by rw [both, modBay_bay, capFollows_seq]⟩
  rw [modBay_bay, capFollows_seq]

/-- The bay of a slot that is powered off, outside any pass (R85, R136). -/
theorem powerOff_seq (p : w.st.bays[i].powered = true) : let q := (powerOff i c w).st.bays[i].seq
    q.gate = .off ∧ q.cause = c ∧ q.state = if w.st.bays[i].seq.ejectorOpen then .off else .shedOff := by
  have off := Seq.cut_gate w.st.bays[i].seq w.st.now
  cases e : w.st.bays[i].seq.ejectorOpen
  · rw [powerOff_closed c p e]
    exact ⟨off, rfl, rfl⟩
  · obtain ⟨x, shed, seq⟩ := powerOff_ejected c p e
    rw [seq]
    exact ⟨(congrArg Seq.gate shed).trans off, congrArg Seq.cause shed, rfl⟩

end

/-- Settles O52: each branch of the two operations, and what its one change leaves of the slot. -/
theorem samplesMoveTheSequencer : Obligations.SamplesMoveTheSequencer := by
  intro w i b
  refine ⟨fun r g => ?_, fun d e a => ?_, fun r l c n => ⟨fun d => ?_, fun d => ?_⟩, ?_⟩
  · rw [sampleActs_lifts r g, modBay_bay, capFollows_seq]
    exact ⟨rfl, rfl, rfl, rfl, rfl⟩
  · rw [sampleActs_drained ((drained_iff _).2 ⟨d, e, a⟩), modBay_bay, capFollows_seq]
    exact endDraining_seq ..
  · rw [complianceCheck_accepts ((overdraws_iff _).2 ⟨r, l, c⟩) (.inr d), modBay_bay, capFollows_seq]
    exact ⟨r, rfl, rfl, rfl⟩
  · rw [complianceCheck_deficit ((overdraws_iff _).2 ⟨r, l, c⟩) n d]
    exact powerOff_seq _ (by rw [Bay.powered, r]; rfl)
  · intro lifts drained overdraws
    exact ⟨fun ⟨r, g⟩ => sampleActs_lifts r g, fun d => sampleActs_drained ((drained_iff _).2 d),
      fun l d => sampleActs_stays l (mt (drained_iff _).1 d),
      fun o n d => complianceCheck_deficit ((overdraws_iff _).2 o) n d,
      fun o c => complianceCheck_accepts ((overdraws_iff _).2 o) c,
      fun o => complianceCheck_stays (mt (overdraws_iff _).1 o)⟩

/-! ### What a sample leaves alone -/

theorem cut_kept {b : Bay} (u : b.powered = true) (now : Nat) : BayKept b (b.cut now) := by
  have seq : (b.cut now).seq = b.seq.cut now := rfl
  rw [cut_eq] at seq
  refine .of_powered u ?_ rfl rfl rfl rfl rfl rfl rfl rfl rfl rfl rfl ?_ ?_ ?_ ?_ ?_ ?_ ?_
  · rw [seq]
    exact fun e : b.seq.state = .empty => by simp [Bay.powered, poweredIn, e] at u
  all_goals rw [seq]

/-- A move of a powered bay to a seated state leaves its lasting parts. -/
theorem enter_kept {a b : Bay} (u : a.powered = true) (h : BayKept a b) (now : Nat) {st : SlotState} (n : st ≠ .empty)
    (ph : Option StopPhase) : BayKept a (b.enter now st ph) :=
  .of_powered u n h.1 h.2 h.3 h.4 h.5 h.6 h.7 h.8 h.9 h.10 h.11 h.12 h.13 h.14 h.15 h.16 h.17 h.18

theorem endDraining_kept {b : Bay} (d : b.draining = true) (now : Nat) : BayKept b (b.endDraining now) := by
  obtain ⟨st, ph⟩ := draining_iff.1 d
  have u : b.powered = true := by rw [Bay.powered, st, ph]; rfl
  have c := cut_kept u now
  by_cases e : b.seq.dest = some .unseat
  · cases o : b.seq.ejectorOpen
    · rw [endDraining_closed e o]
      exact toOff_kept u c ..
    · rw [endDraining_unseats ⟨e, o⟩]
      exact enter_kept u c now SlotState.noConfusion _
  · have k := toOff_kept u c now false
    rw [endDraining_off e]
    exact .of_powered u SlotState.noConfusion k.1 k.2 k.3 k.4 k.5 k.6 k.7 k.8 k.9 k.10 k.11 k.12 k.13 k.14 k.15 k.16
      k.17 k.18

theorem toRunning_kept {b : Bay} (r : b.seq.state = .ramp) (now tst : Nat) : BayKept b (b.toRunning now tst) :=
  .of_powered (by rw [Bay.powered, r]; rfl) SlotState.noConfusion rfl rfl rfl rfl rfl rfl rfl rfl rfl rfl rfl rfl rfl rfl
    rfl rfl rfl rfl

theorem sampleActs_kept (i : SlotIx) (w : Work) : Kept w.st (sampleActs i w).st := by
  by_cases l : w.st.bays[i].seq.state = .ramp ∧ 9 * w.st.stationVolt ≤ 10 * w.st.bays[i].meter.volt
  · rw [sampleActs_lifts l.1 l.2]
    exact modBay_kept (toRunning_kept l.1 ..)
  · by_cases d : w.st.bays[i].drained = true
    · rw [sampleActs_drained d]
      exact modBay_kept (endDraining_kept ((drained_iff _).1 d).1 _)
    · rw [sampleActs_stays l d]
      exact Kept.refl _

theorem complianceCheck_kept (i : SlotIx) (w : Work) : Kept w.st (complianceCheck i w).st := by
  by_cases h : w.st.bays[i].overdraws = true
  · simp only [complianceCheck, h, if_true]
    have r := ((overdraws_iff _).1 h).1
    split
    · exact powerOff_kept ..
    · exact modBay_kept (.of_running (beq_iff_eq.2 r) ⟨_, _, _, _, _, rfl⟩ ⟨_, rfl⟩ rfl rfl rfl)
  · rw [complianceCheck_stays h]
    exact Kept.refl _

/-! ### One meter's sample -/

theorem gather_below {m : Meter} (h : m.energy + m.power < 4294967296) : m.gather = { m with
    count := m.count + 1, voltSum := m.voltSum + m.volt, ampSum := m.ampSum + m.amp, powerSum := m.powerSum + m.power
    saturated := m.saturated || m.saturatedNow, peak := max m.peak m.power, samples := (m.samples + 1) % 4294967296
    energy := m.energy + m.power } := if_pos h

theorem gather_rolls {m : Meter} (h : 4294967296 ≤ m.energy + m.power) : m.gather = { m with
    count := m.count + 1, voltSum := m.voltSum + m.volt, ampSum := m.ampSum + m.amp, powerSum := m.powerSum + m.power
    saturated := m.saturated || m.saturatedNow, peak := max m.peak m.power, samples := (m.samples + 1) % 4294967296
    energy := m.energy + m.power - 4294967296, rollovers := satInc m.rollovers } := if_neg (Nat.not_lt.2 h)

theorem gather_count (m : Meter) : m.gather.count = m.count + 1 := by
  simp only [Meter.gather, addEnergy]
  split <;> rfl

/-- The meter with a sample gathered, its window ended where it is full (R92, R93). -/
def Meter.sampled (m : Meter) (n : Nat) : Meter := if n ≤ m.count + 1 then m.gather.endWindow n else m.gather

theorem gathered_eq (b : Bay) (n : Nat) : b.gathered n = { b with meter := b.meter.sampled n } := by
  simp only [Bay.gathered, Meter.sampled, gather_count]

/-- Bay `b`'s meter after a sample: an EMPTY or unfitted bay gathers none (R90, R92). -/
def Bay.sampledMeter (b : Bay) (n : Nat) : Meter :=
  if b.fitted = true ∧ b.seq.state ≠ .empty then b.meter.sampled n else b.meter

/-! ### The slots' part of a sample -/

/-- What the slots' part of a sample does outside the sequencers: each slot listed gathers, and nothing else does. -/
structure Sampling (l : List SlotIx) (s t : State) : Prop where
  settings : t.settings = s.settings
  supplies : t.supplies = s.supplies
  stationVolt : t.stationVolt = s.stationVolt
  meterDue : t.meterDue = s.meterDue
  fitted : ∀ i : SlotIx, t.bays[i].fitted = s.bays[i].fitted
  seated : ∀ i : SlotIx, t.bays[i].seq.state = .empty ↔ s.bays[i].seq.state = .empty
  meter : ∀ i : SlotIx, t.bays[i].meter = if i ∈ l then s.bays[i].sampledMeter (windowLength s) else s.bays[i].meter

theorem Sampling.of_kept {s t : State} (k : Kept s t) : Sampling [] s t where
  settings := k.settings
  supplies := k.supplies
  stationVolt := k.stationVolt
  meterDue := k.meterDue
  fitted i := (k.bays i).fitted
  seated i := (k.bays i).seated
  meter i := (k.bays i).meter

theorem sampledMeter_congr {a b : Bay} (f : b.fitted = a.fitted) (e : b.seq.state = .empty ↔ a.seq.state = .empty)
    (m : b.meter = a.meter) (n : Nat) : b.sampledMeter n = a.sampledMeter n := by
  simp only [Bay.sampledMeter, f, m, ne_eq, e]

theorem Sampling.trans {l k : List SlotIx} {s t u : State} (h : Sampling l s t) (g : Sampling k t u)
    (apart : ∀ i ∈ k, i ∉ l) : Sampling (k ++ l) s u where
  settings := g.settings.trans h.settings
  supplies := g.supplies.trans h.supplies
  stationVolt := g.stationVolt.trans h.stationVolt
  meterDue := g.meterDue.trans h.meterDue
  fitted i := (g.fitted i).trans (h.fitted i)
  seated i := (g.seated i).trans (h.seated i)
  meter i := by
    have same := h.meter i
    by_cases m : i ∈ k
    · rw [if_neg (apart i m)] at same
      rw [g.meter i, if_pos m, if_pos (List.mem_append_left _ m), windowLength, h.settings]
      exact sampledMeter_congr (h.fitted i) (h.seated i) same _
    · rw [g.meter i, if_neg m, same]
      simp only [List.mem_append, m, false_or]

theorem gathers_sampling (i : SlotIx) (s : State) (f : s.bays[i].fitted = true) (e : s.bays[i].seq.state ≠ .empty) :
    Sampling [i] s (setBay i (fun b => b.gathered (windowLength s)) s) := by
  have bay (j : SlotIx) : (setBay i (fun b => b.gathered (windowLength s)) s).bays[j] =
      if i = j then { s.bays[j] with meter := s.bays[j].meter.sampled (windowLength s) } else s.bays[j] := by
    rw [setBay_bays, updAt_get]
    split
    · next h => subst h; exact gathered_eq ..
    · rfl
  refine ⟨rfl, rfl, rfl, rfl, fun j => ?_, fun j => ?_, fun j => ?_⟩
  · rw [bay]; split <;> rfl
  · rw [bay]; split <;> rfl
  · rw [bay]
    by_cases h : i = j
    · subst h
      rw [if_pos rfl, if_pos (.head _), Bay.sampledMeter, if_pos ⟨f, e⟩]
    · rw [if_neg h, if_neg fun m => h (List.mem_singleton.1 m).symm]

theorem sampleGathers_sampling (i : SlotIx) (w : Work) (f : w.st.bays[i].fitted = true) :
    Sampling [i] w.st (sampleGathers i w).st := by
  by_cases e : w.st.bays[i].seq.state = .empty
  · have same : sampleGathers i w = w := if_pos (beq_iff_eq.2 e)
    rw [same]
    refine { Sampling.of_kept (Kept.refl w.st) with meter := fun j => ?_ }
    split
    · next m =>
      rw [List.mem_singleton.1 m, Bay.sampledMeter, if_neg fun h => h.2 e]
    · rfl
  · have g := gathers_sampling i w.st f e
    simp only [sampleGathers, beq_false_of_ne e, Bool.false_eq_true, if_false]
    split
    · exact g.trans (.of_kept (complianceCheck_kept i (w.map (setBay i fun b => b.gathered (windowLength w.st))))) nofun
    · exact g

theorem sampleSlot_sampling (i : SlotIx) (w : Work) : Sampling [i] w.st (sampleSlot i w).st := by
  by_cases f : w.st.bays[i].fitted = true
  · have acted := Sampling.of_kept ((sampleActs_kept i w).trans (flush_kept _))
    have gathered := sampleGathers_sampling i (flush (sampleActs i w)) ((acted.fitted i).trans f)
    simp only [sampleSlot, f, if_true]
    exact (acted.trans gathered nofun).trans (.of_kept (flush_kept _)) nofun
  · simp only [sampleSlot, f, Bool.false_eq_true, if_false]
    refine { Sampling.of_kept (Kept.refl w.st) with meter := fun j => ?_ }
    split
    · next m =>
      rw [List.mem_singleton.1 m, Bay.sampledMeter, if_neg fun h => f h.1]
    · rfl

/-- The four slots' part of a sample: every slot gathers once. -/
theorem sampleSlots_sampling (w : Work) :
    Sampling [3, 2, 1, 0] w.st (sampleSlot 3 (sampleSlot 2 (sampleSlot 1 (sampleSlot 0 w)))).st :=
  (((sampleSlot_sampling 0 w).trans (sampleSlot_sampling 1 _) (by decide)).trans (sampleSlot_sampling 2 _)
    (by decide)).trans (sampleSlot_sampling 3 _) (by decide)

end Sys2Proof.Machine

end

section
/-! PROOF. The supply channels' part of a sample, and the whole sample. -/

namespace Sys2Proof.Machine

/-! ### A channel's state derived afresh -/

theorem deriveSupply_same {w : Work} {c : ChanIx} (h : w.st.supplies[c].derived = w.st.supplies[c].state) :
    deriveSupply c w = w := if_pos (beq_iff_eq.2 h)

theorem deriveSupply_changed {w : Work} {c : ChanIx} (h : w.st.supplies[c].derived ≠ w.st.supplies[c].state) :
    deriveSupply c w =
      let x := w.st.supplies[c].derived
      let t := flush (recompute (w.map (setSupply c fun p => { p with state := x })))
      if alarmed w.st.supplies[c].state x = true then
        t.map (offer (.supplyAlarm c x t.st.settings.supplies[c].rated)) else t :=
  if_neg fun e => h (beq_iff_eq.1 e)

/-- An alarm offered leaves the ROUTINE FIFO. -/
theorem offer_alarm_routine (b : BusPort) (c : ChanIx) (x : SupplyState) (n now tst : Nat) :
    (b.offer (.supplyAlarm c x n) now tst).routine = b.routine := by
  simp only [BusPort.offer]
  split
  · rfl
  · split <;> rfl

/-- What an alarm offered leaves of the URGENT FIFO follows from that FIFO and the message on the bus. -/
theorem offer_alarm_urgent {a b : BusPort} (u : b.urgent = a.urgent) (o : b.onBus = a.onBus) (c : ChanIx)
    (x : SupplyState) (n now tst : Nat) :
    (b.offer (.supplyAlarm c x n) now tst).urgent = (a.offer (.supplyAlarm c x n) now tst).urgent := by
  have won : b.wonBus .urgent = a.wonBus .urgent := by rw [BusPort.wonBus, BusPort.wonBus, o]
  have waits : b.waiting .urgent = a.waiting .urgent := by
    simp only [BusPort.waiting, won, BusPort.fifo, u]
  have merge : merges b (.supplyAlarm c x n) = merges a (.supplyAlarm c x n) := congrArg (·.any (isAlarmOf c)) waits
  have room : hasRoom b (.supplyAlarm c x n) = hasRoom a (.supplyAlarm c x n) :=
    congrArg (fun l : List Outgoing => decide (l.length < Config.urgentCapacity)) u
  simp only [BusPort.offer, merge, room]
  split
  · simp only [BusPort.setWaiting, BusPort.setFifo, won, waits, BusPort.fifo, u]
  · split
    · exact congrArg (· ++ [_]) u
    · exact u

/-- Whether the state that a channel derives is one that is alarmed (R102). -/
def Supply.alarms (p : Supply) : Prop := p.derived ≠ p.state ∧ alarmed p.state p.derived = true

/-- A state derived afresh: it is set, the reports keep what `Kept` lists, and the alarm goes out behind them. -/
theorem deriveSupply_st (c : ChanIx) (w : Work) :
    ∃ u, Kept (setSupply c (fun p => { p with state := p.derived }) w.st) u ∧
      (w.st.supplies[c].alarms → (deriveSupply c w).st =
        offer (.supplyAlarm c w.st.supplies[c].derived w.st.settings.supplies[c].rated) u) ∧
      (¬w.st.supplies[c].alarms → (deriveSupply c w).st = u) := by
  by_cases h : w.st.supplies[c].derived = w.st.supplies[c].state
  · refine ⟨w.st, ?_, fun a => absurd h a.1, fun _ => by rw [deriveSupply_same h]⟩
    have same : setSupply c (fun p => { p with state := p.derived }) w.st = w.st := by
      simp only [setSupply, updAt_same w.st.supplies c (fun p => { p with state := p.derived }) (by rw [h])]
    rw [same]
    exact Kept.refl _
  · have set : setSupply c (fun p => { p with state := p.derived }) w.st =
        setSupply c (fun p => { p with state := w.st.supplies[c].derived }) w.st := rfl
    rw [deriveSupply_changed h, set]
    have kept := (recompute_kept (w.map (setSupply c fun p => { p with state := w.st.supplies[c].derived }))).trans
      (flush_kept _)
    refine ⟨_, kept, fun a => ?_, fun a => ?_⟩
    · simp only [a.2, if_true, map_st, kept.settings]
      rfl
    · rw [if_neg fun x => a ⟨h, x⟩]

/-- A state derived afresh changes, outside what the reports may touch, the state of its channel. -/
theorem deriveSupply_leaves (c : ChanIx) (w : Work) : let t := (deriveSupply c w).st
    t.settings = w.st.settings ∧ t.stationVolt = w.st.stationVolt ∧ t.meterDue = w.st.meterDue ∧
      (∀ i : SlotIx, t.bays[i].meter = w.st.bays[i].meter) ∧ t.peers = w.st.peers ∧
      t.bus.routine = w.st.bus.routine ∧
      t.supplies = updAt w.st.supplies c fun p => { p with state := p.derived } := by
  obtain ⟨u, k, alarm, quiet⟩ := deriveSupply_st c w
  by_cases a : w.st.supplies[c].alarms
  · simp only [alarm a]
    exact ⟨k.settings, k.stationVolt, k.meterDue, fun i => (k.bays i).meter, k.peers,
      (offer_alarm_routine ..).trans k.bus.routine, k.supplies⟩
  · simp only [quiet a]
    exact ⟨k.settings, k.stationVolt, k.meterDue, fun i => (k.bays i).meter, k.peers, k.bus.routine, k.supplies⟩

/-! ### One channel's part of a sample -/

section
variable {w : Work} {m : Sample} {c : ChanIx}

theorem sampleSupply_unfitted (f : supplyFitted w.st c = false) : sampleSupply m c w = w :=
  if_neg (by rw [f]; exact Bool.noConfusion)

/-- The sum of a channel's output block with a sample gathered (R100). -/
def blockSumAfter (m : Sample) (c : ChanIx) (s : State) : Nat :=
  s.supplies[c].blockSum + ampCode m.outputs[c] * s.stationVolt * s.settings.supplies[c].senseScale

theorem gathered_channel (s : State) (f : Supply → Supply) : (setSupply c f s).supplies[c] = f s.supplies[c] :=
  updAt_self ..

theorem sampleSupply_below (f : supplyFitted w.st c = true) (n : w.st.supplies[c].blockCount + 1 < 16) :
    sampleSupply m c w = w.map (setSupply c fun p => { p with
      blockCount := p.blockCount + 1, blockSum := blockSumAfter m c w.st }) := by
  have short (g : Supply → Supply) (e : (g w.st.supplies[c]).blockCount = w.st.supplies[c].blockCount + 1) :
      ¬16 ≤ (w.map (setSupply c g)).st.supplies[c].blockCount := by
    rw [map_st, gathered_channel, e]
    exact Nat.not_le.2 n
  simp only [sampleSupply, f, if_true]
  exact if_neg (short _ rfl)

theorem setSupply_setSupply (s : State) (f g : Supply → Supply) :
    setSupply c g (setSupply c f s) = setSupply c (fun p => g (f p)) s := by
  simp only [setSupply, updAt, Fin.getElem_fin, Vector.getElem_set_self, Vector.set_set]

theorem sampleSupply_ends (f : supplyFitted w.st c = true) (n : 16 ≤ w.st.supplies[c].blockCount + 1) :
    sampleSupply m c w = deriveSupply c (w.map (setSupply c fun p => { p with
      output := blockSumAfter m c w.st / 64000
      loaded := decide (9 * w.st.settings.supplies[c].rated < 10 * (blockSumAfter m c w.st / 64000))
      blockCount := 0, blockSum := 0 })) := by
  have full (g : Supply → Supply) (e : (g w.st.supplies[c]).blockCount = w.st.supplies[c].blockCount + 1) :
      16 ≤ (w.map (setSupply c g)).st.supplies[c].blockCount := by
    rw [map_st, gathered_channel, e]
    exact n
  simp only [sampleSupply, f, if_true]
  refine (if_pos (full _ rfl)).trans (congrArg (deriveSupply c) ?_)
  exact congrArg (Work.mk · _) (setSupply_setSupply ..)

end

/-- A channel with a sample gathered, its block ended where it is full and its state then derived (R100, R101). -/
def Supply.sampled (p : Supply) (sum rated : Nat) : Supply :=
  if 16 ≤ p.blockCount + 1 then
    let q : Supply := { p with
      output := sum / 64000, loaded := decide (9 * rated < 10 * (sum / 64000)), blockCount := 0, blockSum := 0 }
    { q with state := q.derived }
  else { p with blockCount := p.blockCount + 1, blockSum := sum }

/-- What one channel's part of a sample does: the channel gathers where it is fitted, and the meters stay. -/
structure Supplied (m : Sample) (c : ChanIx) (s t : State) : Prop where
  settings : t.settings = s.settings
  stationVolt : t.stationVolt = s.stationVolt
  meterDue : t.meterDue = s.meterDue
  meter : ∀ i : SlotIx, t.bays[i].meter = s.bays[i].meter
  other : ∀ d : ChanIx, d ≠ c → t.supplies[d] = s.supplies[d]
  channel : supplyFitted s c = true →
    t.supplies[c] = s.supplies[c].sampled (blockSumAfter m c s) s.settings.supplies[c].rated

theorem sampleSupply_supplied (m : Sample) (c : ChanIx) (w : Work) : Supplied m c w.st (sampleSupply m c w).st := by
  cases f : supplyFitted w.st c
  · rw [sampleSupply_unfitted f]
    exact ⟨rfl, rfl, rfl, fun _ => rfl, fun _ _ => rfl, fun h => absurd (f.symm.trans h) Bool.noConfusion⟩
  · by_cases n : 16 ≤ w.st.supplies[c].blockCount + 1
    · obtain ⟨settings, volt, due, meter, -, -, supplies⟩ := deriveSupply_leaves c (w.map (setSupply c fun p => { p with
        output := blockSumAfter m c w.st / 64000
        loaded := decide (9 * w.st.settings.supplies[c].rated < 10 * (blockSumAfter m c w.st / 64000))
        blockCount := 0, blockSum := 0 }))
      rw [sampleSupply_ends f n]
      refine ⟨settings, volt, due, meter, fun d h => ?_, fun _ => ?_⟩
      · rw [supplies, updAt_ne _ _ _ _ h.symm]
        exact updAt_ne _ _ _ _ h.symm
      · rw [supplies, updAt_self, map_st, gathered_channel, Supply.sampled, if_pos n]
    · rw [sampleSupply_below f (Nat.not_le.1 n)]
      refine ⟨rfl, rfl, rfl, fun _ => rfl, fun d h => updAt_ne _ _ _ _ h.symm, fun _ => ?_⟩
      rw [map_st, gathered_channel, Supply.sampled, if_neg n]

/-! ### The whole sample -/

theorem takeLatest_bay (m : Sample) (s : State) (i : SlotIx) : (takeLatest m s).bays[i] =
    if s.bays[i].fitted = true then
      { s.bays[i] with meter := s.bays[i].meter.latest (voltCode m.volts[i]) (ampCode m.amps[i]) }
    else s.bays[i] := by
  match i with
  | 0 | 1 | 2 | 3 => rfl

/-- What a whole sample leaves: each meter and each channel sampled, whatever the sequencers do meanwhile. -/
structure Sampled (m : Sample) (s t : State) : Prop where
  meterDue : t.meterDue = s.meterDue + 1
  stationVolt : t.stationVolt = voltCode m.station
  meter : ∀ i : SlotIx, t.bays[i].meter = (takeLatest m s).bays[i].sampledMeter (windowLength s)
  channel : ∀ c : ChanIx, supplyFitted s c = true → t.supplies[c] = s.supplies[c].sampled
    (s.supplies[c].blockSum + ampCode m.outputs[c] * voltCode m.station * s.settings.supplies[c].senseScale)
    s.settings.supplies[c].rated

theorem takeSample_sampled (m : Sample) (s : State) : Sampled m s (finish (takeSample m ⟨s, []⟩)) := by
  have slots := sampleSlots_sampling ⟨takeLatest m { s with meterDue := s.meterDue + 1 }, []⟩
  have whole : takeSample m ⟨s, []⟩ = sampleSupply m 1 (sampleSupply m 0 (sampleSlot 3 (sampleSlot 2 (sampleSlot 1
    (sampleSlot 0 ⟨takeLatest m { s with meterDue := s.meterDue + 1 }, []⟩))))) := rfl
  rw [whole]
  generalize sampleSlot 3 (sampleSlot 2 (sampleSlot 1
    (sampleSlot 0 ⟨takeLatest m { s with meterDue := s.meterDue + 1 }, []⟩))) = v at slots ⊢
  have first := sampleSupply_supplied m 0 v
  have second := sampleSupply_supplied m 1 (sampleSupply m 0 v)
  have kept := finish_kept (sampleSupply m 1 (sampleSupply m 0 v))
  have volt : v.st.stationVolt = voltCode m.station := slots.stationVolt
  have settings : v.st.settings = s.settings := slots.settings
  have supplies : v.st.supplies = s.supplies := slots.supplies
  have fitted (c : ChanIx) : supplyFitted v.st c = supplyFitted s c := by rw [supplyFitted, supplyFitted, settings]
  refine ⟨?_, ?_, fun i => ?_, fun c f => ?_⟩
  · rw [kept.meterDue, second.meterDue, first.meterDue, slots.meterDue]
    rfl
  · rw [kept.stationVolt, second.stationVolt, first.stationVolt, volt]
  · rw [(kept.bays i).meter, second.meter, first.meter, slots.meter i, if_pos (by revert i; decide)]
    rfl
  · rw [kept.supplies]
    match c, f with
    | 0, f =>
      rw [second.other 0 (by decide), first.channel ((fitted 0).trans f), blockSumAfter, supplies, settings, volt]
    | 1, f =>
      have f' : supplyFitted (sampleSupply m 0 v).st 1 = true := by
        rw [supplyFitted, first.settings]
        exact (fitted 1).trans f
      rw [second.channel f', blockSumAfter, first.other 1 (by decide), first.stationVolt, first.settings,
        supplies, settings, volt]

/-- A window that goes on gathers, and one that is full ends with its averages (R92, R93). -/
theorem sampled_window (a : Meter) (n : Nat) :
    (a.count + 1 < n → a.sampled n = a.gather) ∧ (n ≤ a.count + 1 → a.sampled n = a.gather.endWindow n) :=
  ⟨fun h => if_neg (Nat.not_le.2 h), fun h => if_pos h⟩

/-- What neither the gathering nor the window's end touches, and what the gathering does to the totals (R92, R96). -/
theorem sampled_totals (a : Meter) (n : Nat) : let b := a.sampled n
    b.volt = a.volt ∧ b.amp = a.amp ∧ b.power = a.power ∧ b.samples = (a.samples + 1) % 4294967296 ∧
      b.peak = max a.peak a.power ∧
      (a.energy + a.power < 4294967296 → b.energy = a.energy + a.power ∧ b.rollovers = a.rollovers) ∧
      (4294967296 ≤ a.energy + a.power →
        b.energy = a.energy + a.power - 4294967296 ∧ b.rollovers = satInc a.rollovers) := by
  by_cases h : a.energy + a.power < 4294967296
  · have low : ¬4294967296 ≤ a.energy + a.power := Nat.not_le.2 h
    simp only [Meter.sampled, gather_below h]
    split <;> exact ⟨rfl, rfl, rfl, rfl, rfl, fun _ => ⟨rfl, rfl⟩, fun x => absurd x low⟩
  · simp only [Meter.sampled, gather_rolls (Nat.not_lt.1 h)]
    split <;> exact ⟨rfl, rfl, rfl, rfl, rfl, fun x => absurd x h, fun _ => ⟨rfl, rfl⟩⟩

/-- The sums of a window with a sample gathered (R92). -/
theorem gather_sums (a : Meter) : let g := a.gather
    g.voltSum = a.voltSum + a.volt ∧ g.ampSum = a.ampSum + a.amp ∧ g.powerSum = a.powerSum + a.power ∧
      g.powerAvg = a.powerAvg ∧ g.saturated = (a.saturated || a.saturatedNow) := by
  simp only [Meter.gather, addEnergy]
  split <;> exact ⟨rfl, rfl, rfl, rfl, rfl⟩

/-- Settles O51: the order of one sample, each part of it, and what the whole leaves of each meter and channel. -/
theorem samplesAreGathered : Obligations.SamplesAreGathered := by
  refine ⟨fun s m run due => ?_, fun s m => ⟨rfl, fun i => ?_⟩, fun w i => ⟨?_, ?_, ?_, ?_⟩, fun w m c => ?_,
    fun s m run due => ?_⟩
  · exact event_occurs _ run (decide_eq_true due)
  · rw [takeLatest_bay]
    rfl
  · intro f
    exact if_pos f
  · intro f
    exact if_neg (by rw [f]; exact Bool.noConfusion)
  · intro e
    exact if_pos (beq_iff_eq.2 e)
  · intro e
    simp only [sampleGathers, beq_false_of_ne e, Bool.false_eq_true, if_false, gathered_eq]
    rfl
  · refine ⟨sampleSupply_unfitted, fun f => ⟨sampleSupply_below f, sampleSupply_ends f⟩⟩
  · obtain ⟨meterDue, stationVolt, meter, channel⟩ := takeSample_sampled m s
    have due' : decide (s.meterDue ≤ s.now) = true := decide_eq_true due
    refine ⟨_, event_occurs _ run due', fun i ends => event_occurs _ run (Bool.and_eq_true_iff.2 ⟨due', ends⟩),
      fun c ends => event_occurs _ run (Bool.and_eq_true_iff.2 ⟨due', ends⟩), meterDue, stationVolt, fun i f => ?_,
      fun c f => ?_⟩
    · have latest : (takeLatest m s).bays[i] = _ := (takeLatest_bay m s i).trans (if_pos f)
      rw [meter i, latest]
      by_cases e : s.bays[i].seq.state = .empty
      · rw [Bay.sampledMeter, if_neg fun h => h.2 e]
        exact ⟨rfl, rfl, rfl, fun _ => ⟨rfl, rfl, rfl⟩, fun n => absurd e n⟩
      · rw [Bay.sampledMeter, if_pos ⟨f, e⟩]
        obtain ⟨volt, amp, power, samples, peak, low, high⟩ :=
          sampled_totals (s.bays[i].meter.latest (voltCode m.volts[i]) (ampCode m.amps[i])) (windowLength s)
        obtain ⟨more, full⟩ :=
          sampled_window (s.bays[i].meter.latest (voltCode m.volts[i]) (ampCode m.amps[i])) (windowLength s)
        obtain ⟨voltSum, ampSum, powerSum, powerAvg, saturated⟩ :=
          gather_sums (s.bays[i].meter.latest (voltCode m.volts[i]) (ampCode m.amps[i]))
        refine ⟨volt, amp, power, fun x => absurd x e, fun _ => ⟨samples, peak, low, high, fun h => ?_, fun h => ?_⟩⟩
        · rw [more h]
          exact ⟨gather_count _, powerSum, powerAvg⟩
        · rw [full h]
          refine ⟨rfl, congrArg (· / _) voltSum, congrArg (· / _) ampSum, congrArg (· / _) powerSum,
            saturated.trans (Bool.or_assoc ..).symm⟩
    · rw [channel c f]
      refine ⟨fun n => if_neg (Nat.not_le.2 n), fun n => ?_⟩
      rw [Supply.sampled, if_pos n]
      exact ⟨rfl, rfl, rfl, rfl⟩

end Sys2Proof.Machine

end

section
/-! PROOF. The conditioned inputs of a supply channel. -/

namespace Sys2Proof.Machine

theorem debounce_eq (level held : Bool) (now period : Nat) :
    debounce level held now period = if level = held then none else some (now + period) := by
  simp only [debounce, bne_iff_ne, ne_eq, ite_not]

/-- An input of channel `c` that settles: its state is derived afresh, and the alarm goes out behind the reports. -/
def Settles (s : State) (c : ChanIx) (e : Instr) (x : Supply) : Prop :=
  exec e s = .next (finish (deriveSupply c ⟨setSupply c (fun _ => x) s, []⟩)) ∧
  ∃ t, exec e s = .next t ∧ t.supplies = updAt s.supplies c (fun _ => { x with state := x.derived }) ∧
    t.bays.map (·.meter) = s.bays.map (·.meter) ∧ t.peers = s.peers ∧ t.bus.routine = s.bus.routine ∧
    t.bus.urgent = (if x.derived ≠ x.state ∧ alarmed x.state x.derived = true then
      (s.bus.offer (.supplyAlarm c x.derived s.settings.supplies[c].rated) s.now s.tst).urgent
    else s.bus.urgent)

theorem meters_map {a b : Vector Bay 4} (h : ∀ i : SlotIx, b[i].meter = a[i].meter) :
    b.map (·.meter) = a.map (·.meter) := by
  refine Vector.ext fun i hi => ?_
  simp only [Vector.getElem_map]
  exact h ⟨i, hi⟩

theorem input_settles {s : State} {c : ChanIx} {e : Instr} {x : Supply}
    (fires : exec e s = .next (finish (deriveSupply c ⟨setSupply c (fun _ => x) s, []⟩))) : Settles s c e x := by
  refine ⟨fires, _, fires, ?_⟩
  have kept := finish_kept (deriveSupply c ⟨setSupply c (fun _ => x) s, []⟩)
  obtain ⟨-, -, -, meter, peers, routine, supplies⟩ := deriveSupply_leaves c ⟨setSupply c (fun _ => x) s, []⟩
  have channel : (setSupply c (fun _ => x) s).supplies[c] = x := gathered_channel ..
  refine ⟨?_, meters_map fun i => (kept.bays i).meter.trans (meter i), kept.peers.trans peers,
    kept.bus.routine.trans routine, kept.bus.urgent.trans ?_⟩
  · rw [kept.supplies, supplies]
    simp only [setSupply, updAt, Fin.getElem_fin, Vector.getElem_set_self, Vector.set_set]
  · obtain ⟨u, k, alarm, quiet⟩ := deriveSupply_st c ⟨setSupply c (fun _ => x) s, []⟩
    simp only [channel] at alarm quiet
    by_cases a : x.alarms
    · rw [alarm a]
      refine Eq.trans ?_ (if_pos a).symm
      refine (offer_alarm_urgent k.bus.urgent k.bus.onBus ..).trans ?_
      have tst : u.tst = s.tst := by rw [State.tst, k.settings]; rfl
      rw [k.now, tst]
      rfl
    · rw [quiet a]
      exact k.bus.urgent.trans (if_neg a).symm

/-- An input's timer that ends, in the terms of its command. -/
theorem channel_settles {s : State} {c : ChanIx} {e : Instr} {g : Bool} {f : Supply → Supply}
    (row : exec e s = event s g fun w => deriveSupply c (w.map (setSupply c f))) (run : s.run = .running)
    (h : g = true) : Settles s c e (f s.supplies[c]) :=
  input_settles (row.trans (event_occurs _ run h))

theorem inputTimer_due {s : State} {c : ChanIx} {d : Nat} (fitted : supplyFitted s c = true) {t : Due}
    (h : t = some d) (due : d ≤ s.now) : (supplyFitted s c && timerDue t s.now) = true :=
  Bool.and_eq_true_iff.2 ⟨fitted, timer_due h due⟩

/-- Settles O54: which changes are alarmed, each input's timer, and each input taken at its timer's end. -/
theorem supplyInputsAreConditioned : Obligations.SupplyInputsAreConditioned := by
  refine ⟨fun a b => ?_, fun w c => ⟨deriveSupply_same, deriveSupply_changed⟩, fun s c run fitted => ?_⟩
  · cases a <;> cases b <;> decide
  · intro p
    refine ⟨fun b => ?_, fun d due => ?_⟩
    · simp only [← debounce_eq]
      exact ⟨fun n => simpleEvent_occurs _ run (Bool.and_eq_true_iff.2 ⟨fitted, bne_iff_ne.2 n⟩),
        fun n => simpleEvent_occurs _ run (Bool.and_eq_true_iff.2 ⟨fitted, bne_iff_ne.2 n⟩),
        fun n => simpleEvent_occurs _ run (Bool.and_eq_true_iff.2 ⟨fitted, bne_iff_ne.2 n⟩)⟩
    · refine ⟨fun t => ?_, fun t raw => ?_, fun t raw => ?_, fun t => ?_⟩
      · exact channel_settles (f := fun p => { p with present := p.presentRaw, presentTimer := none }) rfl run
          (inputTimer_due fitted t due)
      · exact channel_settles (f := fun p => { p with good := false, goodTimer := none }) rfl run
          (Bool.and_eq_true_iff.2 ⟨inputTimer_due fitted t due, by rw [raw]; rfl⟩)
      · exact channel_settles (f := fun p => { p with good := true, goodTimer := none }) rfl run
          (Bool.and_eq_true_iff.2 ⟨inputTimer_due fitted t due, raw⟩)
      · exact channel_settles (f := fun p => { p with warned := p.warnedRaw, warnedTimer := none }) rfl run
          (inputTimer_due fitted t due)

end Sys2Proof.Machine

end

section
/-! PROOF. The demands on the fans and what derives them afresh. -/

namespace Sys2Proof.Machine

/-! ### A zone derived afresh -/

/-- Zone `z` and the fan targets as the station stands, on the demands that the cooling record `c` held before. -/
structure Derived (z : ZoneIx) (c : Cooling) (t : State) : Prop where
  raw : t.cooling.raw[z] = rawDemand t z
  reported : t.cooling.reported[z] = reportDemand c.reported[z] (rawDemand t z)
  targets : ∀ d : ChanIx, d.val < t.settings.fanCount →
    t.cooling.fans[d].target = fanTarget t t.settings.fans[d].zone
  others : ∀ y : ZoneIx, y ≠ z → t.cooling.raw[y] = c.raw[y] ∧ t.cooling.reported[y] = c.reported[y]

theorem deriveTargets_target (s : State) (d : ChanIx) (f : d.val < s.settings.fanCount) :
    (deriveTargets s).cooling.fans[d].target = fanTarget s s.settings.fans[d].zone := by
  have own : (withTarget s d).target = fanTarget s s.settings.fans[d].zone := by
    rw [withTarget, if_pos (show fanFitted s d = true from decide_eq_true f)]
  match d, own with
  | 0, own | 1, own => exact own

theorem deriveZone_derived (z : ZoneIx) (s : State) : Derived z s.cooling (deriveZone z s) where
  raw := Vector.getElem_set_self ..
  reported := Vector.getElem_set_self ..
  targets d f := deriveTargets_target _ d f
  others y n := by
    have apart : z.val ≠ y.val := fun e => n (Fin.ext e.symm)
    exact ⟨Vector.getElem_set_ne z.isLt y.isLt apart, Vector.getElem_set_ne z.isLt y.isLt apart⟩

theorem Derived.flagged {z : ZoneIx} {c : Cooling} {t : State} (h : Derived z c t) (a : Attention) :
    Derived z c { t with attention := a } := ⟨h.raw, h.reported, h.targets, h.others⟩

/-- An inlet reading, as its command leaves the station (R147). -/
theorem inletReading_takes {s : State} {z : ZoneIx} {d : Nat} (run : s.run = .running)
    (t : s.cooling.inletTimer = some d) (due : d ≤ s.now) (zone : s.settings.inletZone = some z)
    (reading : Option Int) : ∃ u, exec (.inletReading reading) s = .next u ∧
      u.cooling.inletDemand = some (inletDemandOf s.settings reading) ∧
      u.cooling.inletTimer = some (d + s.tst) ∧ u.cooling.judging = s.cooling.judging ∧
      u = { s with cooling := u.cooling, attention := u.attention } ∧ Derived z s.cooling u := by
  have fires : exec (.inletReading reading) s = .next (settleFlags (deriveZone z { s with cooling := { s.cooling with
      inletTimer := some (d + s.tst), inletDemand := some (inletDemandOf s.settings reading) } })) := by
    refine (simpleEvent_occurs _ run (timer_due t due)).trans ?_
    simp only [takeInlet, zone, t, Option.map_some]
  have derived := deriveZone_derived z { s with cooling := { s.cooling with
    inletTimer := some (d + s.tst), inletDemand := some (inletDemandOf s.settings reading) } }
  exact ⟨_, fires, rfl, rfl, rfl, rfl, derived.raw, derived.reported, derived.targets, derived.others⟩

/-! ### A slot's own change -/

/-- What the cooling unit looks at in a change of a slot (R66). -/
def coolingChanged (a b : Bay) : Prop :=
  a.powered ≠ b.powered ∨ a.link.health ≠ b.link.health ∨ a.link.margin ≠ b.link.margin

theorem coolingReport_changed {i : SlotIx} {a b : Bay} (s : State) (h : coolingChanged a b) :
    coolingReport i a b s = slotReport i s := by
  refine if_pos ?_
  simp only [Bool.or_eq_true, bne_iff_ne]
  exact h

theorem coolingReport_same {i : SlotIx} {a b : Bay} (s : State) (h : ¬coolingChanged a b) :
    coolingReport i a b s = s := by
  refine if_neg fun e => h ?_
  simp only [Bool.or_eq_true, bne_iff_ne] at e
  exact e

theorem coolingChanged_follows (now : Nat) (a b : Bay) : coolingChanged a (capFollows now a b) ↔ coolingChanged a b := by
  have k := capFollows_kept now a b
  have p : (capFollows now a b).powered = b.powered := by rw [Bay.powered, Bay.powered, capFollows_seq]
  rw [coolingChanged, coolingChanged, p, k.health, k.margin]

section
variable {o : StepOrder} {i : SlotIx} {f : Bay → Bay} {w : Work}

/-- The bay of slot `i` as a change of it leaves it. -/
def changedBay (i : SlotIx) (f : Bay → Bay) (w : Work) : Bay := capFollows w.st.now w.st.bays[i] (f w.st.bays[i])

theorem modBay_derives (h : coolingChanged w.st.bays[i] (f w.st.bays[i])) :
    Derived (modBay o i f w).st.bays[i].cfg.zone w.st.cooling (modBay o i f w).st := by
  have report := coolingReport_changed (i := i) (setBay i (fun _ => changedBay i f w) w.st)
    ((coolingChanged_follows w.st.now _ _).2 h)
  have after : (modBay o i f w).st = raiseFor i w.st.bays[i] (changedBay i f w)
      (slotReport i (setBay i (fun _ => changedBay i f w) w.st)) := congrArg (raiseFor i _ _) report
  have derived := deriveZone_derived (setBay i (fun _ => changedBay i f w) w.st).bays[i].cfg.zone
    (setBay i (fun _ => changedBay i f w) w.st)
  rw [after]
  exact ⟨derived.raw, derived.reported, derived.targets, derived.others⟩

theorem modBay_cooling (h : ¬coolingChanged w.st.bays[i] (f w.st.bays[i])) :
    (modBay o i f w).st.cooling = w.st.cooling :=
  (congrArg (fun s => (raiseFor i w.st.bays[i] (changedBay i f w) s).cooling)
    (coolingReport_same (i := i) (setBay i (fun _ => changedBay i f w) w.st)
      (mt (coolingChanged_follows w.st.now _ _).1 h))).trans rfl

end

/-! ### Demands -/

theorem slotDemand_none {s : State} {i : SlotIx} (h : s.bays[i].fitted = false ∨ s.bays[i].powered = false) :
    slotDemand s i = none := by
  refine if_neg fun e => ?_
  obtain ⟨f, p⟩ := Bool.and_eq_true_iff.1 e
  obtain h | h := h
  · exact absurd (h.symm.trans f) Bool.noConfusion
  · exact absurd (h.symm.trans p) Bool.noConfusion

theorem slotDemand_powered {s : State} {i : SlotIx} (f : s.bays[i].fitted = true) (p : s.bays[i].powered = true) :
    slotDemand s i = some (match s.bays[i].link.margin with
      | some m => if s.bays[i].link.health = .responsive then demandFor s.settings.floorDuty m else s.settings.failSafe
      | none => s.settings.failSafe) := by
  simp only [slotDemand, f, p, Bool.and_self, if_true]
  cases s.bays[i].link.health <;> cases s.bays[i].link.margin <;> rfl

/-- The larger of two demands is one of them and no smaller than either. -/
theorem maxDemand_largest (a b : Option Nat) : (maxDemand a b = none ↔ a = none ∧ b = none) ∧
    ∀ x, maxDemand a b = some x ↔ (a = some x ∨ b = some x) ∧ ∀ y, a = some y ∨ b = some y → y ≤ x := by
  cases a <;> cases b <;> simp only [maxDemand] <;> grind

/-- The largest of a list of demands is one of them and no smaller than any. -/
theorem foldl_maxDemand (l : List (Option Nat)) (a : Option Nat) :
    (l.foldl maxDemand a = none → ∀ y, some y ∉ a :: l) ∧
    ∀ x, l.foldl maxDemand a = some x → some x ∈ a :: l ∧ ∀ y, some y ∈ a :: l → y ≤ x := by
  induction l generalizing a with
  | nil => grind
  | cons b l ih =>
    obtain ⟨absent, largest⟩ := ih (maxDemand a b)
    obtain ⟨both, either⟩ := maxDemand_largest a b
    rw [List.foldl_cons]
    refine ⟨fun e y m => ?_, fun x e => ?_⟩
    · have := absent e
      grind
    · have := largest x e
      cases h : maxDemand a b with
      | none => grind
      | some z =>
        have := (either z).1 h
        grind

/-- What contributes to a zone's demand: its slots, and the inlet where it stands in the zone (R148). -/
def gives (s : State) (z : ZoneIx) (x : Nat) : Prop :=
  (∃ i : SlotIx, s.bays[i].cfg.zone = z ∧ slotDemand s i = some x) ∨
    (s.settings.inletZone = some z ∧ s.cooling.inletDemand = some x)

/-- The contributions to a zone, the inlet's first. -/
def contributions (s : State) (z : ZoneIx) : List (Option Nat) :=
  (if s.settings.inletZone == some z then s.cooling.inletDemand else none) ::
    (List.finRange 4).map fun i => if s.bays[i].cfg.zone == z then slotDemand s i else none

theorem mem_contributions {s : State} {z : ZoneIx} {x : Nat} : some x ∈ contributions s z ↔ gives s z x := by
  have of_ite {p : Prop} [Decidable p] {d : Option Nat} : some x = (if p then d else none) ↔ p ∧ d = some x := by
    split <;> simp_all [eq_comm]
  simp only [contributions, gives, List.mem_cons, of_ite, List.mem_map, List.mem_finRange, true_and, beq_iff_eq]
  rw [or_comm]
  refine or_congr (exists_congr fun i => ?_) Iff.rfl
  rw [eq_comm, of_ite]

theorem rawDemand_largest (s : State) (z : ZoneIx) : (rawDemand s z = none ↔ ∀ x, ¬gives s z x) ∧
    ∀ x, rawDemand s z = some x ↔ gives s z x ∧ ∀ y, gives s z y → y ≤ x := by
  have folded : rawDemand s z = (contributions s z).tail.foldl maxDemand (contributions s z).head! := rfl
  obtain ⟨absent, largest⟩ := foldl_maxDemand (contributions s z).tail (contributions s z).head!
  have whole : (contributions s z).head! :: (contributions s z).tail = contributions s z := rfl
  simp only [whole, mem_contributions, ← folded] at absent largest
  refine ⟨⟨absent, fun none => ?_⟩, fun x => ⟨largest x, fun ⟨g, top⟩ => ?_⟩⟩
  · cases e : rawDemand s z with
    | none => rfl
    | some x => exact absurd (largest x e).1 (none x)
  · cases e : rawDemand s z with
    | none => exact absurd g (absent e x)
    | some y =>
      obtain ⟨g', top'⟩ := largest y e
      rw [Nat.le_antisymm (top y g') (top' x g)]

/-! ### Fan targets -/

/-- The largest of a list of numbers and one more is one of them and no smaller than any. -/
theorem foldl_max_largest (l : List Nat) (a : Nat) :
    l.foldl max a ∈ a :: l ∧ ∀ y ∈ a :: l, y ≤ l.foldl max a := by
  induction l generalizing a with
  | nil => simp
  | cons b l ih =>
    obtain ⟨mem, top⟩ := ih (max a b)
    simp only [List.foldl_cons, List.mem_cons, forall_eq_or_imp] at mem top ⊢
    refine ⟨?_, le_trans (le_max_left a b) top.1, le_trans (le_max_right a b) top.1, top.2⟩
    obtain e | m := mem
    · rw [e]
      exact (max_choice a b).imp_right .inl
    · exact .inr (.inr m)

/-- What a peer asks of the fans of a zone (R150). -/
def asksFans (s : State) (z : ZoneIx) (y : Nat) : Prop :=
  ∃ (a : Addr) (m : Standing) (d : Nat), a ≠ s.address ∧
    s.peers[a].standing = some m ∧ listedDemand m z = some d ∧
    (((s.peers[a].state = .live ∨ s.peers[a].state = .stale) ∧ y = d) ∨ (s.peers[a].state = .silent ∧ y = 100))

theorem fanDemand_of_asks {p : Peer} {z : ZoneIx} {m : Standing} {d y : Nat} (e : p.standing = some m)
    (l : listedDemand m z = some d)
    (h : ((p.state = .live ∨ p.state = .stale) ∧ y = d) ∨ (p.state = .silent ∧ y = 100)) : p.fanDemand z = y := by
  obtain ⟨h | h, rfl⟩ | ⟨h, rfl⟩ := h <;> simp only [Peer.fanDemand, e, h, l] <;> rfl

theorem asks_of_fanDemand {p : Peer} {z : ZoneIx} (n : p.fanDemand z ≠ 0) : ∃ m d, p.standing = some m ∧
    listedDemand m z = some d ∧ (((p.state = .live ∨ p.state = .stale) ∧ p.fanDemand z = d) ∨
      (p.state = .silent ∧ p.fanDemand z = 100)) := by
  simp only [Peer.fanDemand] at n ⊢
  cases e : p.standing with
  | none => simp [e] at n
  | some m =>
    cases l : listedDemand m z with
    | none => cases h : p.state <;> simp [e, h, l] at n
    | some d => cases h : p.state <;> simp [e, h, l] at n ⊢

theorem mem_peerDemands {s : State} {z : ZoneIx} {y : Nat} :
    y ∈ (peerList s).map (fun p => p.fanDemand z) ↔ ∃ a : Addr, a ≠ s.address ∧ s.peers[a].fanDemand z = y := by
  simp only [peerList, List.map_map, List.mem_map, List.mem_filter, List.mem_finRange, true_and, bne_iff_ne,
    Function.comp_apply]

/-- The largest demand on a zone's fans, the floor duty apart. -/
theorem fanTarget_eq (s : State) (z : ZoneIx) : ∃ x, fanTarget s z = max s.settings.floorDuty x ∧
    (x = s.cooling.reported[z].getD 0 ∨ ∃ a : Addr, a ≠ s.address ∧ s.peers[a].fanDemand z = x) ∧
    s.cooling.reported[z].getD 0 ≤ x ∧ ∀ a : Addr, a ≠ s.address → s.peers[a].fanDemand z ≤ x := by
  obtain ⟨mem, top⟩ := foldl_max_largest ((peerList s).map fun p => p.fanDemand z) (s.cooling.reported[z].getD 0)
  refine ⟨_, rfl, (List.mem_cons.1 mem).imp_right mem_peerDemands.1, top _ (.head _), fun a n => ?_⟩
  exact top _ (.tail _ (mem_peerDemands.2 ⟨a, n, rfl⟩))

section
variable {s : State} {z : ZoneIx}

theorem fanTarget_floor (s : State) (z : ZoneIx) : s.settings.floorDuty ≤ fanTarget s z := le_max_left ..

theorem fanTarget_reported (y : Nat) (h : s.cooling.reported[z] = some y) : y ≤ fanTarget s z := by
  obtain ⟨x, target, -, own, -⟩ := fanTarget_eq s z
  rw [h] at own
  rw [target]
  exact own.trans (le_max_right ..)

theorem fanTarget_asks (y : Nat) (h : asksFans s z y) : y ≤ fanTarget s z := by
  obtain ⟨x, target, -, -, peers⟩ := fanTarget_eq s z
  obtain ⟨a, m, d, other, e, l, h⟩ := h
  rw [target, ← fanDemand_of_asks e l h]
  exact (peers a other).trans (le_max_right ..)

theorem fanTarget_cases (s : State) (z : ZoneIx) : fanTarget s z = s.settings.floorDuty ∨
    s.cooling.reported[z] = some (fanTarget s z) ∨ asksFans s z (fanTarget s z) := by
  obtain ⟨x, target, one, -, -⟩ := fanTarget_eq s z
  by_cases h : x ≤ s.settings.floorDuty
  · exact .inl (target.trans (max_eq_left h))
  · have eq : fanTarget s z = x := target.trans (max_eq_right (Nat.le_of_not_le h))
    have pos : x ≠ 0 := fun e => h (e ▸ Nat.zero_le _)
    rw [eq]
    obtain own | ⟨a, other, peer⟩ := one
    · cases e : s.cooling.reported[z] with
      | none =>
        rw [e] at own
        exact absurd own pos
      | some y =>
        rw [e] at own
        exact .inr (.inl (congrArg some own.symm))
    · obtain ⟨m, d, e, l, cases⟩ := asks_of_fanDemand (peer ▸ pos)
      rw [peer] at cases
      exact .inr (.inr ⟨a, m, d, other, e, l, cases⟩)

end

/-- Settles O56: what derives a zone afresh, and the demands and targets it then derives. -/
theorem inletReadingsSetTheDemand : Obligations.InletReadingsSetTheDemand := by
  refine ⟨fun s z d run t due zone => ?_, fun o i f w => ?_, fun s i => ⟨slotDemand_none, slotDemand_powered⟩,
    rawDemand_largest, fun before b r => ?_, fun s z => ?_⟩
  · intro takes
    have all (reading : Option Int) : takes reading (inletDemandOf s.settings reading) := by
      obtain ⟨u, fires, demand, timer, judging, same, derived⟩ := inletReading_takes run t due zone reading
      have settings : u.settings = s.settings := by rw [same]
      refine ⟨u, fires, demand, timer, judging, same, derived.raw, derived.reported, ?_, derived.others⟩
      rw [← settings]
      exact derived.targets
    exact ⟨fun r => all (some r), all none⟩
  · refine ⟨fun h => ?_, fun p h m => modBay_cooling fun c => ?_⟩
    · have derived := modBay_derives (o := o) h
      exact ⟨derived.raw, derived.reported, derived.targets, fun y n => (derived.others y n).1⟩
    · obtain n | n | n := c
      · exact n p
      · exact n h
      · exact n m
  · refine ⟨by cases before <;> rfl, rfl, fun h => ?_, fun h k => ?_⟩
    · simp only [reportDemand]
      split
      · rfl
      · exact if_neg (by omega)
    · simp only [reportDemand]
      rw [if_neg (Nat.not_lt.2 h), if_pos k]
  · refine ⟨fanTarget_floor s z, fanTarget_reported, fanTarget_asks, fanTarget_cases s z,
      fun m => ⟨fun d l => ?_, fun l e mem => ?_⟩⟩
    · obtain ⟨e, found, demand⟩ := Option.map_eq_some_iff.1 l
      have zone := List.find?_some (p := fun e : ZoneDemand => e.zone == z.val) found
      exact ⟨e, List.mem_of_find?_eq_some found, beq_iff_eq.1 zone, demand⟩
    · have none := List.find?_eq_none.1 (Option.map_eq_none_iff.1 l) e mem
      exact mt beq_iff_eq.2 none

end Sys2Proof.Machine

end

section
/-! PROOF. How the two resets begin, and how they end. -/

namespace Sys2Proof.Machine

/-! ### The beginning of a reset -/

theorem allBays_bay (f : Bay → Bay) (s : State) (i : SlotIx) : (allBays f s).bays[i] = f s.bays[i] := by
  match i with
  | 0 | 1 | 2 | 3 => rfl

theorem beginReset_bay (phase : RunPhase) (f : Bay → Bay) (s : State) (i : SlotIx) :
    (beginReset phase f s).bays[i] = f s.bays[i].disconnect := allBays_bay (fun b => f b.disconnect) s i

theorem disconnect_cross (b : Bay) (p : PortIx) : b.disconnect.ports[p].cross = none := by
  match p with
  | 0 | 1 | 2 | 3 => rfl

/-- What every reset leaves at its beginning (R11, R152, R173, R180). -/
def Silenced (t : State) : Prop :=
  t.bus.urgent = [] ∧ t.bus.control = [] ∧ t.bus.routine = [] ∧ t.bus.onBus = none ∧ t.bus.owed = [] ∧
    t.attention.line = false ∧ (∀ c : ChanIx, t.cooling.fans[c].duty = 100) ∧
    (∀ (i : SlotIx) (p : PortIx), (portOf t i p).cross = none) ∧ ∀ i : SlotIx, t.bays[i].link.inFlight = none

theorem beginReset_quiet (phase : RunPhase) {f : Bay → Bay} (s : State)
    (h : ∀ b : Bay, (f b).ports = b.ports ∧ (f b).link = b.link) : Silenced (beginReset phase f s) := by
  refine ⟨rfl, rfl, rfl, rfl, rfl, rfl, fun c => ?_, fun i p => ?_, fun i => ?_⟩
  · match c with
    | 0 | 1 => rfl
  · rw [portOf, beginReset_bay, (h _).1]
    exact disconnect_cross ..
  · rw [beginReset_bay, (h _).2]
    rfl

theorem cutDuringRestart_on {i : SlotIx} {s : State} (h : s.bays[i].seq.gate ≠ .off) : cutDuringRestart i s =
    setBay i (fun b => { b with seq := { b.seq with gate := .off, cutInRestart := true } }) s :=
  setBay_congr (if_neg fun e => h (beq_iff_eq.1 e))

/-- Settles O57: each reset's beginning, and what a reset in progress makes of the inputs. -/
theorem resetsBegin : Obligations.ResetsBegin := by
  intro s quiet
  refine ⟨⟨_, rfl, rfl, beginReset_quiet _ s fun _ => ⟨rfl, rfl⟩, fun i => ?_⟩, fun run => ?_, fun d run => ?_,
    fun d run => ?_⟩
  · have bay : (beginPowerOn s).bays[i] = _ := beginReset_bay ..
    rw [bay]
    exact ⟨rfl, rfl⟩
  · have begins : assertRestart s = beginWarm s := by rw [assertRestart, run]
    refine ⟨beginWarm s, congrArg Host.Outcome.next begins, rfl, beginReset_quiet _ s fun _ => ⟨rfl, rfl⟩, rfl,
      fun i => ?_⟩
    have bay : (beginWarm s).bays[i] = _ := beginReset_bay ..
    rw [bay]
    exact ⟨rfl, rfl⟩
  · have again : assertRestart s = { s with run := .warmRestart s.now } := by rw [assertRestart, run]
    have warm : inWarmRestart s = true := by rw [inWarmRestart, run]
    refine ⟨congrArg Host.Outcome.next again, fun i on => ?_⟩
    exact (if_pos warm).trans (congrArg Host.Outcome.next (cutDuringRestart_on on))
  · have stays : assertRestart s = s := by rw [assertRestart, run]
    exact congrArg Host.Outcome.next stays

/-! ### The end of a reset -/

/-- In the census the deficit step only sets or clears the deficit (R131). -/
theorem deficitStep_in_census {w : Work} (c : w.st.census.isSome = true) :
    ∃ b a, deficitStep w = w.map fun s => { s with budget := b, attention := a } := by
  rw [deficitStep]
  by_cases h : w.st.budget.hs < 0
  · rw [if_pos h, if_pos c]
    by_cases d : w.st.budget.deficit = true
    · rw [if_pos d]
      exact ⟨w.st.budget, w.st.attention, rfl⟩
    · rw [if_neg d]
      exact ⟨_, _, rfl⟩
  · rw [if_neg h]
    by_cases d : w.st.budget.deficit = true
    · rw [if_pos d]
      exact ⟨_, w.st.attention, rfl⟩
    · rw [if_neg d]
      exact ⟨w.st.budget, w.st.attention, rfl⟩

theorem markBar_refigure (s : State) : ∃ b a, markBar (refigure s) = { s with budget := b, attention := a } := by
  have figures : ∃ b a, refigure s = { s with budget := b, attention := a } := by
    simp only [refigure]
    split <;> exact ⟨_, _, rfl⟩
  obtain ⟨b, a, e⟩ := figures
  rw [e]
  simp only [markBar]
  split <;> exact ⟨_, _, rfl⟩

/-- A recomputation in the census writes figures, flags and the deficit's mark, and moves nothing. -/
theorem recompute_in_census {w : Work} (c : w.st.census.isSome = true) :
    ∃ b a, recompute w = w.map fun s => { s with budget := b, attention := a } := by
  obtain ⟨x, y, figures⟩ := markBar_refigure w.st
  obtain ⟨b, a, deficit⟩ := deficitStep_in_census (w := w.map fun s => { s with budget := x, attention := y }) c
  have same : (w.map fun s => markBar (refigure s)) = w.map fun s => { s with budget := x, attention := y } :=
    congrArg (Work.mk · w.reports) figures
  have census {p : Prop} (n : w.st.census = none) : p := by rw [n] at c; exact absurd c Bool.noConfusion
  have quiet : restorationStep (deficitStep (w.map fun s => markBar (refigure s))) =
      w.map fun s => { s with budget := b, attention := a } := by
    rw [same, deficit]
    exact if_neg fun m => census ((mayRestore_iff { w.st with budget := b, attention := a }).1 m).1
  refine ⟨b, a, ?_⟩
  rw [recompute, quiet]
  exact congrArg (Work.mk · w.reports) (sendingCheck_idle fun e fits => census fits.census)

/-- What the end of a reset leaves (R187), whatever the slots it is given. -/
structure ResetEnded (st : Settings) (defaults : Bool) (epoch : Serial) (bays : Vector Bay 4) (s t : State) : Prop where
  run : t.run = .running
  address : t.address = s.address
  settings : t.settings = st
  startDefaults : t.startDefaults = defaults
  epoch : t.self.epoch = epoch
  good : t.bus.good = s.bus.good
  crcDrops : t.bus.crcDrops = s.bus.crcDrops
  overflows : t.bus.overflows = s.bus.overflows
  ordersRefused : t.bus.ordersRefused = s.bus.ordersRefused
  sequence : t.bus.sequence = 0
  routine : t.bus.routine = [.rollCall, .standing]
  census : t.census = some (s.now + 5 * st.constants.tst)
  peers : t.peers = Vector.replicate 16 Peer.fresh
  tagCounter : t.tagCounter = 0
  folded : t.budget.folded = 255
  restartOwed : t.attention.restartOwed = false
  bays : t.bays = bays

theorem endReset_ended (st : Settings) (d : Bool) (e : Serial) (bays : Vector Bay 4) (h : Vector FanHealth 2)
    (inp : ResetInputs) (s : State) : ResetEnded st d e bays s (endReset st d e bays h inp s) := by
  unfold endReset
  extract_lets tst inlet t
  have folded : (recompute ⟨offer .standing (offer .rollCall (deriveAtReset t)), []⟩).st.budget.folded = 255 :=
    (recompute_kept ⟨offer .standing (offer .rollCall (deriveAtReset t)), []⟩).folded
  obtain ⟨b, a, same⟩ := recompute_in_census (w := ⟨offer .standing (offer .rollCall (deriveAtReset t)), []⟩) rfl
  rw [same] at folded ⊢
  have settled : (flush (Work.map (fun s => { s with budget := b, attention := a })
      ⟨offer .standing (offer .rollCall (deriveAtReset t)), []⟩)).st =
      { offer .standing (offer .rollCall (deriveAtReset t)) with budget := b, attention := a } :=
    congrArg Work.st (flush_done _)
  rw [settled]
  exact ⟨rfl, rfl, rfl, rfl, rfl, rfl, rfl, rfl, rfl, rfl, rfl, rfl, rfl, rfl, folded, settleFlags_owed _, rfl⟩

theorem settingsAtReset_none {inp : ResetInputs} (h : settingsFrom inp.reads = none) :
    settingsAtReset inp = (Settings.default, true) := by rw [settingsAtReset, h]

theorem settingsAtReset_some {inp : ResetInputs} {x : Settings} (h : settingsFrom inp.reads = some x) :
    settingsAtReset inp = (x, false) := by rw [settingsAtReset, h]

theorem bayPowerOn_empty (st : Settings) (inp : ResetInputs) (now : Nat) (i : SlotIx) :
    let b := bayPowerOn st inp now i
    b.seq.state = .empty ∧ b.seq.gate = .off ∧ b.seq.cause = .none ∧ b.fitted = decide (i.val < st.slotCount) := by
  simp only [bayPowerOn]
  split
  · next h => exact ⟨rfl, rfl, rfl, (decide_eq_true h).symm⟩
  · next h => exact ⟨rfl, rfl, rfl, (decide_eq_false h).symm⟩

/-- Settles O58: the end of power-on reset is one `endReset` on the bays of power-on. -/
theorem powerOnResetEnds : Obligations.PowerOnResetEnds := by
  intro s d a inp run
  have ending : inPowerOn s = true := by rw [inPowerOn, run]
  have fires : exec (.powerOnResetEnd a inp) s = .next (endPowerOn a inp s) := congrArg Host.Outcome.next (if_pos ending)
  have ended : ResetEnded (settingsAtReset inp).1 (settingsAtReset inp).2 0
      (Vector.ofFn fun i => bayPowerOn (settingsAtReset inp).1 inp s.now i)
      { s with address := a, bus := { s.bus with good := 0, crcDrops := 0, overflows := 0, ordersRefused := 0 } }
      (endPowerOn a inp s) := endReset_ended ..
  have flags := (endPowerOn_begun a inp s).flags
  generalize endPowerOn a inp s = t at fires ended flags
  refine ⟨t, fires, ended.run, ended.address, ended.epoch, ended.good, ended.crcDrops, ended.overflows,
    ended.ordersRefused, ended.sequence, ended.routine, ?_, ended.peers, ended.tagCounter, ended.folded, fun none => ?_,
    fun x some => ?_, fun i => ?_⟩
  · rw [ended.census, State.tst, ended.settings]
  · have defaults : t.startDefaults = true := by rw [ended.startDefaults, settingsAtReset_none none]
    refine ⟨by rw [ended.settings, settingsAtReset_none none], defaults, ?_⟩
    obtain ⟨-, -, -, -, -, raised, -⟩ := flags.cover ended.run
    exact raised defaults
  · rw [ended.settings, ended.startDefaults, settingsAtReset_some some]
    exact ⟨rfl, rfl⟩
  · rw [ended.settings, ended.bays, Fin.getElem_fin, Vector.getElem_ofFn]
    exact bayPowerOn_empty ..

/-! ### A slot re-examined -/

section
variable {st : Settings} {inp : ResetInputs} {now : Nat} {old : Bay} {i : SlotIx}

theorem reexamine_unfitted (h : st.slotCount ≤ i.val) :
    reexamine st inp now old i = bayUnfitted st.slots[i] old.seq.cause := if_pos h

/-- A fitted slot before its re-examination: its input levels and meter are new, and the cause and the two switches
are held (R185, R186). -/
def heldBay (st : Settings) (inp : ResetInputs) (old : Bay) (i : SlotIx) : Bay :=
  { Bay.fresh true st.slots[i] with
    seq := { Seq.atReset st.slots[i] inp i with
      cause := old.seq.cause, standby := old.seq.standby, gate := old.seq.gate }
    meter := meterAtReset inp i }

/-- Whether a stuck check is owed (R186). -/
def checkOwed (old : Bay) : Bool := old.seq.stuckTimer.isSome || old.seq.cutInRestart

theorem reexamine_stuck (h : i.val < st.slotCount) (k : old.seq.state = .stuck) :
    reexamine st inp now old i = let b := heldBay st inp old i
      { b with seq := { b.seq with state := .stuck, gate := .off } } := by
  simp only [reexamine, Nat.not_le.2 h, if_false, k]
  rfl

theorem reexamine_cut (h : i.val < st.slotCount) (k : old.seq.state ≠ .stuck) (c : old.seq.cutInRestart = true) :
    reexamine st inp now old i = let b := heldBay st inp old i
      if inp.presence[i] then ({ b with
        seq := { b.seq with state := .latched, cause := .severeOc, gate := .off, standby := true }
        link := b.link.queueInventory .seating } : Bay).stuckAfresh true now
      else ({ b with seq := { b.seq with cause := .severeOc, gate := .off, standby := false } } : Bay).stuckAfresh true
        now := by
  simp only [reexamine, Nat.not_le.2 h, if_false, beq_false_of_ne k, c, Bool.or_true, Bool.false_eq_true, if_true]
  rfl

theorem reexamine_uncut (h : i.val < st.slotCount) (k : old.seq.state ≠ .stuck) (c : old.seq.cutInRestart = false) :
    reexamine st inp now old i = let b := heldBay st inp old i
      if inp.presence[i] then
        if old.seq.gate ≠ .off then b.adopt now st.constants.tst
        else ({ b with
          seq := { b.seq with state := .identify, standby := true }
          link := b.link.queueInventory .seating } : Bay).stuckAfresh old.seq.stuckTimer.isSome now
      else if old.seq.gate ≠ .off then
        ({ b with seq := { b.seq with gate := .off, standby := false, cause := .surpriseRemoval } } : Bay).stuckAfresh
          true now
      else ({ b with seq := { b.seq with standby := false } } : Bay).stuckAfresh old.seq.stuckTimer.isSome now := by
  simp only [reexamine, Nat.not_le.2 h, if_false, beq_false_of_ne k, c, Bool.or_false, Bool.false_eq_true, bne_iff_ne]
  rfl

/-- A slot adopted with its ejector closed stands in RUNNING on its worst-case figures (R68, R186). -/
theorem adopt_closed {b : Bay} (h : b.seq.ejectorOpen = false) (now tst : Nat) : b.adopt now tst =
    let c := b.withFigures (worstFigures b.cfg)
    let d : Bay := ({ c with seq := ({ c.seq with
      state := .running, adopted := true, gate := .lifted
      retryClearTimer := some (now + 60000) } : Seq).ocRestart now } : Bay).startLink now tst
    { d with link := d.link.queueInventory .adoption } := if_neg (by
      show ¬b.seq.ejectorOpen = true
      rw [h]; exact Bool.noConfusion)

/-- One adopted with its ejector open is drained at once toward unseating (R186). -/
theorem adopt_open {b : Bay} (h : b.seq.ejectorOpen = true) (now tst : Nat) : b.adopt now tst =
    let c := b.withFigures (worstFigures b.cfg)
    let d : Bay := ({ c with seq := ({ c.seq with
      state := .running, adopted := true, gate := .lifted
      retryClearTimer := some (now + 60000) } : Seq).ocRestart now } : Bay).startLink now tst
    ({ d with link := d.link.queueInventory .adoption } : Bay).toDraining now .operator .unseat false := if_pos h

/-- What an adoption leaves of the slot's settings and inputs. -/
def InputsKept (a b : Bay) : Prop :=
  b.fitted = a.fitted ∧ b.cfg = a.cfg ∧ b.seq.retryCount = a.seq.retryCount ∧ b.seq.presence = a.seq.presence ∧
    b.seq.ejectorOpen = a.seq.ejectorOpen

theorem adopt_inputs (b : Bay) (now tst : Nat) : InputsKept b (b.adopt now tst) := by
  cases h : b.seq.ejectorOpen
  · rw [adopt_closed h]
    exact ⟨rfl, rfl, rfl, rfl, rfl⟩
  · rw [adopt_open h]
    exact ⟨rfl, rfl, rfl, rfl, rfl⟩

/-- Whatever its row, a fitted slot is re-examined under the new settings and on its new input levels (R186). -/
theorem reexamine_inputs (h : i.val < st.slotCount) :
    InputsKept (heldBay st inp old i) (reexamine st inp now old i) := by
  by_cases k : old.seq.state = .stuck
  · rw [reexamine_stuck h k]
    exact ⟨rfl, rfl, rfl, rfl, rfl⟩
  · cases c : old.seq.cutInRestart
    · rw [reexamine_uncut h k c]
      dsimp only
      split
      · split
        · exact adopt_inputs ..
        · exact ⟨rfl, rfl, rfl, rfl, rfl⟩
      · split <;> exact ⟨rfl, rfl, rfl, rfl, rfl⟩
    · rw [reexamine_cut h k c]
      dsimp only
      split <;> exact ⟨rfl, rfl, rfl, rfl, rfl⟩

end

/-- Settles O59: the end of a warm restart is one `endReset` on the slots re-examined, and the re-examination by rows. -/
theorem warmRestartEnds : Obligations.WarmRestartEnds := by
  refine ⟨fun s d inp run => ?_, fun st inp now old i h => ?_, fun st inp now old i h => ?_⟩
  · have ending : inWarmRestart s = true := by rw [inWarmRestart, run]
    have fires : exec (.warmRestartEnd inp) s = .next (endWarm inp s) := congrArg Host.Outcome.next (if_pos ending)
    have ended : ResetEnded (settingsAtReset inp).1 (settingsAtReset inp).2 (s.self.epoch + 1)
        (Vector.ofFn fun i => reexamine (settingsAtReset inp).1 inp s.now s.bays[i] i) s (endWarm inp s) :=
      endReset_ended ..
    generalize endWarm inp s = t at fires ended
    refine ⟨t, fires, ended.run, ended.address, ended.epoch, ended.good, ended.crcDrops, ended.overflows,
      ended.ordersRefused, ended.routine, ?_, ended.peers, ended.restartOwed, fun none => ?_, fun x some => ?_,
      fun i => ?_⟩
    · rw [ended.census, State.tst, ended.settings]
    · rw [ended.settings, ended.startDefaults, settingsAtReset_none none]
      exact ⟨rfl, rfl⟩
    · rw [ended.settings, ended.startDefaults, settingsAtReset_some some]
      exact ⟨rfl, rfl⟩
    · rw [ended.settings, ended.bays, Fin.getElem_fin, Vector.getElem_ofFn]
  · intro x
    have row : x = _ := reexamine_unfitted h
    rw [row]
    exact ⟨rfl, rfl, rfl, rfl, rfl, rfl, rfl⟩
  · intro q
    have inputs := reexamine_inputs (inp := inp) (now := now) (old := old) h
    obtain ⟨y, e⟩ : ∃ y, reexamine st inp now old i = y := ⟨_, rfl⟩
    rw [e] at inputs ⊢
    intro x b reads owed
    obtain ⟨fitted, cfg, count, presence, ejector⟩ := inputs
    refine ⟨fitted, cfg, count, presence, ejector, fun k => ?_, fun k c p => ?_, fun k c p => ?_, fun k c =>
      ⟨fun g p o => ?_, fun g p o => ?_, fun g p => ?_, fun g p => ?_, fun g p => ?_⟩⟩
    · rw [reexamine_stuck h k] at e
      subst e
      exact ⟨rfl, rfl, rfl, rfl, charge_stuck rfl⟩
    · rw [reexamine_cut h k c, if_pos p] at e
      subst e
      exact ⟨rfl, rfl, rfl, rfl, rfl, rfl⟩
    · rw [reexamine_cut h k c, if_neg (by rw [p]; exact Bool.noConfusion)] at e
      subst e
      exact ⟨rfl, rfl, rfl, rfl, rfl⟩
    · rw [reexamine_uncut h k c, if_pos p, if_pos g, adopt_closed o] at e
      subst e
      exact ⟨rfl, rfl, rfl, rfl, rfl, rfl, rfl, rfl, (charge_powered (.inr rfl)).trans (if_pos (.inl rfl))⟩
    · rw [reexamine_uncut h k c, if_pos p, if_pos g, adopt_open o] at e
      subst e
      exact ⟨rfl, rfl, rfl, rfl, rfl⟩
    · rw [reexamine_uncut h k c, if_pos p, if_neg (not_not_intro g)] at e
      subst e
      exact ⟨rfl, rfl, rfl, g, rfl, rfl⟩
    · rw [reexamine_uncut h k c, if_neg (by rw [p]; exact Bool.noConfusion), if_pos g] at e
      subst e
      exact ⟨rfl, rfl, rfl, rfl, rfl⟩
    · rw [reexamine_uncut h k c, if_neg (by rw [p]; exact Bool.noConfusion), if_neg (not_not_intro g)] at e
      subst e
      exact ⟨rfl, g, rfl, rfl, rfl⟩

end Sys2Proof.Machine

end

section
/-! PROOF. The end of the census, the steps of a recomputation, and shedding. -/

namespace Sys2Proof.Machine

/-! ### The end of the census -/

/-- The port lane records started at the end of the census, the served slots by their state (R189). -/
theorem startServed_eq : startServed = fun t i =>
    if t.bays[i].seq.state = .running ∧ t.bays[i].seq.adopted = false then startPorts i t else t := by
  funext s i
  simp only [startServed, served_iff]

theorem startServed_kept (s : State) (i : SlotIx) : Kept s (startServed s i) := by
  rw [startServed]
  split
  · exact startPorts_kept i s
  · exact Kept.refl s

theorem startServed_slots (s : State) (i : SlotIx) : SameSlots s (startServed s i) := by
  rw [startServed]
  split
  · exact startPorts_slots i s
  · exact SameSlots.of_bays rfl

/-- The end of the census, as the states it passes: the deficit answered, then the sending check, judging and the
records' starts (R131, R189). -/
theorem endCensus_eq (s : State) : endCensus ⟨s, []⟩ =
    let w : Work := ⟨{ s with census := none }, []⟩
    (if s.budget.deficit then answerDeficit w else w).map fun s =>
      (List.finRange 4).foldl startServed (startJudging (sendingCheck s)) := rfl

/-- Judging begins with the counts at 0 and the health as it is (R189). -/
theorem startJudging_fan (s : State) (c : ChanIx) :
    (startJudging s).cooling.fans[c] = { s.cooling.fans[c] with low := 0, good := 0 } := by
  match c with
  | 0 | 1 => rfl

/-- What the end of the census leaves behind its reports. -/
structure CensusOver (s t : State) : Prop where
  census : t.census = none
  judging : t.cooling.judging = true
  fans : ∀ c : ChanIx, t.cooling.fans[c].low = 0 ∧ t.cooling.fans[c].good = 0 ∧
    t.cooling.fans[c].health = s.cooling.fans[c].health
  peers : t.peers = s.peers
  supplies : t.supplies = s.supplies
  settings : t.settings = s.settings

/-- The end of the census behind the answer to a deficit, for any starts that keep what `Kept` lists. -/
theorem censusOver_of_starts {start : State → State} (starts : ∀ u, Kept u (start u)) {s : State} {w : Work}
    (answered : Kept { s with census := none } w.st) :
    CensusOver s (finish (w.map fun s => start (startJudging (sendingCheck s)))) := by
  have before := answered.trans (sendingCheck_kept w.st)
  have after : Kept (startJudging (sendingCheck w.st)) (finish (w.map fun s => start (startJudging (sendingCheck s)))) :=
    (starts _).trans (finish_kept (w.map fun s => start (startJudging (sendingCheck s))))
  refine ⟨after.census.trans before.census, after.cooling.judging, fun c => ?_, after.peers.trans before.peers,
    after.supplies.trans before.supplies, after.settings.trans before.settings⟩
  obtain ⟨x, fan⟩ := after.cooling.fans c
  obtain ⟨y, was⟩ := before.cooling.fans c
  rw [fan, startJudging_fan, was]
  exact ⟨rfl, rfl, rfl⟩

theorem endCensus_over (s : State) : CensusOver s (finish (endCensus ⟨s, []⟩)) := by
  have answered (v : Work) : Kept v.st (if s.budget.deficit then answerDeficit v else v).st := by
    split
    · exact answerDeficit_kept v
    · exact Kept.refl _
  exact censusOver_of_starts (fun u => foldl_kept startServed_kept (List.finRange 4) u)
    (answered ⟨{ s with census := none }, []⟩)

/-- With no deficit found in it, the end of the census leaves every slot's record (R189). -/
theorem endCensus_slots {s : State} (d : s.budget.deficit = false) : SameSlots s (finish (endCensus ⟨s, []⟩)) := by
  rw [endCensus_eq, d]
  have checked : SameSlots s (startJudging (sendingCheck { s with census := none })) :=
    .of_bays (sendingCheck_bays _)
  have started := checked.trans (foldl_slots startServed_slots (List.finRange 4) _)
  have settled (u : State) : SameSlots u (finish ⟨u, []⟩) := by
    rw [finish_done]
    exact .of_bays rfl
  exact started.trans (settled _)

/-! ### The figures -/

theorem refigure_attention (s : State) : let t := refigure s
    t = { s with budget := t.budget, attention := t.attention } ∧
    t.attention = if t.budget.redundancyLost = true ∧ s.budget.redundancyLost = false then
      { s.attention with station := { s.attention.station with redundancyLost := true } } else s.attention := by
  simp only [refigure]
  split
  · next h =>
    obtain ⟨lost, new⟩ := Bool.and_eq_true_iff.1 h
    exact ⟨rfl, (if_pos ⟨lost, by simpa using new⟩).symm⟩
  · next h =>
    refine ⟨rfl, Eq.symm (if_neg fun c => h ?_)⟩
    rw [c.2, Bool.and_eq_true_iff]
    exact ⟨c.1, rfl⟩

theorem refigure_budget (s : State) : let b := (refigure s).budget
    b = { s.budget with
      base := b.base, failedFans := b.failedFans, factor := b.factor, usable := b.usable, committed := b.committed
      ha := b.ha, hs := b.hs, redundancyLost := b.redundancyLost, coolingDegraded := b.coolingDegraded, blocked := [] } := by
  simp only [refigure]
  split <;> rfl

/-! ### The deficit step -/

section
variable {w : Work}

theorem deficitStep_left (h : 0 ≤ w.st.budget.hs) (d : w.st.budget.deficit = true) :
    deficitStep w = w.map clearDeficit := (if_neg (Int.not_lt.2 h)).trans (if_pos d)

theorem deficitStep_calm (h : 0 ≤ w.st.budget.hs) (d : w.st.budget.deficit = false) : deficitStep w = w :=
  (if_neg (Int.not_lt.2 h)).trans (if_neg (by rw [d]; exact Bool.noConfusion))

theorem deficitStep_flags (h : w.st.budget.hs < 0) (c : w.st.census.isSome = true) :
    deficitStep w = if w.st.budget.deficit = true then w else w.map setDeficit := (if_pos h).trans (if_pos c)

theorem deficitStep_enters (h : w.st.budget.hs < 0) (c : w.st.census = none) (d : w.st.budget.deficit = false) :
    deficitStep w = enterDeficit w := by
  rw [deficitStep, if_pos h, c, d]
  rfl

theorem deficitStep_resheds (h : w.st.budget.hs < 0) (c : w.st.census = none) (d : w.st.budget.deficit = true) :
    deficitStep w = reshed w := by
  rw [deficitStep, if_pos h, c, d]
  rfl

end

/-! ### The share -/

theorem divUp_le_iff {a b k : Nat} (h : 0 < b) : divUp a b ≤ k ↔ a ≤ k * b := by
  rw [divUp, Nat.div_le_iff_le_mul_add_pred h, Nat.mul_comm]
  omega

theorem ownShare_least {s : State} (x : Nat) (h : 0 < s.budget.committed) (k : Nat) :
    ownShare s x ≤ k ↔ x * s.budget.committed ≤ k * (s.budget.committed + supplyCharges s) := by
  rw [ownShare, shareOf, if_neg (Nat.pos_iff_ne_zero.1 h)]
  exact divUp_le_iff (Nat.lt_of_lt_of_le h (Nat.le_add_right ..))

end Sys2Proof.Machine

end

section
/-! PROOF. Shedding: the two passes, and what a share takes from the slots' charges. -/

namespace Sys2Proof.Machine

/-! ### A slot capped -/

theorem cappable_iff (b : Bay) : b.cappable = true ↔ b.fitted = true ∧ b.seq.state = .running ∧ b.recordValid = true ∧
    b.seq.adopted = false ∧ b.seq.floor.getD 0 < b.charge := by
  simp only [Bay.cappable, Bool.and_eq_true, beq_iff_eq, Bool.not_eq_true', decide_eq_true_eq, and_assoc]

/-- A capped slot's charge is its active ceiling: the overdraw charge is gone (R64, R65, R135). -/
theorem capped_charge {b : Bay} (h : b.cappable = true) (n : Nat) : (b.capped n).charge = (b.capped n).activeCeiling := by
  obtain ⟨-, running, valid, adopted, -⟩ := (cappable_iff b).1 h
  have plain : ¬((b.capped n).seq.adopted = true ∨ (b.capped n).recordValid = false) := by
    rintro (a | v)
    · exact absurd (adopted.symm.trans a) Bool.noConfusion
    · exact absurd (valid.symm.trans v) Bool.noConfusion
  have charge := charge_powered (b := b.capped n) (.inr running)
  rw [if_neg plain] at charge
  exact charge.trans (Nat.max_zero _)

/-- The cap takes from the charge what the slot can give, and never adds to it (R135). -/
theorem capped_gives {b : Bay} (h : b.cappable = true) (n : Nat) :
    (b.capped n).charge + min n (b.charge - b.seq.floor.getD 0) ≤ b.charge := by
  obtain ⟨-, -, -, -, floor⟩ := (cappable_iff b).1 h
  have ceiling : (b.capped n).activeCeiling ≤
      max (b.seq.floor.getD 0) (b.charge - min n (b.charge - b.seq.floor.getD 0)) := by
    have shed : (b.capped n).activeCeiling = match b.seq.allowance with
        | none => 0
        | some a => max (b.seq.floor.getD 0) (min a (min (b.seq.opCeiling.getD a)
          (b.charge - min n (b.charge - b.seq.floor.getD 0)))) := rfl
    rw [shed]
    split
    · exact Nat.zero_le _
    · omega
  rw [capped_charge h]
  omega

/-! ### The charges of the four slots -/

/-- The charges of the four slots together. -/
def drawn (s : State) : Nat := s.bays[0].charge + s.bays[1].charge + s.bays[2].charge + s.bays[3].charge

theorem drawn_eq (s : State) : drawn s = ∑ i : SlotIx, s.bays[i].charge := (Fin.sum_univ_four fun i : SlotIx => s.bays[i].charge).symm

/-- A change of one slot moves the sum by that slot's charge. -/
theorem drawn_moves {s t : State} (i : SlotIx) (h : ∀ j, i ≠ j → t.bays[j].charge = s.bays[j].charge) :
    drawn t + s.bays[i].charge = drawn s + t.bays[i].charge := by
  have others : ∑ j ∈ Finset.univ.erase i, t.bays[j].charge = ∑ j ∈ Finset.univ.erase i, s.bays[j].charge :=
    Finset.sum_congr rfl fun j m => h j (Finset.ne_of_mem_erase m).symm
  have before := Finset.add_sum_erase Finset.univ (fun j : SlotIx => s.bays[j].charge) (Finset.mem_univ i)
  have after := Finset.add_sum_erase Finset.univ (fun j : SlotIx => t.bays[j].charge) (Finset.mem_univ i)
  rw [drawn_eq, drawn_eq, ← before, ← after, others]
  omega

/-- A slot's charge and power through what follows inside it. -/
theorem capFollows_charge (now : Nat) (a b : Bay) : (capFollows now a b).charge = b.charge := by
  simp only [capFollows]
  split
  · exact charge_link rfl
  · rfl

theorem capFollows_powered (now : Nat) (a b : Bay) : (capFollows now a b).powered = b.powered := by
  rw [Bay.powered, Bay.powered, capFollows_seq]

/-! ### A slot powered off -/

/-- A powered slot switched off by a shed goes to SHED_OFF with its shed and saved ceilings kept, and on to OFF without
them where its ejector is open (R57, R61, R137). -/
theorem powerOff_leaves {w : Work} {i : SlotIx} (c : ShutdownCause) (p : w.st.bays[i].powered = true) :
    let q := w.st.bays[i].seq
    let b := (powerOff i c w).st.bays[i]
    b.charge = 0 ∧ b.powered = false ∧ b.seq.overdraw = none ∧ b.seq.cycle = false ∧
    (q.ejectorOpen = false → b.seq.state = .shedOff ∧ b.seq.shedCeiling = q.shedCeiling ∧
      b.seq.savedCeiling = q.savedCeiling ∧ b.seq.restoreBarred = w.st.bays[i].draining) ∧
    (q.ejectorOpen = true → b.seq.state = .off ∧ b.seq.ejectorHold = true ∧ b.seq.shedCeiling = none ∧
      b.seq.savedCeiling = none) := by
  have kept := cut_eq w.st.bays[i].seq w.st.now
  have shedCeiling : (w.st.bays[i].seq.cut w.st.now).shedCeiling = w.st.bays[i].seq.shedCeiling := by rw [kept]
  have savedCeiling : (w.st.bays[i].seq.cut w.st.now).savedCeiling = w.st.bays[i].seq.savedCeiling := by rw [kept]
  cases e : w.st.bays[i].seq.ejectorOpen
  · have seq := powerOff_closed c p e
    have state : (powerOff i c w).st.bays[i].seq.state = .shedOff := congrArg Seq.state seq
    refine ⟨charge_of_zero (by rw [state]; decide), unpowered_of (by rw [state]; decide), congrArg Seq.overdraw seq,
      (congrArg Seq.cycle seq).trans (Bool.and_false _), fun _ => ⟨state, ?_, ?_, congrArg Seq.restoreBarred seq⟩,
      fun h => absurd (e.symm.trans h) Bool.noConfusion⟩
    · exact (congrArg Seq.shedCeiling seq).trans shedCeiling
    · exact (congrArg Seq.savedCeiling seq).trans savedCeiling
  · obtain ⟨x, shed, seq⟩ := powerOff_ejected c p e
    have state : (powerOff i c w).st.bays[i].seq.state = .off := congrArg Seq.state seq
    have cycle : x.seq.cycle = false := (congrArg Seq.cycle shed).trans (Bool.and_false _)
    refine ⟨charge_of_zero (by rw [state]; decide), unpowered_of (by rw [state]; decide), congrArg Seq.overdraw seq,
      (congrArg Seq.cycle seq).trans ?_, fun h => absurd (e.symm.trans h) Bool.noConfusion,
      fun _ => ⟨state, congrArg Seq.ejectorHold seq, congrArg Seq.shedCeiling seq,
        congrArg Seq.savedCeiling seq⟩⟩
    exact congrArg (· && true) cycle

theorem powerOff_other {w : Work} {i j : SlotIx} (c : ShutdownCause) (n : i ≠ j) :
    (powerOff i c w).st.bays[j] = w.st.bays[j] := by
  rw [powerOff]
  split
  · dsimp only
    split
    · rw [modBay_other _ _ _ n, modBay_other _ _ _ n]
    · rw [modBay_other _ _ _ n]
  · rfl

/-! ### The two passes -/

section
variable {w : Work} {n : Nat} {i : SlotIx} {l : List SlotIx}

theorem capPass_visits (h : 0 < n) (c : w.st.bays[i].cappable = true) : capPass (i :: l) (w, n) =
    capPass l (modBay .fault i (fun _ => w.st.bays[i].capped n) w,
      n - (w.st.bays[i].charge - (w.st.bays[i].capped n).charge)) :=
  if_pos (Bool.and_eq_true_iff.2 ⟨decide_eq_true h, c⟩)

theorem capPass_skips (h : ¬(0 < n ∧ w.st.bays[i].cappable = true)) : capPass (i :: l) (w, n) = capPass l (w, n) :=
  if_neg fun e => h ⟨of_decide_eq_true (Bool.and_eq_true_iff.1 e).1, (Bool.and_eq_true_iff.1 e).2⟩

theorem powerOffPass_visits (h : 0 < n) (p : w.st.bays[i].powered = true) :
    powerOffPass (i :: l) (w, n) = powerOffPass l (powerOff i .shed w, n - w.st.bays[i].charge) :=
  if_pos (Bool.and_eq_true_iff.2 ⟨decide_eq_true h, p⟩)

theorem powerOffPass_skips (h : n = 0 ∨ w.st.bays[i].powered = false) :
    powerOffPass (i :: l) (w, n) = powerOffPass l (w, n) := by
  refine if_neg fun e => ?_
  obtain ⟨more, p⟩ := Bool.and_eq_true_iff.1 e
  obtain h | h := h
  · exact absurd (of_decide_eq_true more) (by rw [h]; exact Nat.lt_irrefl 0)
  · exact absurd (h.symm.trans p) Bool.noConfusion

end

/-- The capping pass takes from the charges at least what it takes from the share (R135). -/
theorem capPass_drawn (l : List SlotIx) (w : Work) (n : Nat) :
    drawn (capPass l (w, n)).1.st + n ≤ drawn w.st + (capPass l (w, n)).2 := by
  induction l generalizing w n with
  | nil => exact Nat.le_refl _
  | cons i l ih =>
    by_cases h : 0 < n ∧ w.st.bays[i].cappable = true
    · rw [capPass_visits h.1 h.2]
      have rest := ih (modBay .fault i (fun _ => w.st.bays[i].capped n) w)
        (n - (w.st.bays[i].charge - (w.st.bays[i].capped n).charge))
      have moved := drawn_moves (s := w.st) (t := (modBay .fault i (fun _ => w.st.bays[i].capped n) w).st) i
        fun j apart => by rw [modBay_other _ _ _ apart]
      rw [modBay_bay, capFollows_charge] at moved
      have gives := capped_gives h.2 n
      omega
    · rw [capPass_skips h]
      exact ih w n

/-- The power-off pass does so too, and ends with the share given up or the slots it visited off (R136). -/
structure PassedOff (l : List SlotIx) (w : Work) (n : Nat) (x : Work × Nat) : Prop where
  drawn : drawn x.1.st + n ≤ drawn w.st + x.2
  remaining : x.2 ≤ n
  stays : ∀ i : SlotIx, w.st.bays[i].powered = false → x.1.st.bays[i].powered = false
  ends : x.2 = 0 ∨ ∀ i ∈ l, x.1.st.bays[i].powered = false

theorem powerOffPass_passes (l : List SlotIx) (w : Work) (n : Nat) : PassedOff l w n (powerOffPass l (w, n)) := by
  induction l generalizing w n with
  | nil => exact ⟨Nat.le_refl _, Nat.le_refl _, fun _ u => u, .inr nofun⟩
  | cons i l ih =>
    by_cases h : n = 0 ∨ w.st.bays[i].powered = false
    · rw [powerOffPass_skips h]
      have rest := ih w n
      refine { rest with ends := ?_ }
      obtain none | off := h
      · exact .inl (Nat.le_zero.1 (none ▸ rest.remaining))
      · refine rest.ends.imp_right fun others j m => ?_
        obtain rfl | m := List.mem_cons.1 m
        · exact rest.stays j off
        · exact others j m
    · obtain ⟨more, p⟩ := not_or.1 h
      have p : w.st.bays[i].powered = true := Bool.of_not_eq_false p
      rw [powerOffPass_visits (Nat.pos_of_ne_zero more) p]
      have rest := ih (powerOff i .shed w) (n - w.st.bays[i].charge)
      obtain ⟨charge, off, -⟩ := powerOff_leaves .shed p
      have moved := drawn_moves (s := w.st) (t := (powerOff i .shed w).st) i
        fun j apart => by rw [powerOff_other _ apart]
      rw [charge] at moved
      have less := rest.drawn
      refine ⟨by omega, rest.remaining.trans (Nat.sub_le ..), fun j u => rest.stays j ?_,
        rest.ends.imp_right fun others j m => ?_⟩
      · by_cases e : i = j
        · subst e; exact off
        · rw [powerOff_other _ e]; exact u
      · obtain rfl | m := List.mem_cons.1 m
        · exact rest.stays j off
        · exact others j m

/-- Shedding takes the share from the charges, or ends with no slot powered (R134). -/
theorem shed_drawn (w : Work) (n : Nat) : drawn (shed n w).st + n ≤ drawn w.st ∨
    ∀ i : SlotIx, (shed n w).st.bays[i].powered = false := by
  have passes : shed n w = (powerOffPass (shedOrder w.st) (capPass (shedOrder w.st) (w, n))).1 := rfl
  have capped := capPass_drawn (shedOrder w.st) w n
  rw [passes]
  generalize capPass (shedOrder w.st) (w, n) = x at capped ⊢
  obtain ⟨v, m⟩ := x
  have taken : drawn v.st + n ≤ drawn w.st + m := capped
  have passed := powerOffPass_passes (shedOrder w.st) v m
  refine passed.ends.imp (fun none => ?_) fun off i => ?_
  · have less := passed.drawn
    rw [none] at less
    omega
  · exact off i ((shedOrder_ordered w.st).1.mem_iff.2 (List.mem_finRange i))

/-! ### A fan channel's update -/

section
variable {w : Work} {c : ChanIx} {t : Work} (tach : Nat)

theorem updateFan_same (f : c.val < w.st.settings.fanCount)
    (judged : t = if w.st.cooling.judging = true then w.map (judgeFan c tach) else w)
    (h : t.st.cooling.fans[c].health = w.st.cooling.fans[c].health) : updateFan c tach w = t.map (setDuty c) := by
  have fitted : fanFitted w.st c = true := decide_eq_true f
  simp only [updateFan, fitted, if_true, ← judged]
  exact congrArg (Work.map (setDuty c)) (if_pos (beq_iff_eq.2 h.symm))

theorem updateFan_changes (f : c.val < w.st.settings.fanCount)
    (judged : t = if w.st.cooling.judging = true then w.map (judgeFan c tach) else w)
    (h : t.st.cooling.fans[c].health ≠ w.st.cooling.fans[c].health) : updateFan c tach w =
      (if t.st.cooling.fans[c].health = .failed then
        (flush (recompute t)).map (raiseStation fun f => { f with fanFailed := true })
      else flush (recompute t)).map (setDuty c) := by
  have fitted : fanFitted w.st c = true := decide_eq_true f
  simp only [updateFan, fitted, if_true, ← judged]
  refine congrArg (Work.map (setDuty c)) ((if_neg fun e => h (beq_iff_eq.1 e).symm).trans ?_)
  simp only [beq_iff_eq]

end

theorem withdrawClaim_eq (s : State) : withdrawClaim s = if s.budget.own.state = .queued then
    { withdrawQueued .control isClaim s with budget := { s.budget with own := OwnClaim.idle } } else s := by
  simp only [withdrawClaim, beq_iff_eq]
  rfl

theorem withdrawRestore_eq (w : Work) : withdrawRestore w = match w.st.budget.restoreEntry with
    | none => w
    | some i =>
      let u := if (entryOf w.st i).isSome = true then (w.map (withdrawEntry i)).emit [.settle i] else w
      u.map fun s => { s with budget := { s.budget with restoreEntry := none } } := by
  rw [withdrawRestore]
  cases w.st.budget.restoreEntry <;> rfl

/-- The withdrawal of an entry leaves the headroom figure: no recomputation runs in it (R113). -/
theorem withdrawEntry_hs (i : SlotIx) (s : State) : (withdrawEntry i s).budget.hs = s.budget.hs := by
  have check (t : State) (h : t.budget.hs = s.budget.hs) : (recheck s t).budget.hs = s.budget.hs := by
    obtain ⟨b, o, l, e⟩ := sendingCheck_eq t
    simp only [recheck, e]
    split <;> exact h
  rw [withdrawEntry]
  split
  · rfl
  · refine check _ ?_
    split
    · rw [withdrawClaim_eq]
      split <;> rfl
    · rfl

theorem withdrawRestore_hs (w : Work) : (withdrawRestore w).st.budget.hs = w.st.budget.hs := by
  rw [withdrawRestore_eq]
  split
  · rfl
  · dsimp only
    split
    · exact withdrawEntry_hs _ w.st
    · rfl

/-- Settles O60: the census's end by the states it passes, the recomputation by its steps, shedding by its passes. -/
theorem censusEnds : Obligations.CensusEnds := by
  refine ⟨fun s d run census due => ⟨?_, ?_⟩, fun w i x => ⟨rfl, rfl, rfl⟩, fun w c tach fitted => ?_,
    fun s => ⟨refigure_figures s, (refigure_attention s).1, refigure_budget s, (refigure_attention s).2⟩, fun w => ?_,
    fun s x => ⟨fun none => if_pos none, fun some => ⟨(ownShare_least x some _).1 (Nat.le_refl _), fun k =>
      (ownShare_least x some k).2⟩⟩, shedOrder_ordered, fun w n i l => ?_, fun w i c p => ?_, shed_drawn⟩
  · have ended := endCensus_over s
    refine ⟨_, event_occurs _ run (timer_due census due), ended.census, ended.judging, ended.fans, ended.peers,
      ended.supplies, ended.settings, fun deficit => ?_⟩
    refine Vector.ext fun i hi => ?_
    simp only [Vector.getElem_map]
    exact (endCensus_slots deficit).seq ⟨i, hi⟩
  · intro w
    rw [← startServed_eq]
    exact event_occurs _ run (timer_due census due)
  · exact ⟨updateFan_same tach fitted rfl, updateFan_changes tach fitted rfl⟩
  · refine ⟨deficitStep_calm, deficitStep_left, deficitStep_flags, deficitStep_enters, fun m h census d mark => ?_,
      withdrawRestore_eq w, ?_, withdrawClaim_eq w.st⟩
    · rw [deficitStep_resheds h census d, reshed, mark]
      rfl
    · rw [← withdrawRestore_hs w]
      rfl
  · intro b give c visits
    have taken : visits ↔ 0 < n ∧ b.cappable = true := and_congr_right fun _ => (cappable_iff b).symm
    refine ⟨rfl, rfl, rfl, fun v => ?_, fun v => capPass_skips (mt taken.2 v), powerOffPass_visits,
      powerOffPass_skips⟩
    obtain ⟨more, cappable⟩ := taken.1 v
    have gives : c.charge + give ≤ b.charge := capped_gives cappable n
    exact ⟨capPass_visits more cappable, by omega, capped_charge cappable n⟩
  · obtain ⟨charge, -, overdraw, cycle, closed, ejected⟩ := powerOff_leaves c p
    obtain ⟨gate, cause, -⟩ := powerOff_seq c p
    exact ⟨charge, gate, cause, overdraw, cycle, closed, ejected⟩

end Sys2Proof.Machine

end

section
/-! PROOF. The bytes of a payload and of an ANSWER's data read back. -/

namespace Sys2Proof.Machine

/-! ### Bytes and fields -/

theorem byteOf_toNat (n : Nat) : (byteOf n).toNat = n % 256 := BitVec.toNat_ofNat ..

theorem byteOf_small {n : Nat} (h : n < 256) : (byteOf n).toNat = n := (byteOf_toNat n).trans (Nat.mod_eq_of_lt h)

/-- A big-endian pair reads back as the figure's low 16 bits. -/
theorem be16_toNat (n : Nat) : (byteOf (n / 256)).toNat * 256 + (byteOf n).toNat = n % 65536 := by
  rw [byteOf_toNat, byteOf_toNat]
  omega

/-- Two big-endian pairs read back as the figure's low 32 bits. -/
theorem be32_toNat (n : Nat) : n / 65536 % 65536 * 65536 + n % 65536 = n % 4294967296 := by omega

theorem flagBit_le (k : Nat) (f : Bool) : flagBit k f ≤ 2 ^ k := by
  cases f
  · exact Nat.zero_le _
  · exact Nat.le_refl _

/-! ### The flag words -/

theorem any_toList {α : Type} (v : Vector α 4) (f : α → Bool) :
    v.toList.any f = (f v[0] || f v[1] || f v[2] || f v[3]) := by
  obtain ⟨⟨l⟩, h⟩ := v
  match l, h with
  | [a, b, c, d], _ => simp [Bool.or_assoc]

/-- One flag's bit in the flag word. -/
theorem flagAt_getLsbD (k : Nat) (f : Bool) (j : Nat) (h : k < 16) :
    (if f = true then BitVec.ofNat 16 (2 ^ k) else 0).getLsbD j = (f && decide (k = j)) := by
  cases f
  · simp
  · rw [if_pos rfl, BitVec.getLsbD_ofNat, Nat.testBit_two_pow, Bool.true_and]
    by_cases e : k = j
    · subst e
      rw [decide_eq_true h, Bool.true_and]
    · rw [decide_eq_false e, Bool.and_false]

theorem flagWord_bits (a : Attention) :
    let any (f : SlotFlags → Bool) : Bool := f a.slots[0] || f a.slots[1] || f a.slots[2] || f a.slots[3]
    (List.range 16).map (flagWord a).toNat.testBit =
      [a.station.busFaults, a.station.startDefaults, a.station.configMismatch, a.station.fanFailed,
        a.station.redundancyLost, a.station.deficit, any (·.noncompliant), any (·.stuck), any (·.latched),
        false, false, false, false, false, false, false] := by
  intro any
  have bit (j : Nat) : (flagWord a).toNat.testBit j = (
      any (·.latched) && decide (8 = j) || any (·.stuck) && decide (7 = j) || any (·.noncompliant) && decide (6 = j) ||
      a.station.deficit && decide (5 = j) || a.station.redundancyLost && decide (4 = j) ||
      a.station.fanFailed && decide (3 = j) || a.station.configMismatch && decide (2 = j) ||
      a.station.startDefaults && decide (1 = j) || a.station.busFaults && decide (0 = j)) := by
    simp only [BitVec.testBit_toNat, flagWord, BitVec.getLsbD_or, gathered, any_toList]
    rw [flagAt_getLsbD 8 _ _ (by decide), flagAt_getLsbD 7 _ _ (by decide), flagAt_getLsbD 6 _ _ (by decide),
      flagAt_getLsbD 5 _ _ (by decide), flagAt_getLsbD 4 _ _ (by decide), flagAt_getLsbD 3 _ _ (by decide),
      flagAt_getLsbD 2 _ _ (by decide), flagAt_getLsbD 1 _ _ (by decide), flagAt_getLsbD 0 _ _ (by decide)]
  simp [List.range_succ, bit]

theorem slotFlagBits_lt (f : SlotFlags) : slotFlagBits f < 8 := by
  obtain ⟨x, y, z⟩ := f
  cases x <;> cases y <;> cases z <;> decide

theorem slotFlagBits_bits (f : SlotFlags) : (slotFlagBits f).testBit 0 = f.noncompliant ∧
    (slotFlagBits f).testBit 1 = f.stuck ∧ (slotFlagBits f).testBit 2 = f.latched := by
  obtain ⟨x, y, z⟩ := f
  cases x <;> cases y <;> cases z <;> decide

/-- The word holds the slots' bits as octal digits. -/
theorem slotFlagWord_digit (a : Attention) (i : SlotIx) : slotFlagWord a / 8 ^ i.val % 8 = slotFlagBits a.slots[i] := by
  have := slotFlagBits_lt a.slots[0]
  have := slotFlagBits_lt a.slots[1]
  have := slotFlagBits_lt a.slots[2]
  have := slotFlagBits_lt a.slots[3]
  match i with
  | 0 | 1 | 2 | 3 => simp [slotFlagWord]; omega

theorem slotFlagWord_bit (a : Attention) (i : SlotIx) {k : Nat} (h : k < 3) :
    (slotFlagWord a).testBit (3 * i.val + k) = (slotFlagBits a.slots[i]).testBit k := by
  have eight : 8 ^ i.val = 2 ^ (3 * i.val) := by rw [pow_mul]; rfl
  rw [← slotFlagWord_digit, eight, Nat.testBit_mod_two_pow (j := 3), decide_eq_true h, Bool.true_and,
    Nat.testBit_div_two_pow, Nat.add_comm]

theorem slotFlagWord_lt (a : Attention) : slotFlagWord a < 65536 := by
  have := slotFlagBits_lt a.slots[0]
  have := slotFlagBits_lt a.slots[1]
  have := slotFlagBits_lt a.slots[2]
  have := slotFlagBits_lt a.slots[3]
  rw [slotFlagWord]
  omega

end Sys2Proof.Machine

end

section
/-! PROOF. The ANSWERs to the questions: their delivery, their statuses and their data. -/

namespace Sys2Proof.Machine

/-! ### The delivery of an ASK -/

section
variable {s : State} {r : Route} {a : AskOperands} {answer : State → State}

theorem ask_known (run : s.run = .running) (n : r.src ≠ s.address) (d : r.dst = s.address)
    (k : s.peers[r.src].state ≠ .unknown) :
    ask s r a answer = .next (settleFlags (askBody r.src a answer (countGood s))) := by
  rw [ask, destined_from _ run n k, if_pos d]
  exact congrArg Host.Outcome.next (finish_done _)

/-- From an UNKNOWN source the ASK is heard first, and then answered on the state that the hearing leaves. -/
theorem ask_unknown (run : s.run = .running) (n : r.src ≠ s.address) (d : r.dst = s.address)
    (k : s.peers[r.src].state = .unknown) : ∃ t u, ask s r a answer = .next t ∧
      Kept (setPeer r.src (Peer.heardAt s.now) (countGood s)) u ∧ Kept (askBody r.src a answer u) t := by
  refine ⟨_, _, (destined_answer _ run n).trans (by rw [if_pos d]), hearOnly_kept k, ?_⟩
  exact finish_kept ((flush (hearOnly r.src ⟨s, []⟩)).map (askBody r.src a answer))

end

theorem askBody_topic {dst : Addr} {a : AskOperands} (h : a.unknownTopic = false) (answer : State → State) (s : State) :
    askBody dst a answer s = answer s := if_neg (by rw [h]; exact Bool.noConfusion)

theorem askBody_unknown {dst : Addr} {a : AskOperands} (h : a.unknownTopic = true) (answer : State → State) (s : State) :
    askBody dst a answer s = answerUnknown dst s := if_pos h

/-! ### Selectors -/

theorem channelAt_fitted {s : State} {c : ChanIx} (h : c.val < s.settings.supplyCount) : channelAt s c.val = some c := by
  rw [channelAt, dif_pos c.isLt]
  exact if_pos (decide_eq_true h)

theorem channelAt_unfitted {s : State} {n : Nat} (h : ∀ c : ChanIx, c.val = n → s.settings.supplyCount ≤ n) :
    channelAt s n = none := by
  rw [channelAt]
  split
  · next l =>
    refine if_neg fun f => ?_
    exact absurd (of_decide_eq_true f) (Nat.not_lt.2 (h ⟨n, l⟩ rfl))
  · rfl

/-! ### The inventory -/

section
variable {s : State} {i : SlotIx} {chunk : Nat}

theorem answerInventory_fitted (f : s.bays[i].fitted = true) : answerInventory s i.val chunk =
    if 3 < chunk ∨ s.bays[i].seq.state = .empty then (.noSuch, [])
    else if s.bays[i].seq.state = .identify ∨ s.bays[i].seq.adopted = true ∨
      (s.bays[i].link.record = none ∧ s.bays[i].link.inventory.isSome = true) then (.notYet, [])
    else (.ok, inventoryData s.bays[i] chunk) := by
  simp only [answerInventory, slotAt_fitted f, Bay.recordNotYet, Bool.or_eq_true, Bool.and_eq_true, beq_iff_eq,
    decide_eq_true_eq, Option.isNone_iff_eq_none, or_assoc]

end

theorem inventoryData_held {b : Bay} {r : InvRecord} (h : b.link.record = some r) (n : r.status ≠ .absent)
    (chunk : Nat) :
    inventoryData b chunk = (r.bytes.drop (24 * chunk)).take 24 ++ [if r.status = .valid then 0 else 1] := by
  simp only [inventoryData, h, beq_false_of_ne n, Bool.false_eq_true, if_false]
  cases e : r.status
  · rfl
  · rfl
  · exact absurd e n

theorem inventoryData_absent {b : Bay} (h : ∀ r, b.link.record = some r → r.status = .absent) (chunk : Nat) :
    inventoryData b chunk = List.replicate 24 0 ++ [2] := by
  simp only [inventoryData]
  split
  · next r e =>
    rw [if_pos (beq_iff_eq.2 (h r e))]
    rfl
  · rfl

end Sys2Proof.Machine

end

section
/-! PROOF. The data of each ANSWER, field by field (section 12.3). -/

namespace Sys2Proof.Machine

/-! ### SLOT -/

theorem SlotState.code_lt (x : SlotState) : x.code < 16 := by cases x <;> decide

theorem ShutdownCause.code_lt (x : ShutdownCause) : x.code < 16 := by cases x <;> decide

theorem PortState.code_lt (x : PortState) : x.code < 6 := by cases x <;> decide

theorem bladeCode_eq (b : Option BladeState) : bladeCode b = (match b with
    | none => 0
    | some .booting => 1
    | some .up => 2
    | some .softOffRequest => 3) := by
  obtain _ | b := b
  · rfl
  · cases b <;> rfl

theorem bladeCode_lt (b : Option BladeState) : bladeCode b < 4 := by
  obtain _ | b := b
  · decide
  · cases b <;> decide

theorem moduleCode_some (n : Need) : moduleCode (some n) = (match n.module with
    | some m => m.val
    | none => 4) ∧ moduleCode (some n) ≤ 4 := by
  obtain ⟨lanes, _ | m⟩ := n
  · exact ⟨rfl, Nat.le_refl _⟩
  · exact ⟨rfl, Nat.le_of_lt m.isLt⟩

/-- The codes of a need as the SLOT data carry them. -/
theorem needCode_eq {r : PortRec} (h : ∀ n, r.need = some n → n.lanes ∈ [1, 2, 4]) :
    8 * lanesCode r.need + moduleCode r.need = (match r.need with
      | none => 0
      | some n => 8 * (if n.lanes = 4 then 3 else n.lanes) + (match n.module with
        | some m => m.val
        | none => 4)) ∧ 8 * lanesCode r.need + moduleCode r.need < 32 := by
  cases e : r.need with
  | none => exact ⟨rfl, by decide⟩
  | some n =>
    have lanes : lanesCode (some n) = if n.lanes = 4 then 3 else n.lanes := by
      have cases := h n e
      simp only [List.mem_cons, List.not_mem_nil, or_false] at cases
      obtain c | c | c := cases <;> simp [lanesCode, c]
    have module := moduleCode_some n
    have small : lanesCode (some n) ≤ 3 := by
      simp only [lanesCode]
      split
      · decide
      · split <;> decide
    exact ⟨by rw [lanes, module.1], by have := module.2; omega⟩

theorem groupCode_eq (g : Option Group) : groupCode g = (match g with
    | none => 0
    | some g => if g.lanes = 1 then 1 + g.first else if g.lanes = 2 then 9 + g.first / 2 else 13 + g.first / 4) := by
  obtain _ | g := g
  · rfl
  · simp only [groupCode, beq_iff_eq]

theorem groupCode_lt {g : Option Group} (h : ∀ x, g = some x → x.lanes ∈ [1, 2, 4] ∧ x.first % x.lanes = 0 ∧ x.first < 8) :
    groupCode g < 16 := by
  obtain _ | x := g
  · decide
  · have first := (h x rfl).2.2
    rw [groupCode_eq]
    dsimp only
    split
    · omega
    · split <;> omega

/-- The three bytes of a port lane record. -/
theorem portBytes_fields (r : PortRec) :
    ((∀ n, r.need = some n → n.lanes ∈ [1, 2, 4]) →
      natAt (portBytes r) 0 = 32 * r.state.code + (match r.need with
        | none => 0
        | some n => 8 * (if n.lanes = 4 then 3 else n.lanes) + (match n.module with
          | some m => m.val
          | none => 4))) ∧
    ((∀ g, r.group = some g → g.lanes ∈ [1, 2, 4] ∧ g.first % g.lanes = 0 ∧ g.first < 8) →
      natAt (portBytes r) 1 = 64 * (r.chosen.map (·.val)).getD 0 + (if r.chosen.isSome = true then 32 else 0) +
        (if r.tag.isSome = true then 16 else 0) + (match r.group with
          | none => 0
          | some g => if g.lanes = 1 then 1 + g.first else if g.lanes = 2 then 9 + g.first / 2 else
              13 + g.first / 4)) ∧
    natAt (portBytes r) 2 = (r.tag.getD 0).toNat := by
  refine ⟨fun h => ?_, fun h => ?_, rfl⟩
  · obtain ⟨code, small⟩ := needCode_eq h
    have state := PortState.code_lt r.state
    rw [← code, ← Nat.add_assoc]
    exact byteOf_small (by omega)
  · have group := groupCode_lt h
    have chosen : (r.chosen.map (·.val)).getD 0 < 4 := by
      cases r.chosen with
      | none => decide
      | some m => exact m.isLt
    have bits := flagBit_le 5 r.chosen.isSome
    have tagged := flagBit_le 4 r.tag.isSome
    rw [← groupCode_eq]
    exact byteOf_small (by omega)

theorem natAt_drop (l : List Byte) (n k : Nat) : natAt (l.drop n) k = natAt l (n + k) := by
  simp only [natAt, List.getD_eq_getElem?_getD, List.getElem?_drop]

/-- Four port lane records, three bytes each. -/
def recordBytes (v : Vector PortRec 4) : List Byte :=
  portBytes v[0] ++ portBytes v[1] ++ portBytes v[2] ++ portBytes v[3]

theorem recordBytes_at (v : Vector PortRec 4) (p : PortIx) {j : Nat} (h : j < 3) :
    natAt (recordBytes v) (3 * p.val + j) = natAt (portBytes v[p]) j := by
  have j012 : j = 0 ∨ j = 1 ∨ j = 2 := by omega
  match p with
  | 0 | 1 | 2 | 3 => obtain rfl | rfl | rfl := j012 <;> rfl

/-- Where the port lane records stand in the SLOT data. -/
theorem slotData_port (b : Bay) (p : PortIx) {j : Nat} (h : j < 3) :
    natAt (slotData b) (19 + 3 * p.val + j) = natAt (portBytes b.ports[p]) j := by
  have records : (slotData b).drop 19 = recordBytes b.ports := rfl
  rw [← recordBytes_at b.ports p h, ← records, natAt_drop, Nat.add_assoc]

/-- The bytes and two-byte figures of the SLOT data's layout, whatever they are. -/
theorem slotLayout_fields (head flags margin : Byte) (a f o s v c g l : Nat) (p q r t : List Byte) :
    let d := [head] ++ be16 a ++ be16 f ++ be16 o ++ be16 s ++ be16 v ++ be16 c ++ be16 g ++ [flags, margin] ++ be16 l ++
      p ++ q ++ r ++ t
    natAt d 0 = head.toNat ∧ natAt d 15 = flags.toNat ∧ d[16]? = some margin ∧
      be16At d 1 = a % 65536 ∧ be16At d 3 = f % 65536 ∧ be16At d 5 = o % 65536 ∧ be16At d 7 = s % 65536 ∧
      be16At d 9 = v % 65536 ∧ be16At d 11 = c % 65536 ∧ be16At d 13 = g % 65536 ∧ be16At d 17 = l % 65536 := by
  simp only [be16At, natAt, be16, List.cons_append, List.nil_append, List.getD_cons_succ, List.getD_cons_zero,
    List.getElem?_cons_succ, List.getElem?_cons_zero, be16_toNat, and_self]

theorem slotHead_toNat (b : Bay) :
    (byteOf (16 * b.seq.state.code + b.seq.cause.code)).toNat = 16 * b.seq.state.code + b.seq.cause.code := by
  have := SlotState.code_lt b.seq.state
  have := ShutdownCause.code_lt b.seq.cause
  exact byteOf_small (by omega)

theorem slotFlags_toNat (b : Bay) :
    (byteOf (flagBit 7 (b.link.health == .unresponsive) + flagBit 6 b.link.capUnacked +
      flagBit 5 b.link.margin.isSome + bladeCode b.link.bladeState)).toNat =
    (if b.link.health = .unresponsive then 128 else 0) + (if b.link.capUnacked = true then 64 else 0) +
      (if b.link.margin.isSome = true then 32 else 0) + (match b.link.bladeState with
        | none => 0
        | some .booting => 1
        | some .up => 2
        | some .softOffRequest => 3) := by
  have health : flagBit 7 (b.link.health == .unresponsive) = if b.link.health = .unresponsive then 128 else 0 := by
    cases b.link.health <;> rfl
  have h := flagBit_le 7 (b.link.health == .unresponsive)
  have c := flagBit_le 6 b.link.capUnacked
  have m := flagBit_le 5 b.link.margin.isSome
  have s := bladeCode_lt b.link.bladeState
  rw [← bladeCode_eq, ← health, byteOf_small (by omega)]
  rfl

/-! ### METER, SUPPLY, STATION, COUNTERS -/

theorem meterData_fields (m : Meter) : let d := meterData m
    d.length = 19 ∧ be16At d 0 * 65536 + be16At d 2 = m.energy % 4294967296 ∧ be16At d 4 = m.rollovers % 65536 ∧
    be16At d 6 * 65536 + be16At d 8 = m.samples % 4294967296 ∧ be16At d 10 = m.voltAvg % 65536 ∧
    be16At d 12 = m.ampAvg % 65536 ∧ be16At d 14 = m.powerAvg % 65536 ∧ be16At d 16 = m.peak % 65536 ∧
    natAt d 18 = if m.overRange = true then 1 else 0 := by
  intro d
  refine ⟨rfl, ?_⟩
  simp only [d, meterData, be32, be16At, natAt, be16, List.cons_append, List.nil_append, List.getD_cons_succ,
    List.getD_cons_zero, be16_toNat, be32_toNat, true_and]
  exact byteOf_small (Nat.lt_of_le_of_lt (flagBit_le 0 m.overRange) (by decide))

theorem supplyBytes_fields (r : SupplyRecord) : let d := supplyBytes r
    d.length = 5 ∧ natAt d 0 = (if r.feed = .a then 0 else 128) + (match r.state with
      | .absent => 0
      | .ok => 1
      | .degraded => 2
      | .failed => 3) ∧ be16At d 1 = r.rated % 65536 ∧ be16At d 3 = min r.output 65535 := by
  simp only [supplyBytes, be16At, natAt, be16, List.cons_append, List.nil_append, List.getD_cons_succ,
    List.getD_cons_zero, be16_toNat]
  refine ⟨rfl, ?_, trivial, Nat.mod_eq_of_lt (by omega)⟩
  cases e : r.feed <;> cases k : r.state <;> simp [Feed.code, SupplyState.code, byteOf]

/-- A signed figure's four bytes read back modulo 2 to the 32. -/
theorem be32Signed_toNat (i : Int) : (((i % 4294967296).toNat / 65536 % 65536 * 65536 +
    (i % 4294967296).toNat % 65536 : Nat) : Int) = i % 4294967296 := by omega

end Sys2Proof.Machine

end

section
/-! PROOF. The questions answered: the obligation assembled from the delivery, the statuses and the data. -/

namespace Sys2Proof.Machine

theorem stationData_fields (s : State) : let d := stationData s
    d.length = 15 ∧ be16At d 0 = s.budget.committed % 65536 ∧
    ((be16At d 2 * 65536 + be16At d 4 : Nat) : Int) = s.budget.ha % 4294967296 ∧
    ((be16At d 6 * 65536 + be16At d 8 : Nat) : Int) = s.budget.hs % 4294967296 ∧
    (s.budget.factor < 32 → natAt d 10 = (if s.budget.deficit = true then 128 else 0) + s.budget.factor) ∧
    be16At d 11 = (flagWord s.attention).toNat ∧ be16At d 13 = slotFlagWord s.attention := by
  intro d
  have flag := flagBit_le 7 s.budget.deficit
  refine ⟨rfl, ?_⟩
  simp only [d, stationData, be32Signed, be32, be16At, natAt, be16, List.cons_append, List.nil_append,
    List.getD_cons_succ, List.getD_cons_zero, be16_toNat, be32Signed_toNat, true_and]
  exact ⟨fun small => byteOf_small (by omega), Nat.mod_eq_of_lt (flagWord s.attention).isLt,
    Nat.mod_eq_of_lt (slotFlagWord_lt _)⟩

theorem countersData_fields (b : BusPort) : let d := countersData b
    be16At d 0 = b.good % 65536 ∧ be16At d 2 = b.crcDrops % 65536 ∧ be16At d 4 = b.overflows % 65536 ∧
      be16At d 6 = b.ordersRefused % 65536 := by
  simp only [countersData, be16At, natAt, be16, List.cons_append, List.nil_append, List.getD_cons_succ,
    List.getD_cons_zero, be16_toNat, and_self]

/-- Settles O28: the delivery, then each topic's status, then its data. -/
theorem asksAreAnswered : Obligations.AsksAreAnswered := by
  refine ⟨fun s r a run n d k topic => ?_, fun s r a run n d k => ⟨fun topic => ?_, fun topic c m => ?_⟩,
    fun s n chunk => ⟨fun none => ?_, fun none => ?_, fun i e f => ?_⟩, fun s i f => ?_, ⟨rfl, rfl, rfl⟩,
    fun s i f => ?_, fun s c f => ?_, fun s => ⟨?_, ?_⟩⟩
  · intro heard
    have delivered (answer : State → State) :
        ∃ t u, ask s r a answer = .next t ∧ Kept heard u ∧ Kept (answer u) t := by
      obtain ⟨t, u, fires, hears, answers⟩ := ask_unknown (answer := answer) run n d k
      rw [askBody_topic topic] at answers
      exact ⟨t, u, fires, hears, answers⟩
    refine ⟨fun x m => ?_, ?_⟩
    · simp only [List.mem_cons, List.not_mem_nil, or_false] at m
      obtain rfl | rfl | rfl | rfl | rfl | rfl := m <;> exact delivered _
    · obtain ⟨t, u, fires, hears, answers⟩ := delivered (offer .rollCall)
      exact ⟨t, fires, (offer_routine_kept rfl (fun _ => rfl) hears).trans answers⟩
  · have delivered (answer : State → State) : ask s r a answer = .next (settleFlags (answer (countGood s))) := by
      rw [ask_known run n d k, askBody_topic topic]
    exact ⟨delivered _, delivered _, delivered _, delivered _, delivered _, delivered _, delivered _⟩
  · have delivered (answer : State → State) : ask s r a answer =
        .next (settleFlags (answerUnknown r.src (countGood s))) := by
      rw [ask_known run n d k, askBody_unknown topic]
    simp only [List.mem_cons, List.not_mem_nil, or_false] at m
    obtain rfl | rfl | rfl | rfl | rfl | rfl | rfl := m <;> exact delivered _
  · simp only [answerInventory, answerSlot, answerMeter, slotAt_unfitted none, and_self]
  · simp only [answerSupply, channelAt_unfitted none]
  · subst e
    rw [answerInventory_fitted f]
    refine ⟨fun h => if_pos h, fun c n y => ?_, fun c n y => ⟨fun r held present => ?_, fun absent => ?_⟩⟩
    · rw [if_neg (by rintro (m | m); exacts [absurd m (Nat.not_lt.2 c), n m]), if_pos y]
    · rw [if_neg (by rintro (m | m); exacts [absurd m (Nat.not_lt.2 c), n m]), if_neg y,
        inventoryData_held held present]
    · rw [if_neg (by rintro (m | m); exacts [absurd m (Nat.not_lt.2 c), n m]), if_neg y, inventoryData_absent absent]
  · refine ⟨slotData s.bays[i], by rw [answerSlot, slotAt_fitted f], rfl, ?_⟩
    obtain ⟨head, flags, margin, allowance, floor, opCeiling, shedCeiling, savedCeiling, active, charge, lastCap⟩ :=
      slotLayout_fields ..
    refine ⟨head.trans (slotHead_toNat _), allowance, floor, opCeiling, shedCeiling, savedCeiling, active, charge,
      flags.trans (slotFlags_toNat _), margin, lastCap, fun p => ?_⟩
    obtain ⟨need, group, tag⟩ := portBytes_fields s.bays[i].ports[p]
    refine ⟨fun h => ?_, fun h => ?_, ?_⟩
    · exact (slotData_port s.bays[i] p (j := 0) (by decide)).trans (need h)
    · exact (slotData_port s.bays[i] p (j := 1) (by decide)).trans (group h)
    · exact (slotData_port s.bays[i] p (j := 2) (by decide)).trans tag
  · obtain ⟨length, fields⟩ := meterData_fields s.bays[i].meter
    exact ⟨meterData s.bays[i].meter, by rw [answerMeter, slotAt_fitted f], length, fields⟩
  · obtain ⟨length, feed, rated, output⟩ := supplyBytes_fields (ownRecord s c)
    exact ⟨supplyBytes (ownRecord s c), by rw [answerSupply, channelAt_fitted f], length, feed, rated, output⟩
  · obtain ⟨length, committed, ha, hs, factor, flags, slots⟩ := stationData_fields s
    refine ⟨stationData s, rfl, length, committed, ha, hs, factor, ?_⟩
    rw [flags, slots]
    refine ⟨flagWord_bits s.attention, fun i => ?_⟩
    obtain ⟨noncompliant, stuck, latched⟩ := slotFlagBits_bits s.attention.slots[i]
    exact ⟨(slotFlagWord_bit _ i (k := 0) (by decide)).trans noncompliant,
      (slotFlagWord_bit _ i (k := 1) (by decide)).trans stuck, (slotFlagWord_bit _ i (k := 2) (by decide)).trans latched⟩
  · exact ⟨countersData s.bus, rfl, rfl, countersData_fields s.bus⟩

end Sys2Proof.Machine

end

section
/-! PROOF. The payloads of fixed length read back, and the frames that are malformed. -/

namespace Sys2Proof.Machine

/-! ### Codes read back -/

theorem indexOf_eq {n : Nat} (x : Fin (n + 1)) {k : Nat} (h : k = x.val) : indexOf n k = x := by
  subst h
  exact dif_pos x.isLt

theorem feedOf_code (k : Nat) (f : Feed) : feedOf (2 * k + f.code) = f := by
  cases f <;> simp [feedOf, Feed.code, Nat.add_mod]

theorem supplyStateOf_code (k : Nat) (x : SupplyState) : supplyStateOf (4 * k + x.code) = x := by
  cases x <;> simp [supplyStateOf, SupplyState.code, Nat.add_mod]

theorem answerStatusOf_code (k : Nat) (x : AnswerStatus) : answerStatusOf (4 * k + answerStatusCode x) = x := by
  cases x <;> simp [answerStatusOf, answerStatusCode, Nat.add_mod]

theorem condSourceOf_code (x : CondSource) : condSourceOf (condSourceCode x) = x := by cases x <;> rfl

theorem kindOf_code (k : MsgKind) : kindOf k.code = some k := by cases k <;> rfl

theorem Feed.code_le (f : Feed) : f.code ≤ 1 := by cases f <;> decide

theorem SupplyState.code_le (x : SupplyState) : x.code ≤ 3 := by cases x <;> decide

theorem answerStatusCode_le (x : AnswerStatus) : answerStatusCode x ≤ 3 := by cases x <;> decide

theorem condSourceCode_le (x : CondSource) : condSourceCode x ≤ 3 := by cases x <;> decide

theorem MsgKind.code_le (k : MsgKind) : k.code ≤ 13 := by cases k <;> decide

theorem classRank_le (c : MsgClass) : classRank c ≤ 2 := by cases c <;> decide

/-! ### Fields of their width -/

theorem fits8_iff {n : Nat} : fits8 n = true ↔ n < 256 := decide_eq_true_iff

theorem fits16_iff {n : Nat} : fits16 n = true ↔ n < 65536 := decide_eq_true_iff

theorem fits4_iff {n : Nat} : fits4 n = true ↔ n < 16 := decide_eq_true_iff

/-- A two-byte field of its width is read back. -/
theorem be16_small {n : Nat} (h : n < 65536) : (byteOf (n / 256)).toNat * 256 + (byteOf n).toNat = n :=
  (be16_toNat n).trans (Nat.mod_eq_of_lt h)

/-! ### Payloads of fixed length -/

theorem claim_reads {m : ClaimMsg} (h : m.wellFormed = true) : claimOf (claimBytes m) = some m := by
  obtain ⟨number, watts, slot, kind⟩ := m
  simp only [ClaimMsg.wellFormed, Bool.and_eq_true, fits16_iff, fits4_iff] at h
  obtain ⟨⟨w, s⟩, k⟩ := h
  have code : (byteOf (16 * slot + kind)).toNat = 16 * slot + kind := byteOf_small (by omega)
  have high : (16 * slot + kind) / 16 = slot := by omega
  have low : (16 * slot + kind) % 16 = kind := by omega
  simp only [claimOf, claimBytes, be16, List.cons_append, List.nil_append, List.length_cons, List.length_nil, if_true,
    natAt, be16At, List.getD_cons_succ, List.getD_cons_zero, be16_small w, code, high, low]

theorem claimDrop_reads {m : ClaimDropMsg} (h : m.wellFormed = true) : claimDropOf (claimDropBytes m) = some m := by
  obtain ⟨number, reason⟩ := m
  have r := fits8_iff.1 h
  simp only [claimDropOf, claimDropBytes, List.length_cons, List.length_nil, if_true, natAt, List.getD_cons_succ,
    List.getD_cons_zero, byteOf_small r]

theorem alarm_reads {m : AlarmMsg} (h : m.wellFormed = true) : alarmOf (alarmBytes m) = some m := by
  obtain ⟨channel, state, rated⟩ := m
  have r := fits16_iff.1 h
  have c := channel.isLt
  have s := SupplyState.code_le state
  have code : (byteOf (128 * channel.val + state.code)).toNat = 128 * channel.val + state.code :=
    byteOf_small (by omega)
  have read : supplyStateOf (128 * channel.val + state.code) = state := by
    have := supplyStateOf_code (32 * channel.val) state
    rwa [← Nat.mul_assoc] at this
  simp only [alarmOf, alarmBytes, be16, List.length_cons, List.length_nil, if_true, natAt, be16At,
    List.getD_cons_succ, List.getD_cons_zero, be16_small r, code, read]
  rw [indexOf_eq channel (by omega)]

theorem bid_reads {m : BidMsg} (h : m.wellFormed = true) : bidOf (bidBytes m) = some m := by
  obtain ⟨module, slot, port, lanes, tag⟩ := m
  have l := fits8_iff.1 h
  have code : (byteOf (64 * module.val + 16 * slot.val + 4 * port.val)).toNat =
      64 * module.val + 16 * slot.val + 4 * port.val := byteOf_small (by omega)
  simp only [bidOf, bidBytes, List.length_cons, List.length_nil, if_true, natAt, List.getD_cons_succ,
    List.getD_cons_zero, byteOf_small l, code]
  rw [indexOf_eq module (by omega), indexOf_eq slot (by omega), indexOf_eq port (by omega)]

theorem offer_reads {m : OfferMsg} (h : m.wellFormed = true) : offerMsgOf (offerBytes m) = some m := by
  obtain ⟨module, tag, first, lanes⟩ := m
  simp only [OfferMsg.wellFormed, Bool.and_eq_true, fits8_iff] at h
  obtain ⟨⟨md, f⟩, l⟩ := h
  simp only [offerMsgOf, offerBytes, List.length_cons, List.length_nil, if_true, natAt, List.getD_cons_succ,
    List.getD_cons_zero, byteOf_small md, byteOf_small f, byteOf_small l]

theorem defer_reads {m : DeferMsg} (h : m.wellFormed = true) : deferMsgOf (deferBytes m) = some m := by
  obtain ⟨module, tag⟩ := m
  simp only [deferMsgOf, deferBytes, List.length_cons, List.length_nil, if_true, natAt, List.getD_cons_succ,
    List.getD_cons_zero, byteOf_small (fits8_iff.1 h)]

theorem refuse_reads {m : RefuseMsg} (h : m.wellFormed = true) : refuseMsgOf (refuseBytes m) = some m := by
  obtain ⟨module, tag, reason⟩ := m
  simp only [RefuseMsg.wellFormed, Bool.and_eq_true, fits8_iff] at h
  simp only [refuseMsgOf, refuseBytes, List.length_cons, List.length_nil, if_true, natAt, List.getD_cons_succ,
    List.getD_cons_zero, byteOf_small h.1, byteOf_small h.2]

theorem return_reads {m : ReturnMsg} (h : m.wellFormed = true) : returnMsgOf (returnBytes m) = some m := by
  obtain ⟨module, first, lanes⟩ := m
  simp only [ReturnMsg.wellFormed, Bool.and_eq_true, fits8_iff] at h
  obtain ⟨⟨md, f⟩, l⟩ := h
  simp only [returnMsgOf, returnBytes, List.length_cons, List.length_nil, if_true, natAt, List.getD_cons_succ,
    List.getD_cons_zero, byteOf_small md, byteOf_small f, byteOf_small l]

theorem withdraw_reads {m : WithdrawMsg} (h : m.wellFormed = true) : withdrawMsgOf (withdrawBytes m) = some m := by
  obtain ⟨module, first, lanes, reason⟩ := m
  simp only [WithdrawMsg.wellFormed, Bool.and_eq_true, fits8_iff] at h
  obtain ⟨⟨⟨md, f⟩, l⟩, r⟩ := h
  simp only [withdrawMsgOf, withdrawBytes, List.length_cons, List.length_nil, if_true, natAt, List.getD_cons_succ,
    List.getD_cons_zero, byteOf_small md, byteOf_small f, byteOf_small l, byteOf_small r]

theorem ask_reads {m : AskMsg} (h : m.wellFormed = true) : askMsgOf (askBytes m) = some m := by
  obtain ⟨topic, selector, chunk⟩ := m
  simp only [AskMsg.wellFormed, Bool.and_eq_true, fits8_iff] at h
  obtain ⟨⟨t, s⟩, c⟩ := h
  simp only [askMsgOf, askBytes, List.length_cons, List.length_nil, if_true, natAt, List.getD_cons_succ,
    List.getD_cons_zero, byteOf_small t, byteOf_small s, byteOf_small c]

theorem answer_reads {m : AnswerMsg} (h : m.wellFormed = true) : answerMsgOf (answerBytes m) = some m := by
  obtain ⟨topic, status, data⟩ := m
  simp only [AnswerMsg.wellFormed, Bool.and_eq_true, fits4_iff, decide_eq_true_eq] at h
  obtain ⟨t, short⟩ := h
  have s := answerStatusCode_le status
  have code : (byteOf (16 * topic + answerStatusCode status)).toNat = 16 * topic + answerStatusCode status :=
    byteOf_small (by omega)
  have read : answerStatusOf (16 * topic + answerStatusCode status) = status := by
    have := answerStatusOf_code (4 * topic) status
    rwa [← Nat.mul_assoc] at this
  have high : (16 * topic + answerStatusCode status) / 16 = topic := by omega
  simp only [answerMsgOf, answerBytes, short, if_true, code, read, high]

/-! ### Malformed frames -/

theorem kindOf_beyond {n : Nat} (h : 14 ≤ n % 16) : kindOf (n % 16) = none := by
  have two : n % 16 = 14 ∨ n % 16 = 15 := by omega
  obtain e | e := two <;> rw [e] <;> rfl

theorem frameMessage_unread {l : List Byte} {k : MsgKind} (kind : kindOf (natAt l 1 % 16) = some k)
    (h : natAt l 2 ≤ 32 → natAt l 0 / 64 = classRank k.cls → (frameDestination l).isSome = k.destined →
      messageOf k ((l.drop 3).take (natAt l 2)) = none) : frameMessage l = none := by
  simp only [frameMessage, kind]
  split
  · next c => exact h c.1 c.2.1 c.2.2
  · rfl

theorem frameMessage_none {l : List Byte} (h : 14 ≤ natAt l 1 % 16 ∨ 32 < natAt l 2 ∨
    (∃ k, kindOf (natAt l 1 % 16) = some k ∧
      (natAt l 0 / 64 ≠ classRank k.cls ∨ (frameDestination l).isSome ≠ k.destined ∨
        messageOf k ((l.drop 3).take (natAt l 2)) = none))) : frameMessage l = none := by
  obtain code | long | ⟨k, kind, cls | dst | length⟩ := h
  · simp only [frameMessage, kindOf_beyond code]
  · cases kind : kindOf (natAt l 1 % 16) with
    | none => simp only [frameMessage, kind]
    | some k => exact frameMessage_unread kind fun short => absurd short (Nat.not_le.2 long)
  · exact frameMessage_unread kind fun _ c => absurd c cls
  · exact frameMessage_unread kind fun _ _ d => absurd d dst
  · exact frameMessage_unread kind fun _ _ _ => length

/-- Settles O12: a frame that fails its check, and each of the wrong forms of one that passes it. -/
theorem malformedFramesAreTold : Obligations.MalformedFramesAreTold := by
  refine ⟨fun l fails => if_neg (by rw [fails]; exact Bool.noConfusion), fun l passes form => ?_⟩
  simp only [frameCommand, passes, if_true, frameMessage_none form]

end Sys2Proof.Machine

end

section
/-! PROOF. The payloads with lists read back, and the frame around a payload. -/

namespace Sys2Proof.Machine

/-! ### Lists of entries -/

section
variable {α : Type} {f : α → List Byte} {size : Nat}

/-- Entries written one behind the other are cut apart again. -/
theorem entriesOf_flatMap (l : List α) (h : ∀ x ∈ l, (f x).length = size) (r : List Byte) :
    entriesOf size l.length (l.flatMap f ++ r) = l.map f := by
  induction l with
  | nil => rfl
  | cons x l ih =>
    have first := h x (.head _)
    have rest := ih fun y m => h y (.tail _ m)
    rw [List.flatMap_cons, List.append_assoc, List.length_cons, entriesOf, List.take_left' first,
      List.drop_left' first, rest, List.map_cons]

theorem length_flatMap (l : List α) (h : ∀ x ∈ l, (f x).length = size) : (l.flatMap f).length = size * l.length := by
  induction l with
  | nil => rfl
  | cons x l ih =>
    rw [List.flatMap_cons, List.length_append, h x (.head _), ih fun y m => h y (.tail _ m), List.length_cons]
    ring

theorem drop_flatMap (l : List α) (h : ∀ x ∈ l, (f x).length = size) (r : List Byte) :
    (l.flatMap f ++ r).drop (size * l.length) = r := List.drop_left' (length_flatMap l h)

/-- Entries that each read back are read back as a list. -/
theorem map_entries {g : List Byte → α} (l : List α) (h : ∀ x ∈ l, (f x).length = size) (r : List Byte)
    (reads : ∀ x ∈ l, g (f x) = x) : (entriesOf size l.length (l.flatMap f ++ r)).map g = l := by
  rw [entriesOf_flatMap l h, List.map_map]
  exact (List.map_congr_left reads).trans (List.map_id l)

end

/-! ### The entries -/

theorem fanRole_reads (x : FanRole) : fanRoleOf (fanRoleBytes x) = x := by
  obtain ⟨channel, zone⟩ := x
  have code : (byteOf (128 * channel.val + zone.val)).toNat = 128 * channel.val + zone.val := byteOf_small (by omega)
  simp only [fanRoleOf, fanRoleBytes, natAt, List.getD_cons_zero, code]
  rw [indexOf_eq channel (by omega), indexOf_eq zone (by omega)]

theorem supplyRole_reads (x : SupplyRole) : supplyRoleOf (supplyRoleBytes x) = x := by
  obtain ⟨channel, feed⟩ := x
  have f := Feed.code_le feed
  have code : (byteOf (128 * channel.val + feed.code)).toNat = 128 * channel.val + feed.code := byteOf_small (by omega)
  have read : feedOf (128 * channel.val + feed.code) = feed := by
    have := feedOf_code (64 * channel.val) feed
    rwa [← Nat.mul_assoc] at this
  simp only [supplyRoleOf, supplyRoleBytes, natAt, List.getD_cons_zero, code, read]
  rw [indexOf_eq channel (by omega)]

theorem trunkRole_reads {x : TrunkRole} (h : x.wellFormed = true) (r : List Byte) :
    trunkRoleOf (trunkRoleBytes x ++ r) = x := by
  obtain ⟨module, lanes⟩ := x
  have l : lanes < 16 := fits4_iff.1 h
  have code : (byteOf (64 * module.val + lanes)).toNat = 64 * module.val + lanes := byteOf_small (by omega)
  have low : (64 * module.val + lanes) % 16 = lanes := by omega
  simp only [trunkRoleOf, trunkRoleBytes, List.cons_append, natAt, List.getD_cons_zero, code, low]
  rw [indexOf_eq module (by omega)]

theorem zone_reads {x : ZoneDemand} (h : (fits8 x.zone && fits8 x.demand) = true) : zoneDemandOf (zoneBytes x) = x := by
  obtain ⟨zone, demand⟩ := x
  simp only [Bool.and_eq_true, fits8_iff] at h
  simp only [zoneDemandOf, zoneBytes, natAt, List.getD_cons_succ, List.getD_cons_zero, byteOf_small h.1,
    byteOf_small h.2]

theorem fanEntry_reads (x : FanEntry) : fanEntryOf (fanEntryBytes x) = x := by
  obtain ⟨zone, health⟩ := x
  have read (k : Nat) (h : k ≤ 1) :
      fanEntryOf [byteOf (2 * zone.val + k)] = ⟨zone, if k = 1 then .failed else .ok⟩ := by
    have code : (byteOf (2 * zone.val + k)).toNat = 2 * zone.val + k := byteOf_small (by omega)
    have low : (2 * zone.val + k) % 2 = k := by omega
    simp only [fanEntryOf, natAt, List.getD_cons_zero, code, low]
    rw [indexOf_eq zone (by omega)]
  cases health
  · exact read 0 (by decide)
  · exact read 1 (by decide)

theorem supplyRecord_reads {x : SupplyRecord} (h : x.wellFormed = true) : supplyRecordOf (supplyBytes x) = x := by
  obtain ⟨feed, state, rated, output⟩ := x
  simp only [SupplyRecord.wellFormed, Bool.and_eq_true, fits16_iff] at h
  have f := Feed.code_le feed
  have s := SupplyState.code_le state
  have code : (byteOf (128 * feed.code + state.code)).toNat = 128 * feed.code + state.code := byteOf_small (by omega)
  have high : (128 * feed.code + state.code) / 128 = feed.code := by omega
  have read : supplyStateOf (128 * feed.code + state.code) = state := by
    have := supplyStateOf_code (32 * feed.code) state
    rwa [← Nat.mul_assoc] at this
  have feeds : feedOf feed.code = feed := by cases feed <;> rfl
  have held : min output 65535 = output := by omega
  simp only [supplyRecordOf, supplyBytes, be16, List.cons_append, List.nil_append, natAt, be16At,
    List.getD_cons_succ, List.getD_cons_zero, held, be16_small h.1, be16_small h.2, code, read, high, feeds]

theorem summary_reads {x : TrunkSummary} (h : x.wellFormed = true) (r : List Byte) :
    summaryOf (summaryBytes x ++ r) = x := by
  obtain ⟨module, lanes, free⟩ := x
  simp only [TrunkSummary.wellFormed, Bool.and_eq_true, fits8_iff, fits4_iff] at h
  have code : (byteOf (64 * module.val + lanes)).toNat = 64 * module.val + lanes := byteOf_small (by omega)
  have low : (64 * module.val + lanes) % 16 = lanes := by omega
  simp only [summaryOf, summaryBytes, List.cons_append, List.nil_append, natAt, List.getD_cons_succ,
    List.getD_cons_zero, code, low, byteOf_small h.2]
  rw [indexOf_eq module (by omega)]

theorem action_reads {x : OrderAction} (h : x.wellFormed = true) : actionEntryOf (actionBytes x) = x := by
  obtain ⟨code, target, value⟩ := x
  simp only [OrderAction.wellFormed, Bool.and_eq_true, fits8_iff, fits16_iff] at h
  obtain ⟨⟨c, t⟩, v⟩ := h
  simp only [actionEntryOf, actionBytes, be16, List.cons_append, List.nil_append, natAt, be16At,
    List.getD_cons_succ, List.getD_cons_zero, byteOf_small c, byteOf_small t, be16_small v]

/-! ### Payloads with lists -/

theorem order_reads {m : OrderMsg} (h : m.wellFormed = true) : orderMsgOf (orderBytes m) = some m := by
  obtain ⟨cond, pattern, actions⟩ := m
  simp only [OrderMsg.wellFormed, Bool.and_eq_true, decide_eq_true_eq, List.all_eq_true] at h
  obtain ⟨few, fields⟩ := h
  have c := condSourceCode_le cond
  have p := pattern.isLt
  have code : (byteOf (64 * condSourceCode cond + pattern.toNat)).toNat = 64 * condSourceCode cond + pattern.toNat :=
    byteOf_small (by omega)
  have count : (byteOf actions.length).toNat = actions.length := byteOf_small (by omega)
  have high : (64 * condSourceCode cond + pattern.toNat) / 64 = condSourceCode cond := by omega
  have low : (64 * condSourceCode cond + pattern.toNat) % 16 = pattern.toNat := by omega
  have four : ∀ x ∈ actions, (actionBytes x).length = 4 := fun x _ => rfl
  have length := length_flatMap actions four
  have list := map_entries (g := actionEntryOf) actions four [] fun x m => action_reads (fields x m)
  rw [List.append_nil] at list
  simp only [orderMsgOf, orderBytes, List.cons_append, List.nil_append, List.length_cons, length, natAt,
    List.getD_cons_succ, List.getD_cons_zero, code, count, high, low, List.drop_succ_cons, List.drop_zero, list,
    condSourceOf_code, BitVec.ofNat_toNat, BitVec.setWidth_eq]
  exact if_pos ⟨by omega, by omega⟩

theorem flagBit_eq (k : Nat) (f : Bool) : flagBit k f = 2 ^ k * f.toNat := by cases f <;> simp [flagBit]

theorem toNat_beq_one (f : Bool) : (f.toNat == 1) = f := by cases f <;> rfl

/-- What stands behind the two lists of a ROLL CALL: the trunk module, where there is one, and the digest. -/
theorem rollCall_tail {trunk : Option TrunkRole} (h : trunk.all TrunkRole.wellFormed = true) {digest : Nat}
    (d : digest < 65536) : let r := trunk.toList.flatMap trunkRoleBytes ++ be16 digest
    r.length = trunk.isSome.toNat + 2 ∧
      (if trunk.isSome.toNat = 1 then some (trunkRoleOf r) else none) = trunk ∧
      be16At (r.drop trunk.isSome.toNat) 0 = digest := by
  cases trunk with
  | none => exact ⟨rfl, rfl, be16_small d⟩
  | some t =>
    have read : trunkRoleOf (trunkRoleBytes t ++ be16 digest) = t := trunkRole_reads h _
    exact ⟨rfl, congrArg some read, be16_small d⟩

theorem rollCall_reads {m : RollCall} (h : m.wellFormed = true) : rollCallOf (rollCallBytes m) = some m := by
  obtain ⟨epoch, ⟨slotCount, fans, supplies, trunk, operator⟩, digest⟩ := m
  simp only [RollCall.wellFormed, Bool.and_eq_true, fits8_iff, fits16_iff, decide_eq_true_eq] at h
  obtain ⟨⟨⟨⟨slots, fewFans⟩, fewSupplies⟩, fields⟩, dig⟩ := h
  obtain ⟨length, module, digests⟩ := rollCall_tail fields dig
  have o := operator.toNat_le
  have t := trunk.isSome.toNat_le
  have o7 := flagBit_eq 7 operator
  have t6 := flagBit_eq 6 trunk.isSome
  generalize counts : flagBit 7 operator + flagBit 6 trunk.isSome + 4 * fans.length + supplies.length = c
  have code : (byteOf c).toNat = c := byteOf_small (by omega)
  have nf : c / 4 % 4 = fans.length := by omega
  have ns : c % 4 = supplies.length := by omega
  have nt : c / 64 % 2 = trunk.isSome.toNat := by omega
  have no : c / 128 = operator.toNat := by omega
  have oneF : ∀ x ∈ fans, (fanRoleBytes x).length = 1 := fun _ _ => rfl
  have oneS : ∀ x ∈ supplies, (supplyRoleBytes x).length = 1 := fun _ _ => rfl
  have lenF := length_flatMap fans oneF
  have lenS := length_flatMap supplies oneS
  have dropF := drop_flatMap fans oneF
  have dropS := drop_flatMap supplies oneS
  rw [Nat.one_mul] at dropF dropS lenF lenS
  have listF (r : List Byte) := map_entries (g := fanRoleOf) fans oneF r fun x _ => fanRole_reads x
  have listS (r : List Byte) := map_entries (g := supplyRoleOf) supplies oneS r fun x _ => supplyRole_reads x
  simp only [rollCallOf, rollCallBytes, counts, List.append_assoc, List.cons_append, List.nil_append, natAt,
    List.getD_cons_succ, List.getD_cons_zero, code, nf, ns, nt, no, List.drop_succ_cons, List.drop_zero, dropF, dropS,
    listF, listS, byteOf_small slots, module, digests, toNat_beq_one]
  refine if_pos ?_
  simp only [List.length_cons, List.length_append, lenF, lenS] at length ⊢
  omega

end Sys2Proof.Machine

end

section
/-! PROOF. STANDING's payload, every payload, and the frame around a payload. -/

namespace Sys2Proof.Machine

/-! ### STANDING -/

theorem standing_tail {trunk : Option TrunkSummary} (h : trunk.all TrunkSummary.wellFormed = true) :
    let r := trunk.toList.flatMap summaryBytes
    r.length = 2 * trunk.isSome.toNat ∧ (if trunk.isSome.toNat = 1 then some (summaryOf r) else none) = trunk := by
  cases trunk with
  | none => exact ⟨rfl, rfl⟩
  | some t =>
    have read : summaryOf (summaryBytes t ++ []) = t := summary_reads h _
    exact ⟨rfl, congrArg some read⟩

/-- The three flags of a STANDING. -/
theorem standing_flags (d r c : Bool) : let n := (byteOf (flagBit 2 d + flagBit 1 r + flagBit 0 c)).toNat
    (n / 4 % 2 == 1) = d ∧ (n / 2 % 2 == 1) = r ∧ (n % 2 == 1) = c := by
  cases d <;> cases r <;> cases c <;> decide

theorem standing_reads {m : Standing} (h : m.wellFormed = true) : standingOf (standingBytes m) = some m := by
  obtain ⟨epoch, sequence, committed, ceiling, folded, deficit, redundancyLost, coolingDegraded, zones, fans, supplies,
    trunk⟩ := m
  simp only [Standing.wellFormed, Bool.and_eq_true, fits16_iff, decide_eq_true_eq, List.all_eq_true] at h
  obtain ⟨⟨⟨⟨⟨⟨⟨⟨com, ceil⟩, fewZones⟩, fewFans⟩, fewSupplies⟩, fieldsZ⟩, fieldsS⟩, fieldsT⟩, -⟩ := h
  obtain ⟨length, summary⟩ := standing_tail fieldsT
  obtain ⟨deficits, redundancies, coolings⟩ := standing_flags deficit redundancyLost coolingDegraded
  have t := trunk.isSome.toNat_le
  have t0 := flagBit_eq 0 trunk.isSome
  generalize counts : 32 * zones.length + 8 * fans.length + 2 * supplies.length + flagBit 0 trunk.isSome = c
  have code : (byteOf c).toNat = c := byteOf_small (by omega)
  have nz : c / 32 = zones.length := by omega
  have nf : c / 8 % 4 = fans.length := by omega
  have ns : c / 2 % 4 = supplies.length := by omega
  have nt : c % 2 = trunk.isSome.toNat := by omega
  have twoZ : ∀ x ∈ zones, (zoneBytes x).length = 2 := fun _ _ => rfl
  have oneF : ∀ x ∈ fans, (fanEntryBytes x).length = 1 := fun _ _ => rfl
  have fiveS : ∀ x ∈ supplies, (supplyBytes x).length = 5 := fun _ _ => rfl
  have lenZ := length_flatMap zones twoZ
  have lenF := length_flatMap fans oneF
  have lenS := length_flatMap supplies fiveS
  have dropZ := drop_flatMap zones twoZ
  have dropF := drop_flatMap fans oneF
  have dropS := drop_flatMap supplies fiveS
  rw [Nat.one_mul] at dropF lenF
  have listZ (r : List Byte) := map_entries (g := zoneDemandOf) zones twoZ r fun x m =>
    zone_reads (Bool.and_eq_true_iff.2 (fieldsZ x m))
  have listF (r : List Byte) := map_entries (g := fanEntryOf) fans oneF r fun x _ => fanEntry_reads x
  have listS (r : List Byte) := map_entries (g := supplyRecordOf) supplies fiveS r fun x m =>
    supplyRecord_reads (fieldsS x m)
  simp only [standingOf, standingBytes, counts, be16, be16At, List.append_assoc, List.cons_append, List.nil_append, natAt,
    List.getD_cons_succ, List.getD_cons_zero, code, nz, nf, ns, nt, List.drop_succ_cons, List.drop_zero, dropZ, dropF,
    dropS, listZ, listF, listS, be16_small com, be16_small ceil, summary, deficits, redundancies, coolings]
  refine if_pos ?_
  simp only [List.length_cons, List.length_append, lenZ, lenF, lenS, length]
  omega

/-! ### Every payload -/

/-- Settles O10: the fourteen layouts one by one. -/
theorem payloadsReadBack : Obligations.PayloadsReadBack := by
  intro m h
  cases m with
  | rollCall m => exact congrArg (Option.map Message.rollCall) (rollCall_reads h)
  | standing m => exact congrArg (Option.map Message.standing) (standing_reads h)
  | claim m => exact congrArg (Option.map Message.claim) (claim_reads h)
  | claimDrop m => exact congrArg (Option.map Message.claimDrop) (claimDrop_reads h)
  | supplyAlarm m => exact congrArg (Option.map Message.supplyAlarm) (alarm_reads h)
  | laneBid m => exact congrArg (Option.map Message.laneBid) (bid_reads h)
  | laneOffer m => exact congrArg (Option.map Message.laneOffer) (offer_reads h)
  | laneDefer m => exact congrArg (Option.map Message.laneDefer) (defer_reads h)
  | laneRefuse m => exact congrArg (Option.map Message.laneRefuse) (refuse_reads h)
  | laneReturn m => exact congrArg (Option.map Message.laneReturn) (return_reads h)
  | laneWithdraw m => exact congrArg (Option.map Message.laneWithdraw) (withdraw_reads h)
  | ask m => exact congrArg (Option.map Message.ask) (ask_reads h)
  | answer m => exact congrArg (Option.map Message.answer) (answer_reads h)
  | order m => exact congrArg (Option.map Message.order) (order_reads h)

/-! ### Payload lengths -/

theorem rollCall_length {m : RollCall} (h : m.wellFormed = true) : (rollCallBytes m).length ≤ 32 := by
  simp only [RollCall.wellFormed, Bool.and_eq_true, fits8_iff, fits16_iff, decide_eq_true_eq] at h
  obtain ⟨⟨⟨⟨-, fans⟩, supplies⟩, fields⟩, dig⟩ := h
  have tail := (rollCall_tail fields dig).1
  have t := m.roles.trunk.isSome.toNat_le
  have lenF := length_flatMap (f := fanRoleBytes) (size := 1) m.roles.fans fun _ _ => rfl
  have lenS := length_flatMap (f := supplyRoleBytes) (size := 1) m.roles.supplies fun _ _ => rfl
  simp only [List.length_append] at tail
  simp only [rollCallBytes, List.length_append, List.length_cons, List.length_nil, lenF, lenS]
  omega

theorem standing_length {m : Standing} (h : m.wellFormed = true) : (standingBytes m).length ≤ 32 := by
  simp only [Standing.wellFormed, Bool.and_eq_true, fits16_iff, decide_eq_true_eq, List.all_eq_true] at h
  obtain ⟨⟨-, fields⟩, short⟩ := h
  have tail := (standing_tail fields).1
  have t : 2 * m.trunk.isSome.toNat = if m.trunk.isSome = true then 2 else 0 := by cases m.trunk <;> rfl
  have lenZ := length_flatMap (f := zoneBytes) (size := 2) m.zones fun _ _ => rfl
  have lenF := length_flatMap (f := fanEntryBytes) (size := 1) m.fans fun _ _ => rfl
  have lenS := length_flatMap (f := supplyBytes) (size := 5) m.supplies fun _ _ => rfl
  simp only [standingBytes, be16, List.length_append, List.length_cons, List.length_nil, lenZ, lenF, lenS, tail]
  omega

theorem order_length {m : OrderMsg} (h : m.wellFormed = true) : (orderBytes m).length ≤ 32 := by
  simp only [OrderMsg.wellFormed, Bool.and_eq_true, decide_eq_true_eq] at h
  have few := h.1
  have len := length_flatMap (f := actionBytes) (size := 4) m.actions fun _ _ => rfl
  simp only [orderBytes, List.length_append, List.length_cons, List.length_nil, len]
  omega

theorem answer_length {m : AnswerMsg} (h : m.wellFormed = true) : (answerBytes m).length ≤ 32 := by
  simp only [AnswerMsg.wellFormed, Bool.and_eq_true, decide_eq_true_eq] at h
  exact Nat.succ_le_succ h.2

/-- A well-formed message's payload holds at most 32 bytes (R190). -/
theorem payload_length {m : Message} (h : m.wellFormed = true) : (payloadOf m).length ≤ 32 := by
  cases m with
  | rollCall m => exact rollCall_length h
  | standing m => exact standing_length h
  | answer m => exact answer_length h
  | order m => exact order_length h
  | claim m | claimDrop m | supplyAlarm m | laneBid m | laneOffer m | laneDefer m | laneRefuse m | laneReturn m
  | laneWithdraw m | ask m =>
    have short : ∀ n ≤ 4, n ≤ 32 := fun n l => by omega
    exact short _ (by simp [payloadOf, claimBytes, claimDropBytes, alarmBytes, bidBytes, offerBytes, deferBytes,
      refuseBytes, returnBytes, withdrawBytes, askBytes, be16])

/-! ### The frame -/

section
variable {src : Addr} {dst : Option Addr} {m : Message}

/-- A frame by its three leading bytes, its payload and its CRC. -/
theorem frameBytes_eq (src : Addr) (dst : Option Addr) (m : Message) : frameBytes src dst m =
    byteOf (64 * classRank m.kind.cls + 4 * src.val + flagBit 1 dst.isSome) ::
      byteOf (16 * (dst.map (·.val)).getD 0 + m.kind.code) :: byteOf (payloadOf m).length ::
        (payloadOf m ++ be16 (crcOf (frameBody src dst m)).toNat) := rfl

/-- The first byte carries class, source and the mark of a destination. -/
theorem frameBytes_first (src : Addr) (dst : Option Addr) (m : Message) : natAt (frameBytes src dst m) 0 =
    64 * classRank m.kind.cls + 4 * src.val + 2 * dst.isSome.toNat := by
  have c := classRank_le m.kind.cls
  have d := dst.isSome.toNat_le
  have flag := flagBit_eq 1 dst.isSome
  rw [frameBytes_eq, ← Nat.pow_one 2, ← flag]
  exact byteOf_small (by omega)

theorem frameBytes_second (src : Addr) (dst : Option Addr) (m : Message) : natAt (frameBytes src dst m) 1 =
    16 * (dst.map (·.val)).getD 0 + m.kind.code := by
  have k := MsgKind.code_le m.kind
  have d : (dst.map (·.val)).getD 0 < 16 := by
    cases dst with
    | none => decide
    | some a => exact a.isLt
  rw [frameBytes_eq]
  exact byteOf_small (by omega)

theorem frameBytes_third (h : m.wellFormed = true) : natAt (frameBytes src dst m) 2 = (payloadOf m).length := by
  have short := payload_length h
  rw [frameBytes_eq]
  exact byteOf_small (by omega)

theorem frameBytes_passes (h : m.wellFormed = true) : framePasses (frameBytes src dst m) = true := by
  have body : (frameBody src dst m).length = (payloadOf m).length + 3 := rfl
  have cut : frameBytes src dst m = frameBody src dst m ++ be16 (crcOf (frameBody src dst m)).toNat := rfl
  have crc : be16At (be16 (crcOf (frameBody src dst m)).toNat) 0 = (crcOf (frameBody src dst m)).toNat :=
    be16_small (crcOf (frameBody src dst m)).isLt
  rw [framePasses, frameBytes_third h, cut, List.drop_left' body, List.take_left' body, crc, List.length_append, body]
  simp [be16]

theorem frameSource_reads : frameSource (frameBytes src dst m) = src := by
  have d := dst.isSome.toNat_le
  rw [frameSource, frameBytes_first]
  exact indexOf_eq src (by omega)

theorem frameDestination_reads : frameDestination (frameBytes src dst m) = dst := by
  have k := MsgKind.code_le m.kind
  rw [frameDestination, frameBytes_first, frameBytes_second]
  cases dst with
  | none => exact if_neg (by simp only [Option.isSome_none, Bool.toNat_false]; omega)
  | some a =>
    have address : indexOf 15 ((16 * a.val + m.kind.code) / 16) = a := indexOf_eq a (by omega)
    exact (if_pos (by simp only [Option.isSome_some, Bool.toNat_true]; omega)).trans (congrArg some address)

theorem frameMessage_reads (h : m.wellFormed = true) (d : dst.isSome = m.kind.destined) :
    frameMessage (frameBytes src dst m) = some m := by
  have k := MsgKind.code_le m.kind
  have mark := dst.isSome.toNat_le
  have code : (16 * (dst.map (·.val)).getD 0 + m.kind.code) % 16 = m.kind.code := by omega
  have payload : ((frameBytes src dst m).drop 3).take (payloadOf m).length = payloadOf m := List.take_left' rfl
  have cls : (64 * classRank m.kind.cls + 4 * src.val + 2 * dst.isSome.toNat) / 64 = classRank m.kind.cls := by omega
  simp only [frameMessage, frameBytes_second, code, kindOf_code, frameBytes_third h, frameBytes_first, cls,
    frameDestination_reads, payload, payload_length h]
  exact (if_pos ⟨trivial, trivial, d⟩).trans (payloadsReadBack m h)

end

/-- Settles O11: the frame passes its check, and source, destination and message are read back from it. -/
theorem framesSpellTheirCommand : Obligations.FramesSpellTheirCommand := by
  intro src dst m h d
  simp only [frameCommand, frameBytes_passes h, if_true, frameMessage_reads h d, frameSource_reads,
    frameDestination_reads]

end Sys2Proof.Machine

end

section
/-! PROOF. The delivery of reports ends: what a station has left to report bounds the reports that one event gives rise to, and
the fuel of the delivery passes that bound. -/

namespace Sys2Proof.Machine

/-! ### What a slot can still give rise to -/

/-- What a slot can still cost: being switched off while powered, its held figures set, its pending setting settled, its shed
ceiling restored. Each happens once, for no step of a delivery brings one of them back but a shed, which has its own account. -/
def slotLoad (b : Bay) : Nat :=
  12 * b.powered.toNat + 6 * b.link.held.isSome.toNat + 6 * b.seq.pendingOp.isSome.toNat +
    6 * (b.seq.state == .running && b.seq.shedCeiling.isSome).toNat

/-- What a report that waits costs: the check of an entry may leave another report behind it. -/
def reportLoad : Report → Nat
  | .check _ => 2
  | .charge .. | .entered _ | .left _ | .admission _ | .settle _ => 1

/-- What the reports of a list cost. -/
def reportsLoad (l : List Report) : Nat := (l.map reportLoad).sum

/-- What slots and reports can still cost. -/
def Work.load (w : Work) : Nat := ∑ i : SlotIx, slotLoad w.st.bays[i] + reportsLoad w.reports

theorem reportsLoad_append (l k : List Report) : reportsLoad (l ++ k) = reportsLoad l + reportsLoad k := by
  simp only [reportsLoad, List.map_append, List.sum_append]

theorem reportLoad_pos (r : Report) : 1 ≤ reportLoad r := by cases r <;> simp [reportLoad]

theorem slotLoad_congr {a b : Bay} (s : b.seq = a.seq) (h : b.link.held = a.link.held) : slotLoad b = slotLoad a := by
  rw [slotLoad, slotLoad, Bay.powered, Bay.powered, s, h]

theorem slotLoad_bound (b : Bay) : slotLoad b ≤ 30 := by
  have powered := b.powered.toNat_le
  have held := b.link.held.isSome.toNat_le
  have pending := b.seq.pendingOp.isSome.toNat_le
  have shed := (b.seq.state == .running && b.seq.shedCeiling.isSome).toNat_le
  rw [slotLoad]
  omega

/-! ### The reports of one change -/

theorem chargeReport_load (i : SlotIx) (a b : Bay) : reportsLoad (chargeReport i a b) ≤ 1 := by
  simp only [chargeReport]
  split
  · exact Nat.le_refl 1
  · exact Nat.zero_le 1

theorem trunkReport_load (i : SlotIx) (a b : Bay) : reportsLoad (trunkReport i a b) ≤ 1 := by
  simp only [trunkReport]
  split
  · exact Nat.le_refl 1
  · split
    · exact Nat.le_refl 1
    · exact Nat.zero_le 1

theorem checkReport_load (i : SlotIx) (a b : Bay) : reportsLoad (checkReport i a b) ≤ 2 := by
  simp only [checkReport]
  split
  · exact Nat.le_refl 2
  · exact Nat.zero_le 2

theorem admitReport_load (i : SlotIx) (a b : Bay) : reportsLoad (admitReport i a b) ≤ 1 := by
  simp only [admitReport]
  split
  · exact Nat.le_refl 1
  · exact Nat.zero_le 1

theorem settleReport_load (i : SlotIx) (b : Bay) : reportsLoad (settleReport i b) ≤ 1 := by
  simp only [settleReport]
  split
  · exact Nat.le_refl 1
  · exact Nat.zero_le 1

theorem reportsOf_fault_load (i : SlotIx) (a b : Bay) : reportsLoad (reportsOf .fault i a b) =
    reportsLoad (chargeReport i a b) + reportsLoad (trunkReport i a b) + reportsLoad (checkReport i a b) +
      reportsLoad (admitReport i a b) + reportsLoad (settleReport i b) := by
  simp only [reportsOf, reportsLoad_append]

/-- No change reports more than this. -/
theorem reportsOf_load (i : SlotIx) (a b : Bay) : reportsLoad (reportsOf .fault i a b) ≤ 6 := by
  have charge := chargeReport_load i a b
  have trunk := trunkReport_load i a b
  have check := checkReport_load i a b
  have admission := admitReport_load i a b
  have settle := settleReport_load i b
  rw [reportsOf_fault_load]
  omega

/-- A change that leaves state, stop phase and adopted mark reports a charge and a settling at most. -/
theorem reportsOf_steady_load {i : SlotIx} {a b : Bay} (s : b.seq.state = a.seq.state) (p : b.seq.phase = a.seq.phase)
    (d : b.seq.adopted = a.seq.adopted) : reportsLoad (reportsOf .fault i a b) ≤ 2 := by
  have trunk : trunkReport i a b = [] := by
    simp only [trunkReport, Bay.served, bne, s, d]
    cases a.seq.state == .running <;> cases a.seq.adopted <;> rfl
  have check : checkReport i a b = [] := by simp [checkReport, s, p]
  have admission : admitReport i a b = [] := by simp [admitReport, s]
  have charge := chargeReport_load i a b
  have settle := settleReport_load i b
  rw [reportsOf_fault_load, trunk, check, admission]
  simp only [reportsLoad, List.map_nil, List.sum_nil] at *
  omega

/-! ### The charges that wait -/

/-- The charge of slot `i` that a report carries. -/
def chargeFor (i : SlotIx) : Report → Option Nat
  | .charge j n => if j = i then some n else none
  | .entered _ | .left _ | .check _ | .admission _ | .settle _ => none

/-- The charges of slot `i` that the budget unit will hold, one after the other, with the one that the slot has last. -/
def Work.charges (w : Work) (i : SlotIx) : List Nat := w.reports.filterMap (chargeFor i) ++ [w.st.bays[i].charge]

/-- The charges of each slot that wait fall. -/
def Work.falling (w : Work) : Prop := ∀ i : SlotIx, (w.charges i).Pairwise fun x y => y ≤ x

/-- The budget unit holds less than a charge of slot `i` that it has yet to take. -/
def Work.low (w : Work) (i : SlotIx) : Prop := ∃ x ∈ w.charges i, w.st.budget.reported[i] < x

theorem chargeFor_reportsOf (i j : SlotIx) (a b : Bay) : (reportsOf .fault j a b).filterMap (chargeFor i) =
    if j = i ∧ a.charge ≠ b.charge then [b.charge] else [] := by
  have trunk : (trunkReport j a b).filterMap (chargeFor i) = [] := by
    simp only [trunkReport]; repeat' split
    all_goals rfl
  have check : (checkReport j a b).filterMap (chargeFor i) = [] := by simp only [checkReport]; split <;> rfl
  have admission : (admitReport j a b).filterMap (chargeFor i) = [] := by simp only [admitReport]; split <;> rfl
  have settle : (settleReport j b).filterMap (chargeFor i) = [] := by simp only [settleReport]; split <;> rfl
  have charge : (chargeReport j a b).filterMap (chargeFor i) = if j = i ∧ a.charge ≠ b.charge then [b.charge] else [] := by
    simp only [chargeReport, bne_iff_ne]
    by_cases h : a.charge = b.charge
    · simp [h]
    · by_cases n : j = i <;> simp [h, n, chargeFor]
  simp only [reportsOf, List.filterMap_append, trunk, check, admission, settle, charge, List.append_nil]

theorem pairwise_snoc {l : List Nat} {c : Nat} :
    (l ++ [c]).Pairwise (fun x y => y ≤ x) ↔ l.Pairwise (fun x y => y ≤ x) ∧ ∀ x ∈ l, c ≤ x := by
  simp [List.pairwise_append]

/-- A charge that a lower one follows. -/
theorem falling_snoc {l : List Nat} {c d : Nat} (h : (l ++ [c]).Pairwise fun x y => y ≤ x) (less : d ≤ c) :
    (l ++ (if c ≠ d then [d] else []) ++ [d]).Pairwise fun x y => y ≤ x := by
  obtain ⟨l', low⟩ := pairwise_snoc.1 h
  have high : ∀ x ∈ l, d ≤ x := fun x m => less.trans (low x m)
  split
  · exact pairwise_snoc.2 ⟨pairwise_snoc.2 ⟨l', high⟩, by simpa [or_imp, forall_and] using high⟩
  · rw [List.append_nil]
    exact pairwise_snoc.2 ⟨l', high⟩

theorem modBay_charges (i j : SlotIx) (f : Bay → Bay) (w : Work) : (modBay .fault i f w).charges j =
    w.reports.filterMap (chargeFor j) ++ (if i = j ∧ w.st.bays[i].charge ≠ (f w.st.bays[i]).charge
      then [(f w.st.bays[i]).charge] else []) ++ [if i = j then (f w.st.bays[i]).charge else w.st.bays[j].charge] := by
  rw [Work.charges, modBay_reports, List.filterMap_append, chargeFor_reportsOf, capFollows_charge]
  by_cases n : i = j
  · subst n
    rw [modBay_bay, capFollows_charge, if_pos rfl]
  · rw [modBay_other _ _ _ n, if_neg n]

/-! ### What a part of a delivery costs -/

/-- A part of a delivery that leaves what the figures are made of, raises no charge, and adds `k` at most to what can still be
reported; a negative `k` is a gain. -/
structure Spends (k : Int) (v w : Work) : Prop where
  inputs : SameInputs v.st w.st
  census : w.st.census = v.st.census
  reported : w.st.budget.reported = v.st.budget.reported
  falls : v.falling → w.falling
  low : ∀ i, w.low i → v.low i
  load : (w.load : Int) ≤ v.load + k

/-- One that also leaves deficit and shed mark. -/
structure Costs (k : Int) (v w : Work) : Prop extends Spends k v w where
  deficit : w.st.budget.deficit = v.st.budget.deficit
  mark : w.st.budget.shedMark = v.st.budget.shedMark

theorem SameInputs.trans {s t u : State} (h : SameInputs s t) (k : SameInputs t u) : SameInputs s u :=
  ⟨k.1.trans h.1, k.2.trans h.2, k.3.trans h.3, k.4.trans h.4, k.5.trans h.5⟩

section
variable {k n : Int} {u v w : Work}

theorem Spends.trans (h : Spends k u v) (g : Spends n v w) : Spends (k + n) u w where
  inputs := h.inputs.trans g.inputs
  census := g.census.trans h.census
  reported := g.reported.trans h.reported
  falls := g.falls ∘ h.falls
  low i := h.low i ∘ g.low i
  load := by have := h.load; have := g.load; omega

theorem Costs.trans (h : Costs k u v) (g : Costs n v w) : Costs (k + n) u w :=
  ⟨h.toSpends.trans g.toSpends, g.deficit.trans h.deficit, g.mark.trans h.mark⟩

theorem Spends.weaken (h : Spends k u v) (le : k ≤ n) : Spends n u v := { h with load := h.load.trans (Int.add_le_add_left le _) }

theorem Costs.weaken (h : Costs k u v) (le : k ≤ n) : Costs n u v := ⟨h.toSpends.weaken le, h.deficit, h.mark⟩

/-- What leaves reports, slots and reported charges costs nothing. -/
theorem Spends.of_slots (h : Kept v.st w.st) (s : SameSlots v.st w.st) (r : w.reports = v.reports)
    (c : w.st.budget.reported = v.st.budget.reported) : Spends 0 v w := by
  have charges (i : SlotIx) : w.charges i = v.charges i := by rw [Work.charges, Work.charges, r, s.charge i]
  refine ⟨h.sameInputs, h.census, c, fun f i => charges i ▸ f i, fun i l => ?_, ?_⟩
  · rwa [Work.low, charges, c] at l
  · have loads (i : SlotIx) : slotLoad w.st.bays[i] = slotLoad v.st.bays[i] :=
      slotLoad_congr (s.seq i) (congrArg Link.held (s.link i))
    exact le_of_eq (by simp only [Work.load, loads, r, Int.add_zero])

end

/-- A change of one slot that raises no charge costs what its slot's load and its reports come to. -/
theorem modBay_costs {i : SlotIx} {f : Bay → Bay} {w : Work} {k : Int} (c : (f w.st.bays[i]).charge ≤ w.st.bays[i].charge)
    (l : (slotLoad (f w.st.bays[i]) : Int) + reportsLoad (reportsOf .fault i w.st.bays[i]
      (capFollows w.st.now w.st.bays[i] (f w.st.bays[i]))) ≤ slotLoad w.st.bays[i] + k) :
    Costs k w (modBay .fault i f w) where
  inputs := modBay_inputs ..
  census := by obtain ⟨x, e⟩ := modBay_eq .fault i f w; rw [e]; rfl
  reported := by rw [modBay_budget]
  deficit := by rw [modBay_budget]
  mark := by rw [modBay_budget]
  falls h j := by
    rw [modBay_charges]
    by_cases n : i = j
    · subst n
      simp only [true_and, if_true]
      exact falling_snoc (h i) c
    · simpa only [n, false_and, if_false, List.append_nil, Work.charges] using h j
  low j := by
    rintro ⟨x, m, lt⟩
    rw [modBay_budget] at lt
    rw [modBay_charges] at m
    by_cases n : i = j
    · subst n
      simp only [true_and, if_true, List.mem_append, List.mem_singleton] at m
      obtain (m | m) | m := m
      · exact ⟨x, List.mem_append_left _ m, lt⟩
      · refine ⟨_, List.mem_append_right _ (List.mem_singleton.2 rfl), lt.trans_le (le_trans (le_of_eq ?_) c)⟩
        split at m
        · exact List.mem_singleton.1 m
        · cases m
      · exact ⟨_, List.mem_append_right _ (List.mem_singleton.2 rfl), lt.trans_le ((le_of_eq m).trans c)⟩
    · simp only [n, false_and, if_false, List.append_nil] at m
      exact ⟨x, m, lt⟩
  load := by
    have bay : slotLoad (modBay .fault i f w).st.bays[i] = slotLoad (f w.st.bays[i]) := by
      rw [modBay_bay]
      exact slotLoad_congr (capFollows_seq ..) (capFollows_held ..)
    have others : ∑ j ∈ Finset.univ.erase i, slotLoad (modBay .fault i f w).st.bays[j] =
        ∑ j ∈ Finset.univ.erase i, slotLoad w.st.bays[j] :=
      Finset.sum_congr rfl fun j m => by rw [modBay_other _ _ _ (Finset.ne_of_mem_erase m).symm]
    have before := Finset.add_sum_erase Finset.univ (fun j : SlotIx => slotLoad w.st.bays[j]) (Finset.mem_univ i)
    have after := Finset.add_sum_erase Finset.univ (fun j : SlotIx => slotLoad (modBay .fault i f w).st.bays[j])
      (Finset.mem_univ i)
    simp only [Work.load, modBay_reports, reportsLoad_append]
    simp only [bay] at after
    omega

end Sys2Proof.Machine
end

section
/-! PROOF. The delivery of reports ends: what each part of a recomputation and each report costs. -/

namespace Sys2Proof.Machine

/-! ### What costs nothing -/

/-- What leaves slots, reported charges, deficit and shed mark. -/
structure Idle (s t : State) : Prop where
  kept : Kept s t
  slots : SameSlots s t
  reported : t.budget.reported = s.budget.reported
  deficit : t.budget.deficit = s.budget.deficit
  mark : t.budget.shedMark = s.budget.shedMark

theorem Idle.refl (s : State) : Idle s s := ⟨Kept.refl s, .of_bays rfl, rfl, rfl, rfl⟩

theorem Idle.trans {s t u : State} (h : Idle s t) (k : Idle t u) : Idle s u :=
  ⟨h.kept.trans k.kept, h.slots.trans k.slots, k.reported.trans h.reported, k.deficit.trans h.deficit, k.mark.trans h.mark⟩

theorem Idle.of_budget {s t : State} (k : Kept s t) (h : SameSlots s t) (b : t.budget = s.budget) : Idle s t :=
  ⟨k, h, by rw [b], by rw [b], by rw [b]⟩

theorem Costs.of_idle {v w : Work} (h : Idle v.st w.st) (r : w.reports = v.reports) : Costs 0 v w :=
  ⟨.of_slots h.kept h.slots r h.reported, h.deficit, h.mark⟩

theorem sendingCheck_idles (s : State) : Idle s (sendingCheck s) := by
  have kept := sendingCheck_kept s
  obtain ⟨b, o, l, e⟩ := sendingCheck_eq s
  rw [e] at kept ⊢
  exact ⟨kept, .of_bays rfl, rfl, rfl, rfl⟩

theorem recheck_idles (r s : State) : Idle s (recheck r s) := by
  simp only [recheck]
  split
  · exact sendingCheck_idles s
  · exact .refl s

theorem handEntry_idles (i : SlotIx) (p : Purpose) (n : Nat) (s : State) : Idle s (handEntry i p n s) := by
  have taken (q : List Entry) (n : Nat) : Idle s { s with budget := { s.budget with queue := q, nextArrival := n } } :=
    ⟨kept_of_budget rfl rfl fun _ => rfl, .of_bays rfl, rfl, rfl, rfl⟩
  simp only [handEntry]
  split
  · exact .refl s
  · exact (taken _ _).trans (recheck_idles ..)

theorem withdrawClaim_idles (s : State) : Idle s (withdrawClaim s) := by
  have kept := withdrawClaim_kept s
  rw [withdrawClaim_eq] at kept ⊢
  split at kept
  · next h => rw [if_pos h]; exact ⟨kept, .of_bays rfl, rfl, rfl, rfl⟩
  · next h => rw [if_neg h]; exact .refl s

theorem withdrawEntry_idles (i : SlotIx) (s : State) : Idle s (withdrawEntry i s) := by
  simp only [withdrawEntry]
  split
  · exact .refl s
  · refine Idle.trans ?_ ((Idle.trans ⟨takeOut_kept .., .of_bays rfl, rfl, rfl, rfl⟩ (recheck_idles s _)))
    split
    · exact withdrawClaim_idles s
    · exact .refl s

theorem refigure_idles (s : State) : Idle s (refigure s) := by
  have b := refigure_budget s
  exact ⟨refigure_kept s, .of_bays (refigure_bays s), by rw [b], by rw [b], by rw [b]⟩

theorem markBar_idles (s : State) : Idle s (markBar s) := by
  have kept := markBar_kept s
  rw [markBar] at kept ⊢
  split at kept
  · exact .refl s
  · exact ⟨kept, .of_bays rfl, rfl, rfl, rfl⟩

theorem takeEntered_idles (i : SlotIx) (s : State) : Idle s (takeEntered i s) :=
  .of_budget (takeEntered_kept ..) (takeEntered_slots ..) (takeEntered_budget ..)

theorem endPorts_idles (i : SlotIx) (s : State) : Idle s (endPorts i s) :=
  .of_budget (endPorts_kept ..) (endPorts_slots ..) (endPorts_budget ..)

/-- A report that carries no charge costs what it weighs. -/
theorem emit_costs {r : Report} (w : Work) (h : ∀ i, chargeFor i r = none) : Costs (reportLoad r : Int) w (w.emit [r]) := by
  have charges (i : SlotIx) : (w.emit [r]).charges i = w.charges i := by
    simp [Work.charges, Work.emit, h i]
  refine ⟨⟨⟨rfl, rfl, rfl, rfl, rfl⟩, rfl, rfl, fun f i => ?_, fun i => ?_, ?_⟩, rfl, rfl⟩
  · rw [charges]; exact f i
  · rw [Work.low, Work.low, charges]; exact id
  · refine le_of_eq ?_
    simp only [Work.load, Work.emit, reportsLoad_append, ← Nat.add_assoc]
    exact Int.natCast_add _ (reportLoad r)

/-! ### Shedding -/

theorem charge_capped_le {b : Bay} (h : b.cappable = true) (n : Nat) : (b.capped n).charge ≤ b.charge :=
  (Nat.le_add_right _ _).trans (capped_gives h n)

/-- A slot capped has a shed ceiling to lose again. -/
theorem slotLoad_capped (b : Bay) (n : Nat) : slotLoad (b.capped n) ≤ slotLoad b + 6 := by
  have shed := ((b.capped n).seq.state == .running && (b.capped n).seq.shedCeiling.isSome).toNat_le
  have powered : (b.capped n).powered = b.powered := rfl
  have held : (b.capped n).link.held = b.link.held := rfl
  have pending : (b.capped n).seq.pendingOp = b.seq.pendingOp := rfl
  simp only [slotLoad, powered, held, pending] at *
  omega

theorem capPass_costs (l : List SlotIx) (w : Work) (n : Nat) : Costs (8 * (l.length : Int)) w (capPass l (w, n)).1 := by
  induction l generalizing w n with
  | nil => exact .of_idle (.refl _) rfl
  | cons i l ih =>
    by_cases h : 0 < n ∧ w.st.bays[i].cappable = true
    · rw [capPass_visits h.1 h.2]
      refine Costs.weaken (k := 8 + 8 * (l.length : Int)) (Costs.trans (modBay_costs (charge_capped_le h.2 n) ?_) (ih _ _))
        (by rw [List.length_cons]; omega)
      have load := slotLoad_capped w.st.bays[i] n
      have reports := reportsOf_steady_load (i := i) (a := w.st.bays[i])
        (b := capFollows w.st.now w.st.bays[i] (w.st.bays[i].capped n)) (by rw [capFollows_seq]; rfl)
        (by rw [capFollows_seq]; rfl) (by rw [capFollows_seq]; rfl)
      omega
    · rw [capPass_skips h]
      exact (ih w n).weaken (by rw [List.length_cons]; omega)

theorem charge_toShedOff (b : Bay) (now : Nat) (c : ShutdownCause) : (b.toShedOff now c).charge = 0 := rfl

theorem charge_toOff (b : Bay) (now : Nat) (x : Bool) : (b.toOff now x).charge = 0 := rfl

/-- A switched-off slot keeps what it holds for later, and has been powered for the last time. -/
theorem slotLoad_toShedOff {b : Bay} (h : b.powered = true) (now : Nat) (c : ShutdownCause) :
    slotLoad (b.toShedOff now c) + 12 ≤ slotLoad b := by
  have pending : (b.toShedOff now c).seq.pendingOp = b.seq.pendingOp := by
    have cut := congrArg Seq.pendingOp (cut_eq b.seq now)
    exact cut
  have off : (b.toShedOff now c).powered = false := rfl
  have state : (b.toShedOff now c).seq.state = .shedOff := rfl
  have held : (b.toShedOff now c).link.held = b.link.held := rfl
  rw [slotLoad, slotLoad, off, state, held, pending, h]
  simp only [Bool.toNat_true, Bool.toNat_false, beq_eq_false_iff_ne.2 (show SlotState.shedOff ≠ .running by decide),
    Bool.false_and]
  omega

theorem slotLoad_toOff (b : Bay) (now : Nat) (x : Bool) : slotLoad (b.toOff now x) ≤ slotLoad b := by
  have pending : (b.toOff now x).seq.pendingOp = b.seq.pendingOp := rfl
  have off : (b.toOff now x).powered = false := rfl
  have state : (b.toOff now x).seq.state = .off := rfl
  have held : (b.toOff now x).link.held = none := by
    refine Eq.trans (b := if b.link.held.isSome then none else b.link.held) rfl ?_
    cases b.link.held <;> rfl
  rw [slotLoad, slotLoad, off, state, held, pending]
  simp only [Bool.toNat_false, beq_eq_false_iff_ne.2 (show SlotState.off ≠ .running by decide), Bool.false_and,
    Option.isSome_none]
  omega

/-- Switching off pays for the reports of both its moves. -/
theorem powerOff_costs (i : SlotIx) (c : ShutdownCause) (w : Work) : Costs 0 w (powerOff i c w) := by
  simp only [powerOff]
  split
  · next p =>
    have shed : Costs (-6) w (modBay .fault i (fun b => b.toShedOff w.st.now c) w) := by
      refine modBay_costs ((charge_toShedOff ..).trans_le (Nat.zero_le _)) ?_
      have load := slotLoad_toShedOff p w.st.now c
      have reports := reportsOf_load i w.st.bays[i]
        (capFollows w.st.now w.st.bays[i] (w.st.bays[i].toShedOff w.st.now c))
      omega
    have ejected (t : Work) : Costs 6 t (modBay .fault i (fun b => b.toOff w.st.now true) t) := by
      refine modBay_costs ((charge_toOff ..).trans_le (Nat.zero_le _)) ?_
      have load := slotLoad_toOff t.st.bays[i] w.st.now true
      have reports := reportsOf_load i t.st.bays[i] (capFollows t.st.now t.st.bays[i] (t.st.bays[i].toOff w.st.now true))
      omega
    split
    · exact shed.trans (ejected _)
    · exact shed.weaken (by decide)
  · exact .of_idle (.refl _) rfl

theorem powerOffPass_costs (l : List SlotIx) (w : Work) (n : Nat) : Costs 0 w (powerOffPass l (w, n)).1 := by
  induction l generalizing w n with
  | nil => exact .of_idle (.refl _) rfl
  | cons i l ih =>
    simp only [powerOffPass]
    split
    · exact (powerOff_costs i .shed w).trans (ih _ _)
    · exact ih w n

/-- A shed costs the capping of the four slots. -/
theorem shed_costs (n : Nat) (w : Work) : Costs 32 w (shed n w) := by
  have four : (shedOrder w.st).length = 4 := by
    simpa using (shedOrder_ordered w.st).1.length_eq
  have capped := capPass_costs (shedOrder w.st) w n
  rw [four] at capped
  exact capped.trans (powerOffPass_costs _ _ _)

theorem leaveQueue_costs (i : SlotIx) (w : Work) : Costs 1 w (leaveQueue i w) := by
  simp only [leaveQueue]
  split
  · exact (Costs.of_idle (withdrawEntry_idles i w.st) rfl : Costs 0 w (w.map (withdrawEntry i))).trans
      (emit_costs (r := .settle i) _ fun _ => rfl)
  · exact (Costs.of_idle (.refl _) rfl : Costs 0 w w).weaken (by decide)

theorem withdrawRestore_costs (w : Work) : Costs 1 w (withdrawRestore w) := by
  have cleared (t : Work) : Costs 0 t (t.map fun s => { s with budget := { s.budget with restoreEntry := none } }) :=
    .of_idle ⟨kept_of_budget rfl rfl fun _ => rfl, .of_bays rfl, rfl, rfl, rfl⟩ rfl
  simp only [withdrawRestore]
  split
  · exact (leaveQueue_costs _ w).trans (cleared _)
  · exact (Costs.of_idle (.refl _) rfl : Costs 0 w w).weaken (by decide)

/-! ### Settling -/

/-- An unpowered slot's charge is that of its state alone (R65). -/
theorem charge_unpowered {a b : Bay} (u : a.powered = false) (s : b.seq.state = a.seq.state)
    (p : b.seq.phase = a.seq.phase) (c : b.cfg = a.cfg) : b.charge = a.charge := by
  simp only [Bay.powered, poweredIn] at u
  simp only [Bay.charge, s, p, c]
  split
  · next e => simp [e] at u
  · next e => simp [e] at u
  · next e => rw [e] at u; simp only at u; rw [u]; rfl
  all_goals rfl

theorem slotLoad_fixFigures {b : Bay} (h : b.link.held.isSome = true) (f : Figures) :
    slotLoad (b.fixFigures f) + 6 ≤ slotLoad b := by
  have load : slotLoad (b.fixFigures f) = 12 * b.powered.toNat + 6 * (none : Option Figures).isSome.toNat +
    6 * b.seq.pendingOp.isSome.toNat + 6 * (b.seq.state == .running && b.seq.shedCeiling.isSome).toNat := rfl
  rw [load, slotLoad, h]
  simp only [Option.isSome_none, Bool.toNat_false, Bool.toNat_true]
  omega

theorem settleHeld_costs (i : SlotIx) (w : Work) : Costs 0 w (settleHeld i w) := by
  simp only [settleHeld]
  split
  · exact .of_idle (.refl _) rfl
  · next f held =>
    split
    · split
      · next less =>
        refine modBay_costs ((le_of_eq (charge_link rfl)).trans less) ?_
        have load := slotLoad_fixFigures (b := w.st.bays[i]) (by rw [held]; rfl) f
        have reports := reportsOf_steady_load (i := i) (a := w.st.bays[i])
          (b := capFollows w.st.now w.st.bays[i] (w.st.bays[i].fixFigures f)) (by rw [capFollows_seq]; rfl)
          (by rw [capFollows_seq]; rfl) (by rw [capFollows_seq]; rfl)
        omega
      · exact .of_idle (handEntry_idles ..) rfl
    · exact .of_idle (.refl _) rfl

theorem slotLoad_settled {b : Bay} {o : OperatorSetting} (h : b.seq.pendingOp = some o) :
    slotLoad b.settled + 6 ≤ slotLoad b := by
  have load : slotLoad b.settled = 12 * b.powered.toNat + 6 * b.link.held.isSome.toNat +
      6 * (none : Option OperatorSetting).isSome.toNat +
      6 * (b.seq.state == .running && b.seq.shedCeiling.isSome).toNat := by
    simp only [Bay.settled, h]
    rfl
  rw [load, slotLoad, h]
  simp only [Option.isSome_none, Option.isSome_some, Bool.toNat_false, Bool.toNat_true]
  omega

/-- A setting that needs no claim raises no charge (R139). -/
theorem charge_settled {b : Bay} {o : OperatorSetting} (h : b.seq.pendingOp = some o) (n : ¬needsClaim b o = true) :
    b.settled.charge ≤ b.charge := by
  have same : b.settled.charge = (b.withOperator o).charge := by
    simp only [Bay.settled, h]
    rfl
  rw [same]
  cases p : b.powered
  · exact le_of_eq (charge_unpowered p rfl rfl rfl)
  · rw [needsClaim_iff] at n
    exact Nat.not_lt.1 fun lt => n ⟨p, lt⟩

theorem settlePending_costs (i : SlotIx) (w : Work) : Costs 0 w (settlePending i w) := by
  simp only [settlePending]
  split
  · exact .of_idle (.refl _) rfl
  · next o pending =>
    split
    · exact .of_idle (.refl _) rfl
    · split
      · split
        · exact .of_idle (handEntry_idles ..) rfl
        · exact .of_idle (.refl _) rfl
      · next free =>
        refine modBay_costs (charge_settled pending free) ?_
        have load := slotLoad_settled pending
        have seq : w.st.bays[i].settled.seq = { w.st.bays[i].seq with
            opCeiling := settingCeiling w.st.bays[i] o, pendingOp := none } := by
          simp only [Bay.settled, pending]
          rfl
        have reports := reportsOf_steady_load (i := i) (a := w.st.bays[i])
          (b := capFollows w.st.now w.st.bays[i] w.st.bays[i].settled) (by rw [capFollows_seq, seq])
          (by rw [capFollows_seq, seq]) (by rw [capFollows_seq, seq])
        omega

theorem settleSlot_costs (i : SlotIx) (w : Work) : Costs 0 w (settleSlot i w) :=
  (settleHeld_costs i w).trans (settlePending_costs ..)

/-! ### Restoration -/

theorem slotLoad_withoutShed {b : Bay} (r : b.seq.state = .running) (s : b.seq.shedCeiling.isSome = true) :
    slotLoad b.withoutShed + 6 ≤ slotLoad b := by
  have load : slotLoad b.withoutShed = 12 * b.powered.toNat + 6 * b.link.held.isSome.toNat +
    6 * b.seq.pendingOp.isSome.toNat + 6 * (b.seq.state == .running && (none : Option Nat).isSome).toNat := rfl
  rw [load, slotLoad, r, s]
  simp only [Option.isSome_none, Bool.and_false, Bool.and_true, beq_self_eq_true, Bool.toNat_false, Bool.toNat_true]
  omega

/-- A shed slot that is not in SHED_OFF holds a shed ceiling (R140). -/
theorem isShed_ceiling {b : Bay} (h : b.isShed = true) (n : (b.seq.state == .shedOff) ≠ true) :
    b.seq.shedCeiling.isSome = true := by
  simp only [Bay.isShed, Bool.and_eq_true, Bool.or_eq_true] at h
  obtain ⟨-, ⟨-, c⟩ | ⟨⟨off, -⟩, -⟩⟩ := h
  · exact c
  · exact absurd off n

theorem restoreHanded_costs (i : SlotIx) (p : Purpose) (n : State → Nat) (w : Work) :
    Costs 0 w (w.map fun s => handEntry i p (n s) { s with budget := { s.budget with restoreEntry := some i } }) := by
  have marked : Idle w.st { w.st with budget := { w.st.budget with restoreEntry := some i } } :=
    ⟨kept_of_budget rfl rfl fun _ => rfl, .of_bays rfl, rfl, rfl, rfl⟩
  exact .of_idle (marked.trans (handEntry_idles ..)) rfl

theorem restoreVisit_costs (l : List SlotIx) (w : Work) : Costs 0 w (restoreVisit l w) := by
  induction l generalizing w with
  | nil => exact .of_idle (.refl _) rfl
  | cons i l ih =>
    simp only [restoreVisit]
    split
    · exact ih w
    · next visited =>
      simp only [Bool.or_eq_true, Bool.not_eq_true', not_or, Bool.not_eq_false] at visited
      split
      · exact restoreHanded_costs i _ (fun s => entryWatts s i) w
      · next on =>
        split
        · exact restoreHanded_costs i _ (fun _ => w.st.bays[i].withoutShed.charge - w.st.bays[i].charge) w
        · next same =>
          have load := slotLoad_withoutShed (isShed_running visited.1 on) (isShed_ceiling visited.1 on)
          have reports := reportsOf_steady_load (i := i) (a := w.st.bays[i])
            (b := capFollows w.st.now w.st.bays[i] w.st.bays[i].withoutShed) (by rw [capFollows_seq]; rfl)
            (by rw [capFollows_seq]; rfl) (by rw [capFollows_seq]; rfl)
          have uncapped : Costs 0 w (modBay .fault i Bay.withoutShed w) :=
            modBay_costs (Nat.not_lt.1 same) (by omega)
          exact uncapped.trans ((settleSlot_costs i _).trans (ih _))

theorem restorationStep_costs (w : Work) : Costs 0 w (restorationStep w) := by
  simp only [restorationStep]
  split
  · exact restoreVisit_costs ..
  · exact .of_idle (.refl _) rfl

end Sys2Proof.Machine
end

section
/-! PROOF. The delivery of reports ends: a shed answers the excess once, and is owed again only where a charge is told that
is above the one held. -/

namespace Sys2Proof.Machine

/-! ### The answered excess -/

/-- The headroom Hs that a recomputation would find. -/
def room (s : State) : Int := (refigure s).budget.hs

/-- A recomputation would not shed. -/
def ExcessMet (s : State) : Prop :=
  s.census = none → 0 ≤ room s ∨
    (s.budget.deficit = true ∧ excessOf (room s) ≤ s.budget.shedMark.getD (excessOf (room s)))

theorem room_eq (s : State) : room s =
    (usableOf (baseOf s.settings.constants.mode (counts s)).1 (coolingFactor (largestFailed (chassisFans s))) : Int) -
      supplyCharges s - ownCommitted s.budget := by
  simp only [room, refigure]
  split <;> rfl

theorem room_congr {s t : State} (h : SameInputs s t) (r : t.budget.reported = s.budget.reported) : room t = room s := by
  rw [room_eq, room_eq, h.settings, h.counted, h.fans, h.supply, ownCommitted, ownCommitted, r]

section
variable {k : Int} {v w : Work}

theorem Spends.room (h : Spends k v w) : Machine.room w.st = Machine.room v.st := room_congr h.inputs h.reported

theorem Costs.excessMet (h : Costs k v w) (a : ExcessMet v.st) : ExcessMet w.st := by
  intro census
  rw [h.room, h.deficit, h.mark]
  exact a (h.census.symm.trans census)

end

/-! ### The deficit step -/

theorem setMark_spends (m : Nat) (w : Work) : Spends 0 w (w.map (setMark m)) :=
  .of_slots (setMark_kept ..) (.of_bays rfl) rfl rfl

/-- The shed mark follows the excess, and what is shed for it leaves the mark. -/
theorem shed_marks {v w : Work} {k : Int} (n : Nat) (h : Spends k v w) (hs : w.st.budget.hs = room v.st)
    (d : w.st.budget.deficit = true) :
    let t := shed n (w.map (setMark (excessOf w.st.budget.hs)))
    Spends (k + 32) v t ∧ ExcessMet t.st := by
  have shed := shed_costs n (w.map (setMark (excessOf w.st.budget.hs)))
  have spends := (h.trans (setMark_spends _ w)).trans shed.toSpends
  refine ⟨spends.weaken (by omega), fun _ => .inr ⟨shed.deficit.trans d, ?_⟩⟩
  rw [shed.mark, spends.room, ← hs]
  exact Nat.le_refl _

theorem enterDeficit_spends {w : Work} (hs : w.st.budget.hs = room w.st) :
    Spends 33 w (enterDeficit w) ∧ ExcessMet (enterDeficit w).st := by
  have flagged : Spends 0 w (w.map setDeficit) := .of_slots (setDeficit_kept _) (.of_bays rfl) rfl rfl
  have unclaimed : Costs 0 (w.map setDeficit) (w.map fun s => withdrawClaim (setDeficit s)) :=
    .of_idle (withdrawClaim_idles _) rfl
  have unrestored := unclaimed.trans (withdrawRestore_costs (w.map fun s => withdrawClaim (setDeficit s)))
  refine shed_marks _ (flagged.trans unrestored.toSpends) ?_ unrestored.deficit
  rw [withdrawRestore_hs]
  refine Eq.trans ?_ hs
  simp only [Work.map, withdrawClaim_eq]
  split <;> rfl

theorem reshed_spends {w : Work} (hs : w.st.budget.hs = room w.st) (d : w.st.budget.deficit = true) :
    Spends 32 w (reshed w) ∧ (ExcessMet w.st → w.st.census = none → w.st.budget.hs < 0 → Spends 0 w (reshed w)) ∧
      ExcessMet (reshed w).st := by
  have marked := setMark_spends (excessOf w.st.budget.hs) w
  simp only [reshed]
  split
  · refine ⟨marked.weaken (by decide), fun _ _ _ => marked, fun _ => .inr ⟨d, ?_⟩⟩
    rw [marked.room, ← hs]
    exact Nat.le_refl _
  · next rises =>
    obtain ⟨spends, answered⟩ := shed_marks (ownShare w.st (excessOf w.st.budget.hs - w.st.budget.shedMark.getD
      (excessOf w.st.budget.hs))) (Spends.of_slots (Kept.refl _) (.of_bays rfl) rfl rfl : Spends 0 w w) hs d
    refine ⟨spends, fun a none negative => ?_, answered⟩
    rw [hs] at rises negative
    obtain positive | ⟨-, less⟩ := a none
    · exact absurd negative (Int.not_lt.2 positive)
    · exact absurd less rises

theorem deficitStep_spends {w : Work} (hs : w.st.budget.hs = room w.st) :
    Spends 33 w (deficitStep w) ∧ (ExcessMet w.st → Spends 0 w (deficitStep w)) ∧ ExcessMet (deficitStep w).st := by
  have same : Spends 0 w w := .of_slots (Kept.refl _) (.of_bays rfl) rfl rfl
  have free {t : Work} (h : Spends 0 w t) (a : ExcessMet t.st) :
      Spends 33 w t ∧ (ExcessMet w.st → Spends 0 w t) ∧ ExcessMet t.st := ⟨h.weaken (by decide), fun _ => h, a⟩
  by_cases negative : w.st.budget.hs < 0
  · cases census : w.st.census with
    | some d =>
      have busy {t : Work} (h : Spends 0 w t) : ExcessMet t.st := fun none =>
        absurd ((h.census.symm.trans none).symm.trans census) nofun
      rw [deficitStep_flags negative (by rw [census]; rfl)]
      have flagged : Spends 0 w (w.map setDeficit) := .of_slots (setDeficit_kept _) (.of_bays rfl) rfl rfl
      split
      · exact free same (busy same)
      · exact free flagged (busy flagged)
    | none =>
      cases d : w.st.budget.deficit
      · rw [deficitStep_enters negative census d]
        obtain ⟨spends, answered⟩ := enterDeficit_spends hs
        refine ⟨spends, fun a => ?_, answered⟩
        obtain positive | ⟨deficit, -⟩ := a census
        · exact absurd negative (Int.not_lt.2 (hs ▸ positive))
        · exact absurd (d.symm.trans deficit) Bool.noConfusion
      · rw [deficitStep_resheds negative census d]
        obtain ⟨spends, none, answered⟩ := reshed_spends hs d
        exact ⟨spends.weaken (by decide), fun a => none a census negative, answered⟩
  · have positive := Int.not_lt.1 negative
    have calm {t : Work} (h : Spends 0 w t) : ExcessMet t.st := fun _ => .inl (by rw [h.room, ← hs]; exact positive)
    cases d : w.st.budget.deficit
    · rw [deficitStep_calm positive d]
      exact free same (calm same)
    · rw [deficitStep_left positive d]
      have left : Spends 0 w (w.map clearDeficit) := .of_slots (clearDeficit_kept _) (.of_bays rfl) rfl rfl
      exact free left (calm left)

/-- A recomputation sheds once at most, and not where the excess is answered; it leaves the excess answered. -/
theorem recompute_spends (w : Work) :
    Spends 33 w (recompute w) ∧ (ExcessMet w.st → Spends 0 w (recompute w)) ∧ ExcessMet (recompute w).st := by
  have idle : Idle w.st (markBar (refigure w.st)) := (refigure_idles _).trans (markBar_idles _)
  have figured : Costs 0 w (w.map fun s => markBar (refigure s)) := .of_idle idle rfl
  have hs : (w.map fun s => markBar (refigure s)).st.budget.hs = room w.st := by
    simp only [Work.map, markBar, room]
    split <;> rfl
  obtain ⟨spends, none, answered⟩ := deficitStep_spends (hs.trans figured.room.symm)
  have checked (t : Work) : Costs 0 t (t.map sendingCheck) := .of_idle (sendingCheck_idles _) rfl
  have rest : Costs 0 (deficitStep (w.map fun s => markBar (refigure s))) (recompute w) :=
    (restorationStep_costs _).trans (checked _)
  exact ⟨(figured.toSpends.trans spends).trans rest.toSpends,
    fun a => (figured.toSpends.trans (none (figured.excessMet a))).trans rest.toSpends, rest.excessMet answered⟩

/-! ### The delivery of one report -/

/-- The slots of which the budget unit holds less than a charge that it has yet to take. -/
def Work.lows (w : Work) : Finset SlotIx :=
  Finset.univ.filter fun i => ∃ x ∈ w.charges i, w.st.budget.reported[i] < x

theorem mem_lows {w : Work} {i : SlotIx} : i ∈ w.lows ↔ w.low i := by
  simp only [Work.lows, Finset.mem_filter, Finset.mem_univ, true_and, Work.low]

/-- What a delivery can still come to: each slot's next charge above the one held may bring a shed. -/
def Work.debt (w : Work) : Nat := w.load + 40 * w.lows.card

section
variable {k : Int} {v w : Work}

theorem Spends.debt (h : Spends k v w) : (w.debt : Int) ≤ v.debt + k := by
  have fewer : w.lows.card ≤ v.lows.card := Finset.card_le_card fun i m => mem_lows.2 (h.low i (mem_lows.1 m))
  have load := h.load
  simp only [Work.debt]
  omega

end

/-- What one delivery keeps, and that it brings the end nearer. -/
structure Pays (v w : Work) : Prop where
  falling : w.falling
  met : ExcessMet w.st
  debt : w.debt < v.debt

section
variable {s : State} {l : List Report}

theorem Pays.of_costs {v w : Work} (f : v.falling) (m : ExcessMet v.st) (h : Costs (-1) v w) : Pays v w :=
  ⟨h.falls f, h.excessMet m, by have := h.toSpends.debt; omega⟩

/-- A report that carries no charge, once it is taken up. -/
theorem taken_costs {r : Report} (h : ∀ i, chargeFor i r = none) :
    Costs (-(reportLoad r : Int)) ⟨s, r :: l⟩ ⟨s, l⟩ := by
  have charges (i : SlotIx) : Work.charges ⟨s, r :: l⟩ i = Work.charges ⟨s, l⟩ i := by
    simp only [Work.charges, List.filterMap_cons, h i]
  refine ⟨⟨⟨rfl, rfl, rfl, rfl, rfl⟩, rfl, rfl, fun f i => charges i ▸ f i, fun i => ?_, ?_⟩, rfl, rfl⟩
  · rw [Work.low, Work.low, charges]; exact id
  · simp only [Work.load, reportsLoad, List.map_cons, List.sum_cons]
    omega

theorem charges_charge (i j : SlotIx) (n : Nat) : Work.charges ⟨s, .charge i n :: l⟩ j =
    if i = j then n :: Work.charges ⟨s, l⟩ j else Work.charges ⟨s, l⟩ j := by
  simp only [Work.charges, List.filterMap_cons, chargeFor]
  split
  · next h => split at h <;> simp_all
  · next h => split at h <;> simp_all

/-- The station holds a new charge of slot `i`. -/
def told (i : SlotIx) (n : Nat) (s : State) : State :=
  { s with budget := { s.budget with reported := s.budget.reported.set i n } }

theorem told_self (i : SlotIx) (n : Nat) (s : State) : (told i n s).budget.reported[i] = n := Vector.getElem_set_self ..

theorem told_other {i j : SlotIx} (h : i ≠ j) (n : Nat) (s : State) :
    (told i n s).budget.reported[j] = s.budget.reported[j] :=
  Vector.getElem_set_ne i.isLt j.isLt fun e => h (Fin.ext e)

/-- A charge told that is not above the one held leaves an excess that is met. -/
theorem told_met {i : SlotIx} {n : Nat} (m : ExcessMet s) (less : n ≤ s.budget.reported[i]) : ExcessMet (told i n s) := by
  have sum (t : State) : ownCommitted t.budget = ∑ j : SlotIx, t.budget.reported[j] :=
    (Fin.sum_univ_four fun j : SlotIx => t.budget.reported[j]).symm
  have committed : ownCommitted (told i n s).budget ≤ ownCommitted s.budget := by
    rw [sum, sum]
    refine Finset.sum_le_sum fun j _ => ?_
    by_cases e : i = j
    · exact e ▸ (told_self i n s).trans_le less
    · exact (told_other e n s).le
  have rises : room s ≤ room (told i n s) := by
    rw [room_eq, room_eq (told i n s)]
    exact Int.sub_le_sub_left (Int.ofNat_le.2 committed) _
  have falls : excessOf (room (told i n s)) ≤ excessOf (room s) := Int.toNat_le_toNat (Int.neg_le_neg rises)
  intro census
  obtain positive | ⟨deficit, marked⟩ := m census
  · exact .inl (positive.trans rises)
  · refine .inr ⟨deficit, ?_⟩
    have mark : (told i n s).budget.shedMark = s.budget.shedMark := rfl
    rw [mark]
    cases e : s.budget.shedMark with
    | none => exact Nat.le_refl _
    | some x => exact falls.trans (by rwa [e] at marked)

section
variable {i : SlotIx} {n : Nat} (f : Work.falling ⟨s, .charge i n :: l⟩)
include f

theorem told_falling : Work.falling ⟨told i n s, l⟩ := fun j => by
  have falls := f j
  rw [charges_charge] at falls
  split at falls
  · exact (List.pairwise_cons.1 falls).2
  · exact falls

/-- The charges that follow are not above the one told. -/
theorem told_high : i ∉ Work.lows ⟨told i n s, l⟩ := fun low => by
  obtain ⟨x, m, lt⟩ := mem_lows.1 low
  have falls := f i
  rw [charges_charge, if_pos rfl, List.pairwise_cons] at falls
  rw [told_self] at lt
  exact absurd lt (Nat.not_lt.2 (falls.1 x m))

theorem told_lows : Work.lows ⟨told i n s, l⟩ ⊆ Work.lows ⟨s, .charge i n :: l⟩ := fun j low => by
  by_cases e : i = j
  · exact absurd (e ▸ low) (told_high f)
  · obtain ⟨x, m, lt⟩ := mem_lows.1 low
    rw [told_other e] at lt
    exact mem_lows.2 ⟨x, by rw [charges_charge, if_neg e]; exact m, lt⟩

/-- A new charge is told: a recomputation, and a shed only where it is above the one held (R66, R111, R133). -/
theorem charge_pays (m : ExcessMet s) : Pays ⟨s, .charge i n :: l⟩ (deliver (.charge i n) ⟨s, l⟩) := by
  have load : Work.load ⟨s, .charge i n :: l⟩ = Work.load ⟨told i n s, l⟩ + 1 := by
    simp only [Work.load, reportsLoad, List.map_cons, List.sum_cons, reportLoad, told]
    omega
  have delivered : deliver (.charge i n) ⟨s, l⟩ = recompute ⟨told i n s, l⟩ := rfl
  obtain ⟨spends, free, met⟩ := recompute_spends ⟨told i n s, l⟩
  rw [delivered]
  refine ⟨spends.falls (told_falling f), met, ?_⟩
  by_cases more : s.budget.reported[i] < n
  · have low : i ∈ Work.lows ⟨s, .charge i n :: l⟩ :=
      mem_lows.2 ⟨n, by rw [charges_charge, if_pos rfl]; exact .head _, more⟩
    have fewer := Finset.card_lt_card ((Finset.ssubset_iff_of_subset (told_lows f)).2 ⟨i, low, told_high f⟩)
    have debt := spends.debt
    simp only [Work.debt, load] at debt ⊢
    omega
  · have fewer := Finset.card_le_card (told_lows f)
    have debt := (free (told_met m (Nat.not_lt.1 more))).debt
    simp only [Work.debt, load] at debt ⊢
    omega

end

/-- A report that carries no charge, and whose taking costs less than it weighs. -/
theorem Pays.of_plain {r : Report} {k : Int} (f : Work.falling ⟨s, r :: l⟩) (m : ExcessMet s)
    (plain : ∀ i, chargeFor i r = none) (h : Costs k ⟨s, l⟩ (deliver r ⟨s, l⟩)) (less : k < reportLoad r) :
    Pays ⟨s, r :: l⟩ (deliver r ⟨s, l⟩) :=
  .of_costs f m (((taken_costs plain).trans h).weaken (by omega))

theorem map_costs {g : State → State} (h : ∀ t, Idle t (g t)) (w : Work) : Costs 0 w (w.map g) := .of_idle (h w.st) rfl

theorem checkEntry_costs (i : SlotIx) (w : Work) : Costs 1 w (checkEntry i w) := by
  have same : Costs 1 w w := (Costs.of_idle (.refl _) rfl : Costs 0 w w).weaken (by decide)
  simp only [checkEntry]
  split
  · split
    · exact same
    · exact leaveQueue_costs i w
  · exact same

theorem deliver_pays (r : Report) (f : Work.falling ⟨s, r :: l⟩) (m : ExcessMet s) :
    Pays ⟨s, r :: l⟩ (deliver r ⟨s, l⟩) := by
  cases r with
  | charge i n => exact charge_pays f m
  | entered i => exact .of_plain f m (fun _ => rfl) (map_costs (takeEntered_idles i) ⟨s, l⟩) Int.zero_lt_one
  | left i => exact .of_plain f m (fun _ => rfl) (map_costs (endPorts_idles i) ⟨s, l⟩) Int.zero_lt_one
  | check i => exact .of_plain f m (fun _ => rfl) (checkEntry_costs i ⟨s, l⟩) (Int.ofNat_lt.2 (Nat.lt_succ_self 1))
  | admission i =>
    refine .of_plain (k := 0) f m (fun _ => rfl) ?_ Int.zero_lt_one
    simp only [deliver]
    split
    · exact map_costs (handEntry_idles i _ _) ⟨s, l⟩
    · exact .of_idle (.refl _) rfl
  | settle i => exact .of_plain f m (fun _ => rfl) (settleSlot_costs i ⟨s, l⟩) Int.zero_lt_one

/-! ### The delivery of all reports -/

theorem drain_delivers (n : Nat) {w : Work} (f : w.falling) (m : ExcessMet w.st) (d : w.debt ≤ n) :
    (drain n w).reports = [] := by
  induction n generalizing w with
  | zero =>
    have load : reportsLoad w.reports = 0 := by
      simp only [Work.debt, Work.load] at d
      omega
    rw [drain]
    cases l : w.reports with
    | nil => rfl
    | cons r rest =>
      rw [l, reportsLoad, List.map_cons, List.sum_cons] at load
      have := reportLoad_pos r
      omega
  | succ n ih =>
    obtain ⟨s, l⟩ := w
    cases l with
    | nil => rfl
    | cons r l =>
      obtain ⟨falling, met, less⟩ := deliver_pays r f m
      exact ih falling met (Nat.le_of_lt_succ (less.trans_le d))

end

/-- The fuel of the delivery passes what a recomputation can give rise to. -/
theorem flush_recompute_delivers (s : State) : (flush (recompute ⟨s, []⟩)).reports = [] := by
  obtain ⟨spends, -, met⟩ := recompute_spends ⟨s, []⟩
  have falling : Work.falling ⟨s, []⟩ := fun _ => List.pairwise_singleton ..
  have slots : ∑ i : SlotIx, slotLoad s.bays[i] ≤ 4 * 30 :=
    (Finset.sum_le_card_nsmul Finset.univ _ 30 fun i _ => slotLoad_bound s.bays[i]).trans_eq rfl
  have lows : (Work.lows ⟨s, []⟩).card ≤ 4 := Finset.card_le_univ _
  have debt := spends.debt
  refine drain_delivers drainFuel (spends.falls falling) met ?_
  simp only [Work.debt, Work.load, reportsLoad, List.map_nil, List.sum_nil, drainFuel] at debt ⊢
  omega

end Sys2Proof.Machine
end

section
/-! PROOF. The update instant of the fans: what one channel's update leaves (R151 to R153). -/

namespace Sys2Proof.Machine

/-! ### A channel that is not fitted -/

theorem foldl_cooling {α : Type} {f : State → α → State} (h : ∀ s x, (f s x).cooling = s.cooling) (l : List α) (s : State) :
    (l.foldl f s).cooling = s.cooling := by
  induction l generalizing s with
  | nil => rfl
  | cons x l ih => exact (ih _).trans (h s x)

theorem placePort_cooling (i : SlotIx) (p : PortIx) (s : State) : (placePort i p s).cooling = s.cooling := by
  simp only [placePort]
  split
  · split <;> rfl
  · rfl

theorem takeEntered_cooling (i : SlotIx) (s : State) : (takeEntered i s).cooling = s.cooling := by
  have started (t : State) : (startPorts i t).cooling = t.cooling :=
    foldl_cooling (fun s p => by simp only [startPort, placePort_cooling]; rfl) _ t
  simp only [takeEntered]
  split
  · split
    · exact started _
    · rfl
  · rfl

theorem endPorts_cooling (i : SlotIx) (s : State) : (endPorts i s).cooling = s.cooling := by
  refine foldl_cooling (fun s p => ?_) _ s
  simp only [endPort]
  split
  · exact foldl_cooling (f := fun t m => offer m t) (fun _ _ => rfl) _ _
  · rfl

/-- Channel `c`, where it is not fitted, stands. -/
structure Bare (c : ChanIx) (s t : State) : Prop where
  settings : t.settings = s.settings
  fan : fanFitted s c = false → t.cooling.fans[c] = s.cooling.fans[c]

section
variable {c : ChanIx} {s t u : State}

theorem Bare.refl (c : ChanIx) (s : State) : Bare c s s := ⟨rfl, fun _ => rfl⟩

theorem Bare.trans (h : Bare c s t) (k : Bare c t u) : Bare c s u :=
  ⟨k.settings.trans h.settings, fun f => (k.fan (by rw [fanFitted, h.settings]; exact f)).trans (h.fan f)⟩

theorem Bare.of_cooling (k : t.settings = s.settings) (h : t.cooling = s.cooling) : Bare c s t := ⟨k, fun _ => by rw [h]⟩

theorem deriveTargets_bare (c : ChanIx) (s : State) : Bare c s (deriveTargets s) := by
  refine ⟨rfl, fun f => ?_⟩
  have stands : (deriveTargets s).cooling.fans[c] = withTarget s c := by
    simp only [deriveTargets]
    fin_cases c <;> rfl
  rw [stands, withTarget, f]
  rfl

theorem deriveZone_bare (c : ChanIx) (z : ZoneIx) (s : State) : Bare c s (deriveZone z s) := by
  have demands (x y : Vector (Option Nat) 4) :
      Bare c s { s with cooling := { s.cooling with raw := x, reported := y } } := ⟨rfl, fun _ => rfl⟩
  exact (demands _ _).trans (deriveTargets_bare c _)

theorem coolingReport_bare (c : ChanIx) (i : SlotIx) (a b : Bay) (s : State) : Bare c s (coolingReport i a b s) := by
  simp only [coolingReport]
  split
  · exact deriveZone_bare ..
  · exact .refl c s

theorem modBay_bare (c : ChanIx) (o : StepOrder) (i : SlotIx) (f : Bay → Bay) (w : Work) :
    Bare c w.st (modBay o i f w).st :=
  (Bare.of_cooling rfl rfl : Bare c w.st (setBay i _ w.st)).trans
    ((coolingReport_bare c i _ _ _).trans (.of_cooling rfl rfl))

theorem refigure_cooling (s : State) : (refigure s).cooling = s.cooling := by rw [(refigure_attention s).1]

theorem Move.bare {v w : Work} (c : ChanIx) (m : Move v w) : Bare c v.st w.st := by
  cases m with
  | refigure => exact .of_cooling (refigure_kept _).settings (refigure_cooling v.st)
  | budget b e => exact .of_cooling rfl rfl
  | claim e n => exact .of_cooling (offerClaim_kept e n).settings (by simp only [map_st, offerClaim]; split <;> rfl)
  | unclaim => exact .of_cooling (withdrawClaim_kept _).settings (by simp only [map_st, withdrawClaim]; split <;> rfl)
  | deficit => exact .of_cooling rfl rfl
  | bay i f h => exact modBay_bare ..
  | settle i => exact .refl c _

theorem Step.bare {v w : Work} (c : ChanIx) (m : Step v w) : Bare c v.st w.st := by
  cases m with
  | move h => exact h.bare c
  | charge => exact .of_cooling rfl rfl
  | entered s i => exact .of_cooling (takeEntered_kept ..).settings (takeEntered_cooling ..)
  | left s i => exact .of_cooling (endPorts_kept ..).settings (endPorts_cooling ..)
  | check => exact .refl c _
  | admission => exact .refl c _
  | settle => exact .refl c _

theorem Steps.bare {v w : Work} (c : ChanIx) (m : Steps v w) : Bare c v.st w.st :=
  m.rel (R := fun v w => Bare c v.st w.st) (fun a => .refl c a.st) (fun _ _ _ h k => h.trans k) fun _ _ h => h.bare c

end

/-! ### One channel updated -/

/-- The tach judgement of channel `c`, where the station judges (R152, R153). -/
def judgedState (c : ChanIx) (tach : Nat) (s : State) : State :=
  if s.cooling.judging = true then judgeFan c tach s else s

/-- What the update of fitted channel `c` leaves (R151, R153). -/
structure FanUpdated (c : ChanIx) (tach : Nat) (s t : State) : Prop where
  settings : t.settings = s.settings
  census : t.census = s.census
  peers : t.peers = s.peers
  bus : BusKept s.bus t.bus
  nextNumber : t.budget.nextNumber = s.budget.nextNumber
  judging : t.cooling.judging = s.cooling.judging
  grows : s.settings.lineMode = .latched → s.attention.grows t.attention
  judged : let f := (judgedState c tach s).cooling.fans[c]
    t.cooling.fans[c].low = f.low ∧ t.cooling.fans[c].good = f.good ∧ t.cooling.fans[c].health = f.health
  duty : t.cooling.fans[c].duty = nextDuty s.settings.rampStep t.cooling.fans[c].target s.cooling.fans[c].duty
  others : ∀ d, c ≠ d → ∃ x, t.cooling.fans[d] = { s.cooling.fans[d] with target := x }
  bare : ∀ d, c ≠ d → fanFitted s d = false → t.cooling.fans[d] = s.cooling.fans[d]
  alarm : s.cooling.fans[c].health = .ok → t.cooling.fans[c].health = .failed → t.attention.station.fanFailed = true
  same : t.cooling.fans[c].health = s.cooling.fans[c].health →
    t = { s with cooling := { s.cooling with fans := t.cooling.fans } } ∧
      t.cooling.fans[c].target = s.cooling.fans[c].target ∧ ∀ d, c ≠ d → t.cooling.fans[d] = s.cooling.fans[d]

theorem setFan_fan (c : ChanIx) (f : Fan → Fan) (s : State) : (setFan c f s).cooling.fans[c] = f s.cooling.fans[c] :=
  updAt_self ..

theorem setFan_other {c d : ChanIx} (n : c ≠ d) (f : Fan → Fan) (s : State) :
    (setFan c f s).cooling.fans[d] = s.cooling.fans[d] := updAt_ne _ _ _ _ n

section
variable {c : ChanIx} {s v : State} (tach : Nat)

/-- The judgement writes the two counts and the health of its channel. -/
theorem judgedState_eq (c : ChanIx) (s : State) (tach : Nat) :
    ∃ x, judgedState c tach s = { s with cooling := { s.cooling with fans := x } } := by
  rw [judgedState]
  split
  · exact ⟨_, rfl⟩
  · exact ⟨s.cooling.fans, rfl⟩

theorem judgedState_duty : (judgedState c tach s).cooling.fans[c].duty = s.cooling.fans[c].duty ∧
    (judgedState c tach s).cooling.fans[c].target = s.cooling.fans[c].target := by
  rw [judgedState]
  split
  · rw [judgeFan, setFan_fan]
    simp only [judgeTach]
    repeat' split
    all_goals exact ⟨rfl, rfl⟩
  · exact ⟨rfl, rfl⟩

theorem judgedState_other {d : ChanIx} (n : c ≠ d) :
    (judgedState c tach s).cooling.fans[d] = s.cooling.fans[d] := by
  rw [judgedState]
  split
  · exact setFan_other n ..
  · rfl

/-- The duty set after the judgement and, where the health changed, after the recomputation that followed. -/
theorem setDuty_updated (f : c.val < s.settings.fanCount) (k : Kept (judgedState c tach s) v)
    (b : ∀ d, Bare d (judgedState c tach s) v)
    (alarm : s.cooling.fans[c].health = .ok → (judgedState c tach s).cooling.fans[c].health = .failed →
      v.attention.station.fanFailed = true)
    (same : (judgedState c tach s).cooling.fans[c].health = s.cooling.fans[c].health → v = judgedState c tach s) :
    FanUpdated c tach s (setDuty c v) := by
  obtain ⟨x, judged⟩ := judgedState_eq c s tach
  have plain : Kept { s with cooling := { s.cooling with fans := x } } v := judged ▸ k
  have set : setDuty c v = setFan c (fun f => { f with duty := nextDuty v.settings.rampStep f.target f.duty }) v :=
    if_pos (decide_eq_true (by rw [plain.settings]; exact f))
  obtain ⟨y, fan⟩ := k.cooling.fans c
  obtain ⟨duty, target⟩ := judgedState_duty (c := c) (s := s) tach
  have own := setFan_fan c (fun f => { f with duty := nextDuty v.settings.rampStep f.target f.duty }) v
  have other {d : ChanIx} (n : c ≠ d) :=
    setFan_other n (fun f => { f with duty := nextDuty v.settings.rampStep f.target f.duty }) v
  rw [set]
  refine ⟨plain.settings, plain.census, plain.peers, plain.bus, plain.nextNumber, plain.cooling.judging, plain.flags,
    ?_, ?_, fun d n => ?_, fun d n bare => ?_, ?_, ?_⟩
  · rw [own, fan]
    exact ⟨rfl, rfl, rfl⟩
  · rw [own, fan, plain.settings, ← duty]
  · obtain ⟨z, others⟩ := k.cooling.fans d
    rw [other n, others, judgedState_other tach n]
    exact ⟨z, rfl⟩
  · rw [other n, (b d).fan (by rw [judged]; exact bare), judgedState_other tach n]
  · rw [own, fan]
    exact alarm
  · rw [own, fan]
    intro h
    have e := same h
    subst e
    refine ⟨?_, ?_, fun d n => (other n).trans (judgedState_other tach n)⟩
    · rw [judged]
      rfl
    · rw [← target, fan]

end

theorem updateFan_updates {c : ChanIx} {s : State} (f : c.val < s.settings.fanCount) (tach : Nat) :
    ∃ t, updateFan c tach ⟨s, []⟩ = ⟨t, []⟩ ∧ FanUpdated c tach s t := by
  have judged : (⟨judgedState c tach s, []⟩ : Work) =
      if (⟨s, []⟩ : Work).st.cooling.judging = true then (⟨s, []⟩ : Work).map (judgeFan c tach) else ⟨s, []⟩ := by
    rw [judgedState]
    split <;> rfl
  have bare (r : Work) (m : Steps ⟨judgedState c tach s, []⟩ r) (d : ChanIx) : Bare d (judgedState c tach s) r.st := m.bare d
  by_cases h : (judgedState c tach s).cooling.fans[c].health = s.cooling.fans[c].health
  · rw [updateFan_same tach f judged h]
    refine ⟨_, rfl, setDuty_updated tach f (Kept.refl _) (fun d => .refl d _) (fun ok failed => ?_) fun _ => rfl⟩
    exact absurd ((ok.symm.trans h.symm).trans failed) nofun
  · rw [updateFan_changes tach f judged h]
    have done := flush_recompute_delivers (judgedState c tach s)
    have kept : Kept (judgedState c tach s) (flush (recompute ⟨judgedState c tach s, []⟩)).st :=
      (recompute_kept ⟨judgedState c tach s, []⟩).trans (flush_kept _)
    have stands := bare _ ((recompute_moves ⟨judgedState c tach s, []⟩).steps.trans (flush_steps _))
    generalize flush (recompute ⟨judgedState c tach s, []⟩) = r at done kept stands
    obtain ⟨v, l⟩ := r
    subst done
    split
    · have raised : Kept v (raiseStation (fun f => { f with fanFailed := true }) v) :=
        raiseStation_kept (f := fun f => { f with fanFailed := true }) (fun x => ⟨id, id, fun _ => rfl, id, id, id⟩) v
      exact ⟨_, rfl, setDuty_updated tach f (kept.trans raised) (fun d => (stands d).trans (.of_cooling rfl rfl))
        (fun _ _ => rfl) fun e => absurd e h⟩
    · next failed =>
      exact ⟨_, rfl, setDuty_updated tach f kept stands (fun _ e => absurd e failed) fun e => absurd e h⟩

end Sys2Proof.Machine
end

section
/-! PROOF. The win, the loss and the stop of an own message (R1, R2, R7, R8). -/

namespace Sys2Proof.Machine

/-! ### The two channels at the update instant -/

/-- The judgement of a tach reading, from channel record `f` to `g` (R152, R153). -/
def TachJudged (judging : Bool) (full reading : Nat) (f g : Fan) : Prop :=
  let expected := full * f.duty / 100
  let low := if 10 * reading < 4 * expected then min 3 (f.low + 1) else 0
  let good := if 6 * expected ≤ 10 * reading then min 3 (f.good + 1) else 0
  (judging = false → g.low = f.low ∧ g.good = f.good ∧ g.health = f.health) ∧
    (judging = true → g.low = low ∧ g.good = good ∧ g.health = (match f.health with
      | .ok => if low = 3 then .failed else .ok
      | .failed => if good = 3 then .ok else .failed))

theorem judgeTach_counts (full reading : Nat) (f : Fan) :
    (judgeTach full reading f).low = (if 10 * reading < 4 * (full * f.duty / 100) then min 3 (f.low + 1) else 0) ∧
    (judgeTach full reading f).good = (if 6 * (full * f.duty / 100) ≤ 10 * reading then min 3 (f.good + 1) else 0) ∧
    (judgeTach full reading f).health = f.health := by
  simp only [judgeTach]
  split
  · next slow => rw [if_neg (by omega)]; exact ⟨rfl, rfl, rfl⟩
  · split <;> exact ⟨rfl, rfl, rfl⟩

theorem judgedHealth_eq (f : Fan) : judgedHealth f = match f.health with
    | .ok => if f.low = 3 then .failed else .ok
    | .failed => if f.good = 3 then .ok else .failed := by
  cases h : f.health <;> simp only [judgedHealth, h, beq_iff_eq]

theorem judgedState_judged (c : ChanIx) (tach : Nat) (s : State) : TachJudged s.cooling.judging s.settings.fans[c].fullRpm tach
    s.cooling.fans[c] (judgedState c tach s).cooling.fans[c] := by
  obtain ⟨low, good, health⟩ := judgeTach_counts s.settings.fans[c].fullRpm tach s.cooling.fans[c]
  refine ⟨fun no => ?_, fun yes => ?_⟩
  · rw [judgedState, no]
    exact ⟨rfl, rfl, rfl⟩
  · rw [judgedState, if_pos yes, judgeFan, setFan_fan]
    refine ⟨low, good, (judgedHealth_eq _).trans ?_⟩
    rw [health, low, good]

/-- The duty moved toward a target (R151). -/
theorem nextDuty_eq (step target duty : Nat) :
    nextDuty step target duty = if duty ≤ target then target else max target (duty - step) := by
  simp only [nextDuty]
  repeat' split
  all_goals omega

/-- The update of a channel where it is fitted; nothing where it is not. -/
def ChannelUpdated (c : ChanIx) (tach : Nat) (s t : State) : Prop :=
  (s.settings.fanCount ≤ c.val ∧ t = s) ∨ (c.val < s.settings.fanCount ∧ FanUpdated c tach s t)

theorem updateFan_channel (c : ChanIx) (tach : Nat) (s : State) :
    ∃ t, updateFan c tach ⟨s, []⟩ = ⟨t, []⟩ ∧ ChannelUpdated c tach s t := by
  by_cases f : c.val < s.settings.fanCount
  · obtain ⟨t, e, updated⟩ := updateFan_updates f tach
    exact ⟨t, e, .inr ⟨f, updated⟩⟩
  · have fitted : ¬fanFitted s c = true := fun h => f (of_decide_eq_true h)
    exact ⟨s, if_neg fitted, .inl ⟨Nat.not_lt.1 f, rfl⟩⟩

theorem updateFans_channels {s : State} (census : s.census = none) (a b : Nat) :
    ∃ m t, updateFans a b ⟨s, []⟩ = ⟨t, []⟩ ∧ ChannelUpdated 0 a s m ∧ ChannelUpdated 1 b m t := by
  obtain ⟨m, e, first⟩ := updateFan_channel 0 a s
  obtain ⟨t, e', second⟩ := updateFan_channel 1 b m
  refine ⟨m, t, ?_, first, second⟩
  rw [updateFans, census, e]
  exact e'

/-- What every update leaves. -/
structure FansUpdated (s t : State) : Prop where
  settings : t.settings = s.settings
  peers : t.peers = s.peers
  bus : BusKept s.bus t.bus
  nextNumber : t.budget.nextNumber = s.budget.nextNumber
  judging : t.cooling.judging = s.cooling.judging
  grows : s.settings.lineMode = .latched → s.attention.grows t.attention

theorem ChannelUpdated.leaves {c : ChanIx} {tach : Nat} {s t : State} (h : ChannelUpdated c tach s t) : FansUpdated s t := by
  obtain ⟨-, rfl⟩ | ⟨-, u⟩ := h
  · exact ⟨rfl, rfl, BusKept.refl _, rfl, rfl, fun _ => Attention.grows_refl _⟩
  · exact ⟨u.settings, u.peers, u.bus, u.nextNumber, u.judging, u.grows⟩

theorem FansUpdated.trans {s t u : State} (h : FansUpdated s t) (k : FansUpdated t u) : FansUpdated s u where
  settings := k.settings.trans h.settings
  peers := k.peers.trans h.peers
  bus := h.bus.trans k.bus
  nextNumber := k.nextNumber.trans h.nextNumber
  judging := k.judging.trans h.judging
  grows l := Attention.grows_trans (h.grows l) (k.grows (by rw [h.settings]; exact l))

theorem anyFanFailed_of {c : ChanIx} {t : State} (f : c.val < t.settings.fanCount) (h : t.cooling.fans[c].health = .failed) :
    anyFanFailed t = true := by
  simp only [anyFanFailed, Bool.or_eq_true, Bool.and_eq_true, decide_eq_true_eq, beq_iff_eq]
  match c with
  | 0 => exact .inl ⟨f, h⟩
  | 1 => exact .inr ⟨f, h⟩

/-- A channel's failure shows in its cause flag. -/
theorem fanFailed_settled {c : ChanIx} {t : State} (f : c.val < t.settings.fanCount) (h : t.cooling.fans[c].health = .failed)
    (l : t.settings.lineMode = .latched → t.attention.station.fanFailed = true) :
    (settleFlags t).attention.station.fanFailed = true := by
  cases mode : t.settings.lineMode with
  | latched =>
    obtain ⟨-, -, -, failed, -⟩ := settleFlags_grows mode
    exact failed (l mode)
  | live =>
    have conditions : (settleFlags t).attention.station = stationConditions t := by
      simp only [settleFlags, mode]
      rfl
    rw [conditions]
    exact anyFanFailed_of f h

/-! ### The clauses -/

theorem exec_busIdle (others : List ArbKey) (a b : Nat) (s : State) :
    exec (.busIdle others a b) s = execBusIdle others a b s := rfl

/-- A loss: a lower key wins, and the message waits (R1). -/
theorem busIdle_loses {s : State} {others : List ArbKey} {m : Outgoing} (a b : Nat) (h : chooseNext s.bus = some m)
    (w : winsContention m.cls s.address others = false) : exec (.busIdle others a b) s = .next s := by
  have loser : idleWinner s others = none := by
    simp only [idleWinner, h, Option.filter_some, w]
    split <;> rfl
  rw [exec_busIdle, execBusIdle]
  exact event_absent _ (by rw [loser]; rfl)

/-- A win: the content is fixed, and a STANDING updates the fans (R8, R151). -/
theorem busIdle_wins {s : State} {others : List ArbKey} {m : Outgoing} (a b : Nat) (r : s.run = .running)
    (idle : s.bus.onBus = none) (h : chooseNext s.bus = some m) (w : winsContention m.cls s.address others = true) :
    exec (.busIdle others a b) s = .next (finish (winBus m a b ⟨s, []⟩)) := by
  have winner : idleWinner s others = some m := by
    simp only [idleWinner, sending, idle, h, Option.filter_some, w]
    rfl
  rw [exec_busIdle, execBusIdle, event_occurs _ r (by rw [winner]; rfl), winner]

theorem stop_requeues {s : State} (r : s.run = .running) (h : s.bus.onBus.isSome = true) :
    exec .readbackMismatchStop s = .next (settleFlags { s with
      bus := { s.bus with onBus := none }
      budget := { s.budget with own :=
        if s.budget.own.state = .onBus then { s.budget.own with state := .queued, number := none }
        else s.budget.own } }) := by
  refine (simpleEvent_occurs stopSending r h).trans ?_
  simp only [stopSending, beq_iff_eq]

theorem chooseNext_cases (b : BusPort) (m x : Outgoing) (l k : List Outgoing) :
    (b.urgent = m :: l → chooseNext b = some m) ∧
    (b.urgent = [] → b.control = m :: l → b.routine = [] → chooseNext b = some m) ∧
    (b.urgent = [] → b.control = [] → b.routine = m :: l → chooseNext b = some m) ∧
    (b.urgent = [] → b.control = m :: l → b.routine = x :: k →
      chooseNext b = some (match b.lastServed with
        | .routine => m
        | .control => x)) := by
  refine ⟨fun u => ?_, fun u c r => ?_, fun u c r => ?_, fun u c r => ?_⟩
  · simp only [chooseNext, u, List.head?_cons]
  · simp only [chooseNext, u, c, r, List.head?_cons, List.head?_nil]
  · simp only [chooseNext, u, c, r, List.head?_cons, List.head?_nil]
  · simp only [chooseNext, u, c, r, List.head?_cons, List.head?_nil]
    cases b.lastServed <;> rfl

theorem slotCeiling_cases (b : Bay) :
    let q := b.seq
    let a := q.allowance.getD 0
    (q.state = .running → q.adopted = true → b.slotCeiling = b.cfg.worstCase) ∧
    (q.state = .stuck → b.slotCeiling = b.cfg.worstCase) ∧
    (q.state = .ramp ∨ (q.state = .running ∧ q.adopted = false) ∨ (q.state = .stopping ∧ q.phase = some .draining) →
      b.slotCeiling = max a b.charge) ∧
    (q.state = .waitPower ∨ q.state = .retryWait ∨ q.state = .shedOff → b.slotCeiling = a) ∧
    (q.state ∈ [SlotState.empty, .identify, .off, .latched] ∨ (q.state = .stopping ∧ q.phase = some .unseating) →
      b.slotCeiling = 0) := by
  refine ⟨fun st ad => ?_, fun st => ?_, fun h => ?_, fun h => ?_, fun h => ?_⟩
  · simp only [Bay.slotCeiling, st, ad, if_true]
  · simp only [Bay.slotCeiling, st]
  · obtain st | ⟨st, ad⟩ | ⟨st, ph⟩ := h
    · simp only [Bay.slotCeiling, st]
    · simp only [Bay.slotCeiling, st, ad, Bool.false_eq_true, if_false]
    · have draining : b.draining = true := by rw [Bay.draining, st, ph]; rfl
      simp only [Bay.slotCeiling, st, draining, if_true]
  · obtain st | st | st := h <;> simp only [Bay.slotCeiling, st]
  · obtain st | ⟨st, ph⟩ := h
    · simp only [List.mem_cons, List.not_mem_nil, or_false] at st
      obtain st | st | st | st := st <;> simp only [Bay.slotCeiling, st]
    · have draining : b.draining = false := by rw [Bay.draining, st, ph]; rfl
      simp only [Bay.slotCeiling, st, draining, Bool.false_eq_true, if_false]

end Sys2Proof.Machine
end

section
/-! PROOF. The content that a win fixes, and the update instant of a STANDING (R8, R125, R149, R151, R154, R164). -/

namespace Sys2Proof.Machine

/-! ### The STANDING fixed at a win -/

theorem mem_ownZones (s : State) (e : ZoneDemand) :
    e ∈ ownZones s ↔ ∃ z : ZoneIx, s.cooling.reported[z] = some e.demand ∧ e.zone = z.val := by
  simp only [ownZones, List.mem_filterMap, List.mem_finRange, true_and, Option.map_eq_some_iff]
  constructor
  · rintro ⟨z, d, h, rfl⟩
    exact ⟨z, h, rfl⟩
  · rintro ⟨z, h, zone⟩
    exact ⟨z, e.demand, h, by rw [← zone]⟩

theorem ownZones_ascending (s : State) : (ownZones s).Pairwise fun a b => a.zone < b.zone := by
  refine List.Pairwise.filterMap _ (fun y z less a ha b hb => ?_) (List.pairwise_lt_finRange 4)
  obtain ⟨-, -, rfl⟩ := Option.map_eq_some_iff.1 ha
  obtain ⟨-, -, rfl⟩ := Option.map_eq_some_iff.1 hb
  exact less

/-- The fitted channels of two, by their number. -/
theorem fitted_list {α : Type} (n : Nat) (f : ChanIx → α) :
    let l := ((List.finRange 2).filter fun c => decide (c.val < n)).map f
    l.length = min 2 n ∧ ∀ c : ChanIx, c.val < n → l[c.val]? = some (f c) := by
  match n with
  | 0 => exact ⟨rfl, fun c h => absurd h (Nat.not_lt_zero _)⟩
  | 1 =>
    refine ⟨rfl, fun c h => ?_⟩
    obtain rfl : c = 0 := Fin.ext (Nat.lt_one_iff.1 h)
    rfl
  | n + 2 =>
    have all : (List.finRange 2).filter (fun c => decide (c.val < n + 2)) = List.finRange 2 :=
      List.filter_eq_self.2 fun c _ => decide_eq_true (c.isLt.trans_le (Nat.le_add_left 2 n))
    simp only [all, List.length_map, List.length_finRange]
    exact ⟨(Nat.min_eq_left (Nat.le_add_left 2 n)).symm, fun c _ => by
      rw [List.getElem?_map, List.getElem?_eq_getElem (by rw [List.length_finRange]; exact c.isLt), List.getElem_finRange]
      rfl⟩

theorem fixContent_standing (s : State) : 
    ∃ x : Standing, fixContent s .standing = .standing x ∧
      x.epoch = s.self.epoch ∧ x.sequence = s.bus.sequence ∧ x.committed = s.budget.committed ∧
      x.folded = s.budget.folded ∧ x.deficit = s.budget.deficit ∧ x.redundancyLost = s.budget.redundancyLost ∧
      x.coolingDegraded = s.budget.coolingDegraded ∧
      x.ceiling = s.bays[0].slotCeiling + s.bays[1].slotCeiling + s.bays[2].slotCeiling + s.bays[3].slotCeiling ∧
      x.zones.Pairwise (fun a b => a.zone < b.zone) ∧ (∀ e ∈ x.zones, e.zone < 4) ∧
      (∀ (z : ZoneIx) (d : Nat), ⟨z.val, d⟩ ∈ x.zones ↔ s.cooling.reported[z] = some d) ∧
      x.fans.length = min 2 s.settings.fanCount ∧
      (∀ c : ChanIx, c.val < s.settings.fanCount →
        x.fans[c.val]? = some ⟨s.settings.fans[c].zone, s.cooling.fans[c].health⟩) ∧
      x.supplies.length = min 2 s.settings.supplyCount ∧
      (∀ c : ChanIx, c.val < s.settings.supplyCount → x.supplies[c.val]? = some ⟨s.settings.supplies[c].feed,
        s.supplies[c].state, s.settings.supplies[c].rated, min s.supplies[c].output 65535⟩) ∧
      x.trunk = s.owner.map fun o => ⟨o.module, o.lanes.length, (o.lanes.filter (· == .free)).length⟩ := by
  obtain ⟨fans, fan⟩ := fitted_list s.settings.fanCount fun c =>
    (⟨s.settings.fans[c].zone, s.cooling.fans[c].health⟩ : FanEntry)
  obtain ⟨supplies, supply⟩ := fitted_list s.settings.supplyCount fun c => (⟨s.settings.supplies[c].feed,
    s.supplies[c].state, s.settings.supplies[c].rated, min s.supplies[c].output 65535⟩ : SupplyRecord)
  have records : (ownStanding s).supplies = ((List.finRange 2).filter fun c => decide (c.val < s.settings.supplyCount)).map
      fun c => (⟨s.settings.supplies[c].feed,
    s.supplies[c].state, s.settings.supplies[c].rated, min s.supplies[c].output 65535⟩ : SupplyRecord) := List.map_map
  refine ⟨ownStanding s, rfl, rfl, rfl, rfl, rfl, rfl, rfl, rfl, rfl, ownZones_ascending s, fun e m => ?_, fun z d => ?_,
    fans, fan, (congrArg List.length records).trans supplies, fun c f => (congrArg (·[c.val]?) records).trans (supply c f), ?_⟩
  · obtain ⟨z, -, zone⟩ := (mem_ownZones s e).1 m
    rw [zone]
    exact z.isLt
  · refine (mem_ownZones s _).trans ⟨fun ⟨y, h, e⟩ => ?_, fun h => ⟨z, h, rfl⟩⟩
    rw [Fin.ext e]
    exact h
  · simp only [ownStanding, ownSummary, freeLaneCount, List.countP_eq_length_filter]

theorem fixContent_cases (s : State) : fixContent s .rollCall = .rollCall ⟨s.self.epoch, s.self.roles, s.self.digest⟩ ∧
    (∀ (w : Nat) (i : SlotIx) (k : ClaimKind),
      fixContent s (.claim w i k) = .claim ⟨s.budget.nextNumber, w, i.val, k.code⟩) ∧
    ∀ m : Outgoing, m ≠ .rollCall → m ≠ .standing → isClaim m = false → fixContent s m = .fixed m := by
  refine ⟨rfl, fun _ _ _ => rfl, fun m roll standing claim => ?_⟩
  cases m with
  | rollCall => exact absurd rfl roll
  | standing => exact absurd rfl standing
  | claim => cases claim
  | _ => rfl

/-! ### The two channels one after the other -/

/-- The duty of a channel moved toward a target (R151). -/
def movedDuty (step : Nat) (f : Fan) (target : Nat) : Nat :=
  if f.duty ≤ target then target else max target (f.duty - step)

section
variable {c d : ChanIx} {tach : Nat} {s t : State} (h : ChannelUpdated c tach s t)
include h

/-- The other channel's record, but for its target. -/
theorem ChannelUpdated.other (n : c ≠ d) : ∃ x, t.cooling.fans[d] = { s.cooling.fans[d] with target := x } := by
  obtain ⟨-, rfl⟩ | ⟨-, u⟩ := h
  · exact ⟨_, rfl⟩
  · exact u.others d n

/-- The update of a channel whose health stays changes its record alone. -/
theorem ChannelUpdated.alone (e : t.cooling.fans[c].health = s.cooling.fans[c].health) :
    t = { s with cooling := { s.cooling with fans := t.cooling.fans } } ∧
      ∀ d : ChanIx, t.cooling.fans[d].target = s.cooling.fans[d].target ∧ (c ≠ d → t.cooling.fans[d] = s.cooling.fans[d]) := by
  obtain ⟨-, rfl⟩ | ⟨-, u⟩ := h
  · exact ⟨rfl, fun _ => ⟨rfl, fun _ => rfl⟩⟩
  · obtain ⟨record, target, others⟩ := u.same e
    refine ⟨record, fun d => ⟨?_, others d⟩⟩
    by_cases n : c = d
    · exact n ▸ target
    · rw [others d n]

theorem ChannelUpdated.unfitted (f : s.settings.fanCount ≤ d.val) : t.cooling.fans[d] = s.cooling.fans[d] := by
  obtain ⟨-, rfl⟩ | ⟨fitted, u⟩ := h
  · rfl
  · exact u.bare d (fun e => absurd (e ▸ fitted) (Nat.not_lt.2 f)) (decide_eq_false (Nat.not_lt.2 f))

variable (f : c.val < s.settings.fanCount)
include f

theorem ChannelUpdated.updated : FanUpdated c tach s t :=
  h.elim (fun e => absurd f (Nat.not_lt.2 e.1)) And.right

theorem ChannelUpdated.judged : TachJudged s.cooling.judging s.settings.fans[c].fullRpm tach s.cooling.fans[c]
    t.cooling.fans[c] := by
  obtain ⟨low, good, health⟩ := (h.updated f).judged
  have judged := judgedState_judged c tach s
  simp only [TachJudged] at judged ⊢
  rw [low, good, health]
  exact judged

theorem ChannelUpdated.duty : t.cooling.fans[c].duty =
    movedDuty s.settings.rampStep s.cooling.fans[c] t.cooling.fans[c].target :=
  (h.updated f).duty.trans (nextDuty_eq ..)

end

/-- Channel `c` before and after an update instant (R151, R153). -/
structure ChannelOutcome (c : ChanIx) (tach : Nat) (s t : State) : Prop where
  judged : TachJudged s.cooling.judging s.settings.fans[c].fullRpm tach s.cooling.fans[c] t.cooling.fans[c]
  alarm : s.cooling.fans[c].health = .ok → t.cooling.fans[c].health = .failed →
    (settleFlags t).attention.station.fanFailed = true
  duty : ∃ target, t.cooling.fans[c].duty = movedDuty s.settings.rampStep s.cooling.fans[c] target
  settled : c = 1 ∨ t.cooling.fans[1].health = s.cooling.fans[1].health →
    t.cooling.fans[c].duty = movedDuty s.settings.rampStep s.cooling.fans[c] t.cooling.fans[c].target

section
variable {a b : Nat} {s m t : State} (first : ChannelUpdated 0 a s m) (second : ChannelUpdated 1 b m t)
include first second

theorem channel0_outcome (f : 0 < s.settings.fanCount) : ChannelOutcome 0 a s t := by
  obtain ⟨x, later⟩ := second.other (d := 0) (by decide)
  obtain ⟨y, before⟩ := first.other (d := 1) (by decide)
  have leaves := second.leaves
  have judged := first.judged f
  have duty := first.duty f
  refine ⟨?_, fun ok failed => ?_, ⟨m.cooling.fans[0].target, ?_⟩, fun h => ?_⟩
  · rw [later]
    exact judged
  · refine fanFailed_settled (c := 0) (by rw [leaves.settings, first.leaves.settings]; exact f) failed fun l => ?_
    rw [later] at failed
    obtain ⟨-, -, -, grows, -⟩ := leaves.grows (by rw [← leaves.settings]; exact l)
    exact grows ((first.updated f).alarm ok failed)
  · rw [later]
    exact duty
  · obtain h | h := h
    · exact absurd h (by decide)
    · have same : t.cooling.fans[(0 : ChanIx)] = m.cooling.fans[(0 : ChanIx)] :=
        ((second.alone (h.trans (congrArg Fan.health before).symm)).2 0).2 (by decide)
      simpa only [same] using duty

theorem channel1_outcome (f : 1 < s.settings.fanCount) : ChannelOutcome 1 b s t := by
  obtain ⟨y, before⟩ := first.other (d := 1) (by decide)
  have settings := first.leaves.settings
  have fitted : (1 : ChanIx).val < m.settings.fanCount := by rw [settings]; exact f
  have judged := second.judged fitted
  have duty := second.duty fitted
  rw [settings, first.leaves.judging, before] at judged
  rw [settings, before] at duty
  refine ⟨judged, fun ok failed => ?_, ⟨_, duty⟩, fun _ => duty⟩
  refine fanFailed_settled (c := 1) (by rw [second.leaves.settings]; exact fitted) failed fun _ => ?_
  exact (second.updated fitted).alarm (by rw [before]; exact ok) failed

theorem channel_outcome {c : ChanIx} (f : c.val < s.settings.fanCount) :
    ChannelOutcome c (if c = 0 then a else b) s t := by
  match c with
  | 0 => exact channel0_outcome first second f
  | 1 => exact channel1_outcome first second f

/-- With both healths as they were nothing but the two records has changed. -/
theorem channels_alone (h : ∀ c : ChanIx, t.cooling.fans[c].health = s.cooling.fans[c].health) :
    t = { s with cooling := { s.cooling with fans := t.cooling.fans } } ∧
      ∀ c : ChanIx, t.cooling.fans[c].target = s.cooling.fans[c].target := by
  obtain ⟨x, later⟩ := second.other (d := 0) (by decide)
  obtain ⟨y, before⟩ := first.other (d := 1) (by decide)
  obtain ⟨record, targets⟩ := first.alone (by rw [← h 0, later])
  obtain ⟨record', targets'⟩ := second.alone (by rw [h 1, before])
  refine ⟨record'.trans ?_, fun c => (targets' c).1.trans (targets c).1⟩
  rw [record]

end

/-! ### The win -/

theorem claimWins_eq (m : Outgoing) (s : State) : claimWins m s = { s with budget := { s.budget with
    own := if isClaim m then { s.budget.own with state := .onBus, number := some s.budget.nextNumber }
      else s.budget.own } } := by
  cases m <;> rfl

/-- A win that is no update instant fixes the content alone (R8, R117). -/
theorem winBus_plain {m : Outgoing} {s : State} (a b : Nat) (h : m ≠ .standing ∨ s.census.isSome = true) :
    winBus m a b ⟨s, []⟩ =
      ⟨claimWins m { s with bus := { s.bus with onBus := some (m.cls, fixContent s m) } }, []⟩ := by
  simp only [winBus, beq_iff_eq]
  split
  · next e =>
    obtain ⟨d, census⟩ := Option.isSome_iff_exists.1 (h.resolve_left fun n => n e)
    subst e
    simp only [updateFans, Work.map, claimWins, census, Option.isNone_some, Bool.false_eq_true, if_false]
  · rfl

/-- Settles O15: the choice, the content and the slot ceilings by cases, and a STANDING's win channel by channel. -/
theorem winsLossesAndStops : Obligations.WinsLossesAndStops := by
  refine ⟨chooseNext_cases, fun s => ?_, slotCeiling_cases, fun s others a b m r idle chosen wins => ⟨fun plain => ?_,
    fun standing census => ?_⟩, fun s others a b m _ chosen loses => busIdle_loses a b chosen loses,
    fun s r sends => stop_requeues r sends⟩
  · obtain ⟨rollCall, claim, fixed⟩ := fixContent_cases s
    exact ⟨rollCall, claim, fixed, fixContent_standing s⟩
  · rw [busIdle_wins a b r idle chosen wins, winBus_plain a b plain, finish_done, claimWins_eq]
  · subst standing
    obtain ⟨v, t, updated, first, second⟩ := updateFans_channels (s := { s with
      bus := { s.bus with onBus := some (.routine, fixContent s .standing) } }) census a b
    have won : winBus .standing a b ⟨s, []⟩ = ⟨t, []⟩ := updated
    have leaves := first.leaves.trans second.leaves
    refine ⟨settleFlags t, by rw [busIdle_wins a b r idle chosen wins, won, finish_done], leaves.bus.onBus,
      leaves.bus.urgent, leaves.bus.routine, leaves.bus.lastServed, leaves.bus.sequence, leaves.nextNumber, leaves.peers,
      fun c => ⟨fun unfitted => ?_, fun fitted => ?_⟩, fun h => ?_⟩
    · exact (second.unfitted (by rw [first.leaves.settings]; exact unfitted)).trans (first.unfitted unfitted)
    · obtain ⟨⟨still, judged⟩, alarm, duty, settled⟩ := channel_outcome first second fitted
      exact ⟨still, judged, alarm, duty, settled⟩
    · obtain ⟨record, targets⟩ := channels_alone first second h
      exact ⟨congrArg settleFlags record, targets⟩

end Sys2Proof.Machine
end
